-- ==== Sys2Proof/Word.lean ====
section
/-! DEFINITION. The byte of both links, and the two roundings the manual uses everywhere.
The part computes on ranges of integers (00, "Units and quantities"), so every quantity but a byte of a frame is a
natural number or an integer; a byte is what the two links carry. -/

namespace Sys2Proof

/-- One byte of a frame on the Score Port or the Action Link. -/
abbrev Byte := BitVec 8

/-- The values of the link cycle counter: 2³² (R1). -/
abbrev cycleModulus : Nat := 4294967296

/-- clamp of 00, "Arithmetic". -/
def clampNat (x a b : Nat) : Nat := if x < a then a else if b < x then b else x

/-- clamp of 00, "Arithmetic", for a signed quantity. -/
def clampInt (x a b : Int) : Int := if x < a then a else if b < x then b else x

/-- A time in µs as ticks of 10 µs, rounded up: floor((µs + 9) / 10) (00, "Arithmetic"). -/
def ticksUp (us : Nat) : Nat := (us + 9) / 10

end Sys2Proof
end

