-- ==== Sys2Proof/Syntax.lean ====
section
/-! DEFINITION. The commands of the part, one constructor of `Instr` for each row of spec/opcode_table.json, and the
records they carry. Numbers a request brings are carried as they were sent, so that the owner's rule can refuse
them; the records of Table Memory are the judged ones. -/

namespace Sys2Proof

/-- Kinds of a replay event record (R121; codes 1..6 of 11.1). -/
inductive RecordKind
  | strike | release | silentPress | pedal | marker | endOfReplay
deriving DecidableEq, Repr

/-- A replay event record as the Replay Intake holds it (08, table of 8.1). -/
structure EventRecord where
  kind : RecordKind
  voice : Nat
  value : Nat
  time : Nat
deriving DecidableEq, Repr

/-- What a voice drives (06, table of 6.2). -/
inductive VoiceKind
  | key | pedal | invertedPedal
deriving DecidableEq, Repr

/-- A voice descriptor (06, table of 6.2). -/
structure VoiceDescriptor where
  present : Bool
  kind : VoiceKind
  target : Nat
  page : Nat
  trim : Nat
  accessed : Bool
  played : Bool
deriving DecidableEq, Repr

/-- The fields of a WriteDescriptor as sent (R174, code 14): codes and numbers not yet judged. -/
structure RawDescriptor where
  present : Nat
  kind : Nat
  target : Nat
  page : Nat
  trim : Nat
  accessed : Nat
  played : Nat
deriving DecidableEq, Repr

/-- A breakpoint: velocity, drive, flight of a Strike page, or position, drive, lead of a Pedal page (06, 6.3). -/
structure Breakpoint where
  input : Nat
  drive : Nat
  time : Nat
deriving DecidableEq, Repr

/-- The four scalars of a Strike page: attack duration, hold level, rearm interval, silent lead (06, 6.3). -/
structure Scalars where
  attack : Nat
  hold : Nat
  rearm : Nat
  silentLead : Nat
deriving DecidableEq, Repr

/-- A calibration page (06, 6.3). -/
inductive Page
  | strike (points : List Breakpoint) (scalars : Scalars)
  | pedal (points : List Breakpoint)
deriving DecidableEq, Repr

/-- What a WritePage supplies (R92): a page not yet judged, the kind Empty, or a kind code that is none of the three. -/
inductive RawPage
  | strike (points : List Breakpoint) (scalars : Scalars)
  | pedal (points : List Breakpoint)
  | empty
  | other (code : Nat)
deriving DecidableEq, Repr

/-- The key entry of the Key Sense Table (04, 4.2). -/
structure KeySense where
  gap : Nat
  residual : Nat
  minVelocity : Nat
deriving DecidableEq, Repr

/-- The pedal entry of the Key Sense Table (04, 4.2). -/
structure PedalSense where
  rawMin : Nat
  rawMax : Nat
  deadband : Nat
deriving DecidableEq, Repr

/-- The Key Sense Table: 97 key entries and 3 pedal entries (04, 4.2). -/
structure KeySenseTable where
  keys : Vector KeySense 97
  pedals : Vector PedalSense 3
deriving DecidableEq, Repr

/-- One voicing set: 128 descriptors (06). -/
abbrev VoicingSet := Vector VoiceDescriptor 128

/-- The sixteen page slots of one block of the Calibration Store (12.1). -/
abbrev PageBlock := Vector (Option Page) 16

/-- The content of one block of the Calibration Store (12.1). -/
inductive BlockContent
  | voicing (set : VoicingSet)
  | sense (table : KeySenseTable)
  | pages (slots : PageBlock)
deriving DecidableEq, Repr

/-- One non-volatile block (R181, R186): erased or never programmed, left part way through an erase or a programming,
or holding a content and a check value. -/
inductive StoreBlock
  | erased
  | partly
  | programmed (content : BlockContent) (check : BitVec 16)
deriving DecidableEq, Repr

/-- A calibration job (10.1). -/
structure Job where
  key : Nat
  slot : Nat
  levels : Nat
  minDrive : Nat
  maxDrive : Nat
  repeats : Nat
  spacing : Nat
deriving DecidableEq, Repr

/-- The fields of a SetProfile as sent (R174, code 23). -/
structure RawProfile where
  keyCount : Nat
  stations : Nat
  boundary : Nat
  autoPermit : Nat
deriving DecidableEq, Repr

/-- The ten options of 11.5, in the order of its table. -/
inductive OptionName
  | lateTolerance | lookAhead | dynamicsScale | verify | adaptiveTrim | outcomeReports | holdCap | yieldBase
  | windowWidth | statusPeriod
deriving DecidableEq, Repr

/-- The options in the order of 11.5. -/
def allOptions : List OptionName :=
  [.lateTolerance, .lookAhead, .dynamicsScale, .verify, .adaptiveTrim, .outcomeReports, .holdCap, .yieldBase,
    .windowWidth, .statusPeriod]

/-- A request of the table of R174 with its fields as sent. -/
inductive Request
  | setMode (mode : Nat)
  | transportStart (preroll : Nat)
  | transportPause
  | transportResume
  | transportStop
  | setCue (presence tick : Nat)
  | linkStart
  | linkStop
  | drivePermit
  | readRoster
  | clearKeyFault (key : Nat)
  | writeKeySense (type number first second third : Nat)
  | readKeySense (type number : Nat)
  | writeDescriptor (set voice : Nat) (fields : RawDescriptor)
  | readDescriptor (set voice : Nat)
  | writePage (slot : Nat) (page : RawPage)
  | readPage (slot : Nat)
  | selectVoicing (set : Nat)
  | invalidateVoice (voice : Nat)
  | invalidateAll
  | calibrateQueue (job : Job)
  | calibrateAbort
  | setProfile (fields : RawProfile)
  | setOptions (values : List (OptionName × Nat))
  | readStatus (clear : Nat)
  | restart
  | storeSave (first last : Nat)
  | storeRestore
deriving DecidableEq, Repr

/-- Something the part takes at a cycle start and whose place before or after the building of that cycle's frame, and
among the others, the manual leaves to the order of arrival (R4, R7, R29, R113, R143, R147, R158). -/
inductive StartAction
  /-- the cycle frame is built and sent (R18) -/
  | frame
  /-- the next waiting transport request or SetMode is taken (R4) -/
  | request
  /-- the Capture Queue's release (R77) -/
  | release
  /-- the current job's strike refused for room is asked again (R158) -/
  | retry
  /-- as the row PAUSE_LINK_LEFT -/
  | pauseLinkLeft
  /-- as the row CUE_REACHED -/
  | cueReached
  /-- as the row END_TICK -/
  | endTick
  /-- as the row CLOCK_END -/
  | clockEnd
  /-- as the row WINDOW_EXPIRY -/
  | windowExpiry (key : Nat)
  /-- as the row JOB_START -/
  | jobStart
  /-- as the row RECOVERY_LIMIT_EXPIRY -/
  | recoveryLimit
  /-- as the row ADMIT_RECORD -/
  | admitRecord
  /-- as the row WALK_DESCRIPTOR_READ -/
  | walkRead
  /-- as the row WALK_COMPLETE -/
  | walkEnd
deriving DecidableEq, Repr

/-- The commands: the rows of spec/opcode_table.json. A request row stands for that request with its tag being taken by
its owner; REQUEST_FRAME, EVENTS_FRAME and FRAME_ERRORS stand for bytes arriving on the Score Port. -/
inductive Instr
  | powerOn
  | coldResetSupplyLow
  | resetPin
  | restartReset
  | cycleStart (order : List StartAction)
  | transportStart (tag : Byte) (preroll : Nat)
  | transportPause (tag : Byte)
  | transportResume (tag : Byte)
  | transportStop (tag : Byte)
  | setCue (tag : Byte) (presence tick : Nat)
  | setMode (tag : Byte) (mode : Nat)
  | pauseLinkLeft
  | cueReached
  | endTick
  | clockEnd
  | releaseEndExpiry (key : Nat)
  | returnFrame (elapsed : Nat) (bytes : List Byte)
  | returnExpiry
  | recoveryLimitExpiry
  | yieldWaitEnd (key : Nat)
  | windowExpiry (key : Nat)
  | jobStart
  | admitRecord
  | walkDescriptorRead
  | walkComplete
  | eventsFrame (tag : Byte) (records : List EventRecord)
  | frameErrors (bytes : List Byte)
  | requestFrame (tag : Byte) (payload : List Byte)
  | transmitComplete
  | statusPeriodExpiry
  | linkStart (tag : Byte)
  | linkStop (tag : Byte)
  | drivePermit (tag : Byte)
  | readRoster (tag : Byte)
  | clearKeyFault (tag : Byte) (key : Nat)
  | writeKeySense (tag : Byte) (type number first second third : Nat)
  | readKeySense (tag : Byte) (type number : Nat)
  | writeDescriptor (tag : Byte) (set voice : Nat) (fields : RawDescriptor)
  | readDescriptor (tag : Byte) (set voice : Nat)
  | writePage (tag : Byte) (slot : Nat) (page : RawPage)
  | readPage (tag : Byte) (slot : Nat)
  | selectVoicing (tag : Byte) (set : Nat)
  | invalidateVoice (tag : Byte) (voice : Nat)
  | invalidateAll (tag : Byte)
  | calibrateQueue (tag : Byte) (job : Job)
  | calibrateAbort (tag : Byte)
  | setProfile (tag : Byte) (fields : RawProfile)
  | setOptions (tag : Byte) (values : List (OptionName × Nat))
  | readStatus (tag : Byte) (clear : Nat)
  | restart (tag : Byte)
  | storeSave (tag : Byte) (first last : Nat)
  | storeRestore (tag : Byte)
  | storeEraseComplete
  | storeProgramComplete (medium : Option StoreBlock)
  | storeVerifyComplete
  | storeReadComplete
deriving DecidableEq, Repr

end Sys2Proof
end

