-- ==== Sys2Proof/Config.lean ====
section
/-! DEFINITION. What the part fixes (its intervals and limits, as the rules give them) and the one thing the manual
leaves open: the byte layout of a Calibration Store block's content. -/

namespace Sys2Proof
namespace Config

/-- The bytes of a block's content in the order in which its check is formed (R181 forms the check "over the content"
and gives no layout). UNINTERPRETED: no body, so no proof can rest on a layout (DESIGN CHOICE, log 5). -/
opaque contentBytes : BlockContent → List Byte

/-- Settle interval of the Capture Queue, ticks (R77). -/
def settleInterval : Nat := 50
/-- Return expiry, µs after the send (R21). -/
def returnExpiry : Nat := 160
/-- Recovery limit, cycle starts (R29). -/
def recoveryLimit : Nat := 500
/-- Take cycle at whose start the take clock ends (R3). -/
def clockEndCycle : Nat := 214748364
/-- Consecutive valid returns that end WAKING and LOST (R25, R29). -/
def validReturns : Nat := 16
/-- Consecutive missing returns that lead to LOST (R29). -/
def missingReturns : Nat := 3
/-- Valid returns without a section that make a station Absent (R33). -/
def absentAfter : Nat := 8
/-- Level cap while a station is over temperature (R48, R111). -/
def hotCap : Nat := 768
/-- Greatest drive level (00). -/
def topLevel : Nat := 1023
/-- Longest rising stroke, µs (R61). -/
def strokeLimit : Nat := 65535
/-- Span of a calibration strike's window, ticks (R144). -/
def sequencerSpan : Nat := 10000
/-- Commands in one section (R136). -/
def sectionPlaces : Nat := 24
/-- The scalars a job takes when its slot holds no Strike page (R157). -/
def defaultScalars : Scalars := { attack := 12000, hold := 300, rearm := 35000, silentLead := 18000 }

end Config
end Sys2Proof
end

