-- ==== Sys2Proof/Decode.lean ====
section
/-! DEFINITION. The command a word spells by the bits of spec/opcode_table.json. No row of the table gives any bits
("fields": [] in every row and no fixed bits), so no word spells a command. The frames of the two links are decoded in
Machine/Operands.lean and Machine/Bytes.lean. -/

namespace Sys2Proof

/-- No row of the table has bits: every word is answered none. -/
def decodeTableWord (_nbits _w : Nat) : Option Instr := none

end Sys2Proof
end

