-- ==== Sys2Proof/Machine/State.lean ====
section
/-! DEFINITION. The state of the part, block by block (00, "Block overview"), as plain data, and the state right after
power is applied. Keys, pedals and stations are numbered from 1 as the manual numbers them; entry i of a vector is
key, pedal or station i + 1. -/

namespace Sys2Proof.Machine

/-- Why a command stops the machine. The part has no such case: every arrival the manual describes has an outcome, so
there is no constructor and no meaning raises a fault. -/
inductive Fault
deriving DecidableEq, Repr

/-- Why a command has no meaning. -/
inductive Refusal
  /-- raised by an arm of `exec` for a row that has no meaning yet; safe. No arm raises it now. -/
  | notModelled (mnemonic : String)
deriving DecidableEq, Repr

/-! ### Time Base (01) -/

/-- Transport state (01, table of 1.1). -/
inductive Transport
  | stopped | running | paused
deriving DecidableEq, Repr

/-- Mode (01, 1.4). -/
inductive Mode
  | idle | capture | replay | duplex | calibrate
deriving DecidableEq, Repr

/-- A departure of the link from DRIVING that waits for its Pause at the next cycle start (R8, R36): armed in the cycle
in progress, due once a cycle start has come. -/
inductive LinkLeft
  | none | armed | due
deriving DecidableEq, Repr

/-- State of the Time Base (01, table of 1.1), the tick of the cycle in progress, the requests waiting for the next
cycle start in their order of arrival (R4), and a waiting link departure (R8). -/
structure TimeBase where
  linkCycle : Nat
  tick : Nat
  takeBase : Option Nat
  transport : Transport
  preroll : Nat
  shift : Nat
  pauseStart : Option Nat
  cue : Option Nat
  endTick : Option Nat
  mode : Mode
  waiting : List (Byte × Request)
  linkLeft : LinkLeft
deriving DecidableEq, Repr

/-! ### Action Link Controller (02, 03) -/

/-- Action Link state (02, 2.5). -/
inductive LinkState
  | down | waking | aligning | ready | driving | lost
deriving DecidableEq, Repr

/-- Role of a station (02, 2.1). -/
inductive Role
  | scanner | driver | combined
deriving DecidableEq, Repr

/-- The fields of a good station record (02, station record table). `pedals` is the byte of pedals served: bit q - 1
for pedal q. -/
structure StationRecord where
  role : Role
  firstKey : Nat
  lastKey : Nat
  pedals : Nat
  temperature : Int
  alpha : Nat
  arrival : Nat
  latency : Nat
deriving DecidableEq, Repr

/-- A roster entry (02, table of 2.6). -/
structure RosterEntry where
  present : Bool
  role : Role
  firstKey : Nat
  lastKey : Nat
  pedals : Nat
  temperature : Int
  measured : Bool
  alpha : Nat
  arrival : Nat
  latency : Nat
  missing : Nat
deriving DecidableEq, Repr

/-- Reason of a failing roster check (R27). -/
inductive RosterReason
  | count | keys | pedals
deriving DecidableEq, Repr

/-- The echo held for the next frame (R39). -/
inductive Echo
  | idle
  | accepted (station : Nat)
  | collision
deriving DecidableEq, Repr

/-- A multiframe being collected (R26): the position field of each return so far, latest first, and the slow bytes each
station has sent in them, latest first. -/
structure Collection where
  positions : List Nat
  bytes : Vector (List Byte) 8
deriving DecidableEq, Repr

/-- The recovery limit of LOST (R29): cycle starts since the entry, and the state LOST was entered from. -/
structure Recovery where
  cycles : Nat
  source : LinkState
deriving DecidableEq, Repr

/-- An open link gap (R37): its first missing link cycle, and whether a TransportStop or SetMode Idle was taken while it
was open. -/
structure Gap where
  firstMissing : Nat
  stopped : Bool
deriving DecidableEq, Repr

/-- Kind of an Action Link command (02, 2.3). -/
inductive CommandKind
  | off | attack | hold | pedalSet
deriving DecidableEq, Repr

/-- A command as a section carries it (02, 2.3). -/
structure Command where
  kind : CommandKind
  target : Nat
  level : Nat
  holdLevel : Nat
  attack : Nat
  fine : Nat
deriving DecidableEq, Repr

/-- A downstream cycle frame (R18): its fields; position is 0 and the notice slot empty in every one. The sections are
those of stations 1..8 in order. -/
structure CycleFrame where
  cycle : Nat
  state : LinkState
  echo : Echo
  slow : Byte
  sections : List (List Command)
deriving DecidableEq, Repr

/-- State of the Action Link Controller (R38, R50). -/
structure ActionLink where
  state : LinkState
  permit : Bool
  roster : Vector (Option RosterEntry) 8
  rosterChanged : Bool
  returnTime : Nat
  valid : Nat
  missing : Nat
  firstMissing : Nat
  expiry : Option Nat
  recovery : Option Recovery
  gap : Option Gap
  collection : Option Collection
  lastReason : Option RosterReason
  echo : Echo
  supplyLow : Vector Bool 8
  overTemp : Vector Bool 8
  faults : Vector Bool 97
  blinder : Vector (Option Nat) 97
  frameOut : Option CycleFrame
deriving DecidableEq, Repr

/-! ### Capture Tracker (04) -/

/-- The four gates of a key (04). -/
inductive Gate
  | kr | kd | h1 | h2
deriving DecidableEq, Repr

/-- Tracker states (04, 4.4). -/
inductive TrackState
  | atRest | down | rising | struck | checked | silentHeld | blind
deriving DecidableEq, Repr

/-- Who moved the key in the current depression (04, 4.4). -/
inductive Owner
  | performer | replay
deriving DecidableEq, Repr

/-- The instant of a crossing (R52): link cycle and fine offset in µs. -/
structure Instant where
  cycle : Nat
  fine : Nat
deriving DecidableEq, Repr

/-- One tracker record (04, 4.4). -/
structure TrackerRecord where
  state : TrackState
  h1 : Option Instant
  sounded : Bool
  owner : Owner
  lastStamp : Option Nat
deriving DecidableEq, Repr

/-- A pedal's capture record (R73). -/
structure PedalCapture where
  position : Nat
  lastEmitted : Option Nat
deriving DecidableEq, Repr

/-- State of the Capture Tracker. -/
structure CaptureTracker where
  keys : Vector TrackerRecord 97
  pedals : Vector PedalCapture 3
deriving DecidableEq, Repr

/-! ### Capture Queue (05) -/

/-- Kinds of captured events, in the order of R75 for equal stamp and voice. -/
inductive CaptureKind
  | release | strike | silentPress | pedal | linkGap
deriving DecidableEq, Repr

/-- A captured event (05). -/
structure CaptureEvent where
  kind : CaptureKind
  voice : Nat
  stamp : Nat
  value : Nat
deriving DecidableEq, Repr

/-- The take summary (05). -/
structure TakeSummary where
  takeOpen : Bool
  events : Nat
  first : Option Nat
  last : Option Nat
  incomplete : Bool
  overflow : Nat
  lost : Nat
  order : Nat
  brush : Nat
deriving DecidableEq, Repr

/-- State of the Capture Queue. -/
structure CaptureQueue where
  events : List CaptureEvent
  summary : TakeSummary
deriving DecidableEq, Repr

/-! ### Table Memory (06, 04) and the Voice Cache (06) -/

/-- Table Memory: four voicing sets, 512 page slots in 32 blocks of 16, the Key Sense Table. -/
structure TableMemory where
  sets : Vector VoicingSet 4
  pages : Vector PageBlock 32
  sense : KeySenseTable
deriving DecidableEq, Repr

/-- An entry of the Voice Cache (06, 6.5). -/
structure CacheEntry where
  voice : Nat
  set : Nat
  kind : VoiceKind
  target : Nat
  slot : Nat
  trim : Nat
  page : Page
deriving DecidableEq, Repr

/-- A walk in flight (R98): its voice and set, the descriptor once it has been read, and the page slot's content (none for an
empty slot) once that has been read. -/
structure Walk where
  voice : Nat
  set : Nat
  descriptor : Option VoiceDescriptor
  page : Option (Option Page)
deriving DecidableEq, Repr

/-- The active voicing set, the Voice Cache (most recently used first) and the walk in flight. -/
structure VoiceUnit where
  activeSet : Nat
  entries : List CacheEntry
  walk : Option Walk
deriving DecidableEq, Repr

/-! ### Drive Schedule (08) -/

/-- Kinds of schedule entries, in the order of R124 for equal onset and target. -/
inductive EntryKind
  | off | attack | hold | pedalSet | marker | endOfReplay
deriving DecidableEq, Repr

/-- The voice and voicing set something came through. -/
structure Via where
  voice : Nat
  set : Nat
deriving DecidableEq, Repr

/-- A schedule entry (08, 8.2). `target` is 0 for Marker and End. `strike` and `velocity` are what the dispatch of an
Attack hands over (R125, R137; DESIGN CHOICE, log 8). -/
structure Entry where
  kind : EntryKind
  onset : Nat
  target : Nat
  level : Nat
  holdLevel : Nat
  attack : Nat
  rearm : Nat
  via : Option Via
  note : Option Nat
  marker : Nat
  strike : Nat
  velocity : Nat
deriving DecidableEq, Repr

/-- What last set a note's Off tick (08, 8.2). -/
inductive OffOrigin
  | provisional | stream | advanced | capped | paused
deriving DecidableEq, Repr

/-- A note (08, 8.2). `id` is the model's name for it (DESIGN CHOICE, log 8). -/
structure Note where
  id : Nat
  onset : Nat
  attack : Nat
  rearm : Nat
  strike : Option Nat
  off : Nat
  origin : OffOrigin
  attackDispatched : Bool
  offDispatched : Bool
  owed : Bool
  via : Option Via
  velocity : Option Nat
deriving DecidableEq, Repr

/-- Drive states of a key (R126). -/
inductive DriveState
  | idle | armed | sounding | releasing | yielded | faulted
deriving DecidableEq, Repr

/-- A Key Drive Record (08, 8.2). -/
structure KeyDrive where
  state : DriveState
  notes : List Note
  driven : Bool
  attackEnd : Option Nat
  lastRearm : Option Nat
  rearmBase : Option Nat
  releaseEnd : Option Nat
  immediateOff : Bool
deriving DecidableEq, Repr

/-- A pedal drive record (08, 8.2). -/
structure PedalDrive where
  level : Option Nat
  rest : Bool
deriving DecidableEq, Repr

/-- State of the Drive Schedule. -/
structure DriveSchedule where
  entries : List Entry
  keys : Vector KeyDrive 97
  pedals : Vector PedalDrive 3
  nextNote : Nat
deriving DecidableEq, Repr

/-! ### Duplex Monitor (09) -/

/-- Holder of a window (09, 9.1), with the fields a Monitor entry alone has: V_cmd and the voice. -/
inductive Holder
  | monitor (commanded : Nat) (via : Via)
  | sequencer
deriving DecidableEq, Repr

/-- An entry of the Expectation Table (09, 9.1). The window start is signed. -/
structure Window where
  holder : Holder
  strike : Nat
  start : Int
  stop : Nat
  close : Nat
deriving DecidableEq, Repr

/-- A yield record (09, 9.6): the key is waiting while a requirement is present. -/
structure YieldRecord where
  requirement : Option Nat
  rest : Nat
  level : Nat
deriving DecidableEq, Repr

/-- State of the Duplex Monitor. -/
structure DuplexMonitor where
  windows : Vector (Option Window) 97
  yields : Vector YieldRecord 97
deriving DecidableEq, Repr

/-! ### Calibration Sequencer (10) -/

/-- Strike state of the current job (10.2). -/
inductive StrikeState
  | pending | admitted | measuring
deriving DecidableEq, Repr

/-- An entry of the sample list (10.2): level, measured strikes, and the sample's velocity and flight. -/
structure Sample where
  level : Nat
  measured : Nat
  reading : Option (Nat × Nat)
deriving DecidableEq, Repr

/-- The current job (10.2). The strike index counts from 1. -/
structure CurrentJob where
  job : Job
  scalars : Scalars
  attack : Nat
  rearm : Nat
  level : Nat
  strike : Nat
  state : StrikeState
  planned : Nat
  onset : Option Nat
  measured : Nat
  sumVelocity : Nat
  sumFlight : Nat
  samples : List Sample
deriving DecidableEq, Repr

/-- State of the Calibration Sequencer. The queue holds the current job at its head while it runs (R156). `testDue` says
that this cycle start's test of R157 is still to be made (DESIGN CHOICE, log 7). -/
structure Sequencer where
  queue : List Job
  current : Option CurrentJob
  testDue : Bool
deriving DecidableEq, Repr

/-! ### Score Port Controller (11) -/

/-- The status counters, in the order of the table of 11.6. -/
inductive Counter
  | late | stale | clamped | saturated | deferred | postponed | holdCapped | orphan | voiceAbsent | keyFault
  | keyUnavailable | yielded | contention | stray | brush | sensorOrder | crossingsLost | captureOverflow
  | intakeOverrun | frameErrors | linkLosses | transmitDrops
deriving DecidableEq, Repr

/-- The Instrument Profile (11.4). -/
structure Profile where
  keyCount : Nat
  stations : Nat
  boundary : Nat
  autoPermit : Bool
deriving DecidableEq, Repr

/-- The options (11.5). holdCap is held in ticks (R176). -/
structure Options where
  lateTolerance : Nat
  lookAhead : Nat
  dynamicsScale : Nat
  verify : Bool
  adaptiveTrim : Bool
  outcomeReports : Bool
  holdCap : Nat
  yieldBase : Nat
  windowWidth : Nat
  statusPeriod : Nat
deriving DecidableEq, Repr

/-- Reset cause (R178). -/
inductive ResetCause
  | powerOn | supplyLow | pin | restart
deriving DecidableEq, Repr

/-- Result of a request (R173; coded 1..6 in this order, R174). -/
inductive Result
  | done | busy | state | range | locked | unknown
deriving DecidableEq, Repr

/-- Data of a Reply (R174). -/
inductive ReplyData
  | nothing
  /-- RANGE: the failing field's place, 0 for the reason Length -/
  | field (place : Nat)
  /-- RANGE of a WritePage: place, and breakpoint index or 255 -/
  | pageField (place index : Nat)
  /-- UNKNOWN: the code found -/
  | code (found : Nat)
  | started (preroll takeBase : Nat)
  | roster (entries : List (Option RosterEntry)) (link : LinkState) (permit changed : Bool)
      (conditions : List (Bool × Bool)) (faults : List Nat)
  | keySense (entry : KeySense)
  | pedalSense (entry : PedalSense)
  | descriptor (entry : VoiceDescriptor)
  | page (content : Option Page)
  | removed (was : Bool)
  | removedCount (count : Nat)
  | jobs (held : Nat)
  | aborted (current : Bool) (discarded : Nat)
  | profile (held : Profile)
  /-- SetOptions: every option as held after the request -/
  | options (held : Options)
  /-- SetOptions refused: the option's place, then every option -/
  | optionRange (place : Nat) (held : Options)
deriving DecidableEq, Repr

/-- Cause of a Pause (R6, R8). -/
inductive PauseCause
  | request | linkLeft
deriving DecidableEq, Repr

/-- Cause of a LinkState report (R30). -/
inductive LinkCause
  | request | returns | roster | missing | limit | auto
deriving DecidableEq, Repr

/-- Effect of an accepted notice (R43). -/
inductive NoticeEffect
  | applied | noChange | ignored
deriving DecidableEq, Repr

/-- Cause of a Stop in a TakeSummary (R82). -/
inductive StopCause
  | request | modeIdle | endReached | clockEnd
deriving DecidableEq, Repr

/-- Outcome of a StrikeOutcome record (R148). -/
inductive StrikeResult
  | verified | missed | superseded
deriving DecidableEq, Repr

/-- The fields of a StrikeOutcome record (R148). -/
structure StrikeOutcome where
  outcome : StrikeResult
  key : Nat
  via : Via
  strike : Nat
  commanded : Nat
  measured : Option Nat
  timing : Option Int
  step : Option Int
  trimAfter : Option Nat
  limited : Bool
deriving DecidableEq, Repr

/-- Reason of a JobFailed (R167). -/
inductive JobReason
  | fewSamples | keyFault | keyUnavailable | yielded | noSensing | overTemperature
deriving DecidableEq, Repr

/-- Cause of a JobAborted (R166). -/
inductive AbortCause
  | request | modeIdle | linkLeft | stop
deriving DecidableEq, Repr

/-- Result of a block in a save (R183). -/
inductive SaveResult
  | saved | failed | guarded
deriving DecidableEq, Repr

/-- Cause of a restore (R184). -/
inductive RestoreCause
  | request | automatic
deriving DecidableEq, Repr

/-- Result of a block in a restore (R184). -/
inductive LoadResult
  | loaded | bad
deriving DecidableEq, Repr

/-- The reports (11.7), each with the fields its rule lists. -/
inductive Report
  | paused (start : Nat) (cause : PauseCause)
  | resumed (delta shift : Nat)
  | cueReached (cue start : Nat)
  | marker (value onset : Nat)
  | replayComplete (endTick : Nat)
  | linkState (entered left : LinkState) (cycle : Nat) (cause : LinkCause)
  | rosterFault (reason : RosterReason) (position records : Nat) (lowest : Option Nat)
  | noticeAccepted (station kind key gate cycle : Nat) (effect : NoticeEffect)
  | strikeOutcome (fields : StrikeOutcome)
  | jobDone (key slot level : Nat) (samples : List (Sample × Bool)) (breakpoints : Nat)
  | jobFailed (key slot : Nat) (reason : JobReason) (level : Nat) (samples : List (Sample × Option Bool))
  | jobAborted (key slot : Option Nat) (cause : AbortCause) (level : Option Nat) (discarded : Nat)
  | takeSummary (summary : TakeSummary) (cause : StopCause)
  | saveDone (first last : Nat) (results : List SaveResult)
  | restoreDone (cause : RestoreCause) (results : List LoadResult)
deriving DecidableEq, Repr

/-! ### Calibration Store (12) -/

/-- Stage of a save (R183). -/
inductive SaveStage
  | erasing | programming | verifying
deriving DecidableEq, Repr

/-- A save in flight (R183): stage and block in progress, range, the boundary read when it was taken (R182), what is
being written to the block, and the results so far in ascending order. -/
structure SaveOp where
  stage : SaveStage
  block : Nat
  first : Nat
  last : Nat
  boundary : Nat
  written : StoreBlock
  results : List SaveResult
deriving DecidableEq, Repr

/-- A restore in flight (R184). -/
structure RestoreOp where
  block : Nat
  cause : RestoreCause
  results : List LoadResult
deriving DecidableEq, Repr

/-- The operation in flight. The store operation state of 12.1 is read from it. -/
inductive StoreOp
  | idle
  | save (op : SaveOp)
  | restore (op : RestoreOp)
deriving DecidableEq, Repr

/-- The Calibration Store. -/
structure CalibrationStore where
  blocks : Vector StoreBlock 37
  op : StoreOp
deriving DecidableEq, Repr

/-- A Status frame's fields (11.6). The store state is the operation in flight; the counters stand in the order of
`Counter`. -/
structure StatusRecord where
  solicited : Bool
  cause : ResetCause
  keyCount : Option Nat
  mode : Mode
  transport : Transport
  takeClock : Nat
  shift : Nat
  link : LinkState
  returnTime : Nat
  activeSet : Nat
  space : Nat
  scheduled : Nat
  captured : Nat
  store : StoreOp
  counters : List Nat
deriving DecidableEq, Repr

/-- A frame the part sends up the Score Port (11.1). -/
inductive Upstream
  | reply (tag : Byte) (request : Nat) (result : Result) (data : ReplyData)
  | status (tag : Byte) (fields : StatusRecord)
  | report (cycle : Nat) (fields : Report)
  | capture (events : List CaptureEvent)
deriving DecidableEq, Repr

/-- Progress of a Restart (R179): none, its Reply not yet sent, its Reply sent. -/
inductive RestartState
  | none | replying | due
deriving DecidableEq, Repr

/-- State of the Score Port Controller. `line` is the space field of the frame being sent, which is the queue's head;
none while the line is free. `timer` is the status period being timed, in ms. -/
structure ScorePort where
  received : List Byte
  queue : List Upstream
  line : Option Nat
  counters : Vector Nat 22
  timer : Option Nat
  profile : Option Profile
  options : Options
  cause : ResetCause
  restart : RestartState
deriving DecidableEq, Repr

/-- The whole state of the part, and the commands waiting to be taken, first in first out. -/
structure State where
  time : TimeBase
  link : ActionLink
  tracker : CaptureTracker
  capture : CaptureQueue
  mem : TableMemory
  voices : VoiceUnit
  intake : List EventRecord
  sched : DriveSchedule
  duplex : DuplexMonitor
  calib : Sequencer
  port : ScorePort
  store : CalibrationStore
  pending : List Instr
deriving DecidableEq, Repr

/-! ### Reset values -/

/-- R16. -/
def TimeBase.initial : TimeBase :=
  { linkCycle := 0, tick := 0, takeBase := none, transport := .stopped, preroll := 0, shift := 0, pauseStart := none,
    cue := none, endTick := none, mode := .idle, waiting := [], linkLeft := .none }

/-- R38, R50. The first missing cycle of R23, of which R38 says nothing, is 0 (DESIGN CHOICE, log 40). -/
def ActionLink.initial : ActionLink :=
  { state := .down, permit := false, roster := Vector.replicate 8 none, rosterChanged := false, returnTime := 0,
    valid := 0, missing := 0, firstMissing := 0, expiry := none, recovery := none, gap := none, collection := none,
    lastReason := none, echo := .idle, supplyLow := Vector.replicate 8 false, overTemp := Vector.replicate 8 false,
    faults := Vector.replicate 97 false, blinder := Vector.replicate 97 none, frameOut := none }

/-- R57: the record of a key at rest. -/
def TrackerRecord.initial : TrackerRecord :=
  { state := .atRest, h1 := none, sounded := false, owner := .performer, lastStamp := none }

/-- R73. -/
def PedalCapture.initial : PedalCapture := { position := 0, lastEmitted := none }

/-- R57, R73. -/
def CaptureTracker.initial : CaptureTracker :=
  { keys := Vector.replicate 97 TrackerRecord.initial, pedals := Vector.replicate 3 PedalCapture.initial }

/-- R83. -/
def TakeSummary.initial : TakeSummary :=
  { takeOpen := false, events := 0, first := none, last := none, incomplete := false, overflow := 0, lost := 0,
    order := 0, brush := 0 }

/-- R75, R83. -/
def CaptureQueue.initial : CaptureQueue := { events := [], summary := TakeSummary.initial }

/-- A cleared descriptor (R85). -/
def clearedDescriptor : VoiceDescriptor :=
  { present := false, kind := .key, target := 1, page := 0, trim := 1000, accessed := false, played := false }

/-- Defaults of the Key Sense Table (04, 4.2). -/
def defaultKeySense : KeySense := { gap := 2500, residual := 1500, minVelocity := 50 }

/-- Defaults of the Key Sense Table (04, 4.2). -/
def defaultPedalSense : PedalSense := { rawMin := 0, rawMax := 4095, deadband := 2 }

/-- A cleared voicing set (R85). -/
def clearedSet : VoicingSet := Vector.replicate 128 clearedDescriptor

/-- Sixteen empty slots (R85). -/
def emptyPages : PageBlock := Vector.replicate 16 none

/-- The Key Sense Table at its defaults (R53). -/
def defaultSense : KeySenseTable :=
  { keys := Vector.replicate 97 defaultKeySense, pedals := Vector.replicate 3 defaultPedalSense }

/-- Cleared Table Memory (R85, R53). -/
def TableMemory.cleared : TableMemory :=
  { sets := Vector.replicate 4 clearedSet, pages := Vector.replicate 32 emptyPages, sense := defaultSense }

/-- R85, R96. -/
def VoiceUnit.initial : VoiceUnit := { activeSet := 0, entries := [], walk := none }

/-- R126: a key's record with no note and nothing driven. -/
def KeyDrive.initial : KeyDrive :=
  { state := .idle, notes := [], driven := false, attackEnd := none, lastRearm := none, rearmBase := none,
    releaseEnd := none, immediateOff := false }

/-- R126. -/
def PedalDrive.initial : PedalDrive := { level := none, rest := false }

/-- R124, R125, R126. -/
def DriveSchedule.initial : DriveSchedule :=
  { entries := [], keys := Vector.replicate 97 KeyDrive.initial, pedals := Vector.replicate 3 PedalDrive.initial,
    nextNote := 0 }

/-- R154. -/
def YieldRecord.initial : YieldRecord := { requirement := none, rest := 0, level := 0 }

/-- R154, R155. -/
def DuplexMonitor.initial : DuplexMonitor :=
  { windows := Vector.replicate 97 none, yields := Vector.replicate 97 YieldRecord.initial }

/-- R168. -/
def Sequencer.initial : Sequencer := { queue := [], current := none, testDue := false }

/-- The defaults of 11.5. -/
def Options.defaults : Options :=
  { lateTolerance := 3000, lookAhead := 150000, dynamicsScale := 1000, verify := false, adaptiveTrim := false,
    outcomeReports := false, holdCap := 2000000, yieldBase := 2500, windowWidth := 500, statusPeriod := 100 }

/-- The automatic restore at its start (R184). -/
def RestoreOp.automatic : RestoreOp := { block := 0, cause := .automatic, results := [] }

/-- The status frame handed when a reset ends (R178): the reset cause, mode Idle, link DOWN, counters 0, and the store
operation of the reset. -/
def resetStatus (cause : ResetCause) (op : StoreOp) : StatusRecord :=
  { solicited := false, cause := cause, keyCount := none, mode := .idle, transport := .stopped, takeClock := 0,
    shift := 0, link := .down, returnTime := 0, activeSet := 0, space := 64, scheduled := 0, captured := 0,
    store := op, counters := List.replicate 22 0 }

/-- R180: the Score Port Controller after a reset, the status frame of R178 at the head of its queue and on the line. -/
def ScorePort.initial (cause : ResetCause) (op : StoreOp) : ScorePort :=
  { received := [], queue := [.status 0 (resetStatus cause op)], line := some 64, counters := Vector.replicate 22 0,
    timer := none, profile := none, options := Options.defaults, cause := cause, restart := .none }

/-- Every block but Table Memory and the store's blocks after a reset. -/
def State.fresh (cause : ResetCause) (mem : TableMemory) (store : CalibrationStore) (pending : List Instr) : State :=
  { time := TimeBase.initial, link := ActionLink.initial, tracker := CaptureTracker.initial,
    capture := CaptureQueue.initial, mem := mem, voices := VoiceUnit.initial, intake := [],
    sched := DriveSchedule.initial, duplex := DuplexMonitor.initial, calib := Sequencer.initial,
    port := ScorePort.initial cause store.op, store := store, pending := pending }

/-- The part right after power is applied: a cold reset, its automatic restore begun (R178, R184), on a store that was
never programmed (DESIGN CHOICE, log 6). -/
def State.reset : State :=
  State.fresh .powerOn TableMemory.cleared
    { blocks := Vector.replicate 37 .erased, op := .restore RestoreOp.automatic } []

end Sys2Proof.Machine
end

