-- ==== Sys2Proof/Machine/Bytes.lean ====
section
/-! DEFINITION. Bytes of the two links: the CRC-16, byte order, the downstream cycle frame (02, 2.3) and the upstream
frames of the Score Port (11.1, R174). -/

namespace Sys2Proof


/-! ### Check and byte order -/

/-- One bit of the CRC-16 with polynomial x¹⁶ + x¹² + x⁵ + 1, most significant bit first (02, 2.3). -/
def crcBit (c : BitVec 16) : BitVec 16 := if c.msb then (c <<< 1) ^^^ 0x1021#16 else c <<< 1

/-- One byte of the CRC-16. -/
def crcByte (c : BitVec 16) (b : Byte) : BitVec 16 :=
  let c := c ^^^ (b.setWidth 16 <<< 8)
  crcBit (crcBit (crcBit (crcBit (crcBit (crcBit (crcBit (crcBit c)))))))

/-- The CRC-16 of both links: initial value all ones, result as it stands (02, 2.3; 11.1). -/
def crc16 (bytes : List Byte) : BitVec 16 := bytes.foldl crcByte 0xFFFF#16

/-- A number in `width` bytes, most significant first; the number is taken modulo 256 ^ width. -/
def numBytes : Nat → Nat → List Byte
  | 0, _ => []
  | width + 1, n => BitVec.ofNat 8 (n / 256 ^ width) :: numBytes width n

/-- A signed quantity in two's complement in `width` bytes (R174). -/
def intBytes (width : Nat) (n : Int) : List Byte := numBytes width (n % (256 ^ width : Nat)).toNat

/-- The number some bytes hold, most significant first. -/
def bytesNum (bytes : List Byte) : Nat := bytes.foldl (fun n b => n * 256 + b.toNat) 0

/-- The two bytes of a check. -/
def crcBytes (c : BitVec 16) : List Byte := numBytes 2 c.toNat

/-- yes 1, no 0 (R174). -/
def flagByte (b : Bool) : List Byte := [if b then 1 else 0]

/-- A field that may be absent (R174). -/
def optBytes {α : Type} (enc : α → List Byte) : Option α → List Byte
  | none => [0]
  | some a => 1 :: enc a

/-- A list, preceded by the number of its items (R174). -/
def listBytes {α : Type} (enc : α → List Byte) (l : List α) : List Byte :=
  BitVec.ofNat 8 l.length :: l.flatMap enc

/-! ### Records of the requests and of Table Memory -/

def VoiceKind.code : VoiceKind → Nat
  | .key => 1 | .pedal => 2 | .invertedPedal => 3

/-- Downstream event record kinds (11.1). -/
def RecordKind.code : RecordKind → Nat
  | .strike => 1 | .release => 2 | .silentPress => 3 | .pedal => 4 | .marker => 5 | .endOfReplay => 6

def KeySense.bytes (e : KeySense) : List Byte := numBytes 2 e.gap ++ numBytes 2 e.residual ++ numBytes 2 e.minVelocity

/-- A pedal's Key Sense entry as ReadKeySense sends it, the deadband in the one byte its range needs (DEDUCED, log 45). -/
def PedalSense.bytes (e : PedalSense) : List Byte := numBytes 2 e.rawMin ++ numBytes 2 e.rawMax ++ numBytes 1 e.deadband

def VoiceDescriptor.bytes (d : VoiceDescriptor) : List Byte :=
  flagByte d.present ++ numBytes 1 d.kind.code ++ numBytes 1 d.target ++ numBytes 2 d.page ++ numBytes 2 d.trim ++
    flagByte d.accessed ++ flagByte d.played

def Breakpoint.bytes (p : Breakpoint) : List Byte := numBytes 2 p.input ++ numBytes 2 p.drive ++ numBytes 2 p.time

/-- A replay event as an 8-byte event record (11.1). -/
def EventRecord.bytes (r : EventRecord) : List Byte :=
  numBytes 1 r.kind.code ++ numBytes 1 r.voice ++ numBytes 2 r.value ++ numBytes 4 r.time

end Sys2Proof

namespace Sys2Proof.Machine

/-! ### The downstream cycle frame (02, 2.3) -/

/-- Link state code of the frame (02, 2.3). DOWN sends no frame. -/
def LinkState.code : LinkState → Nat
  | .down => 0 | .waking => 1 | .aligning => 2 | .ready => 3 | .driving => 4 | .lost => 5

/-- Command kind code (02, 2.3). -/
def CommandKind.code : CommandKind → Nat
  | .off => 1 | .attack => 2 | .hold => 3 | .pedalSet => 4

/-- The two echo bytes (03, 3.1). -/
def Echo.bytes : Echo → List Byte
  | .idle => [0, 0]
  | .accepted n => [1, BitVec.ofNat 8 n]
  | .collision => [2, 0]

/-- A command's 9 bytes (02, 2.3). -/
def Command.bytes (c : Command) : List Byte :=
  numBytes 1 c.kind.code ++ numBytes 1 c.target ++ numBytes 2 c.level ++ numBytes 2 c.holdLevel ++
    numBytes 2 c.attack ++ numBytes 1 c.fine

/-- A Command section (02, 2.3). -/
def sectionBytes (commands : List Command) : List Byte := 1 :: listBytes Command.bytes commands

/-- What the frame check covers: cycle number to the last byte of the last section (02, 2.3). -/
def CycleFrame.body (f : CycleFrame) : List Byte :=
  numBytes 4 f.cycle ++ numBytes 1 f.state.code ++ [0] ++ f.echo.bytes ++ [f.slow] ++ List.replicate 6 0 ++
    f.sections.flatMap sectionBytes

/-- The frame as sent: delimiter, body, check (02, 2.3). -/
def CycleFrame.bytes (f : CycleFrame) : List Byte := [126, 90] ++ f.body ++ crcBytes (crc16 f.body)

/-- The byte that makes the sum of a 16-byte record 0 modulo 256 (02, station and ring record). -/
def recordCheck (bytes : List Byte) : Byte := 0 - bytes.foldl (· + ·) 0

/-! ### Codes of R174: names of a list are numbered from 1 in the order their rule lists them -/

def Mode.code : Mode → Nat
  | .idle => 1 | .capture => 2 | .replay => 3 | .duplex => 4 | .calibrate => 5

def Transport.code : Transport → Nat
  | .stopped => 1 | .running => 2 | .paused => 3

/-- The order of the state table of 2.5 (DEDUCED, log 13). -/
def LinkState.listCode : LinkState → Nat
  | .down => 1 | .waking => 2 | .aligning => 3 | .ready => 4 | .driving => 5 | .lost => 6

def Role.code : Role → Nat
  | .scanner => 1 | .driver => 2 | .combined => 3

def Result.code : Result → Nat
  | .done => 1 | .busy => 2 | .state => 3 | .range => 4 | .locked => 5 | .unknown => 6

def ResetCause.code : ResetCause → Nat
  | .powerOn => 1 | .supplyLow => 2 | .pin => 3 | .restart => 4

def RosterReason.code : RosterReason → Nat
  | .count => 1 | .keys => 2 | .pedals => 3

/-- Request 1, LinkLeft 2, by the rules that name them, R6 and R8 (DEDUCED, log 46). -/
def PauseCause.code : PauseCause → Nat
  | .request => 1 | .linkLeft => 2

def LinkCause.code : LinkCause → Nat
  | .request => 1 | .returns => 2 | .roster => 3 | .missing => 4 | .limit => 5 | .auto => 6

def NoticeEffect.code : NoticeEffect → Nat
  | .applied => 1 | .noChange => 2 | .ignored => 3

def StopCause.code : StopCause → Nat
  | .request => 1 | .modeIdle => 2 | .endReached => 3 | .clockEnd => 4

def StrikeResult.code : StrikeResult → Nat
  | .verified => 1 | .missed => 2 | .superseded => 3

def JobReason.code : JobReason → Nat
  | .fewSamples => 1 | .keyFault => 2 | .keyUnavailable => 3 | .yielded => 4 | .noSensing => 5 | .overTemperature => 6

def AbortCause.code : AbortCause → Nat
  | .request => 1 | .modeIdle => 2 | .linkLeft => 3 | .stop => 4

/-- The order in which R183 names them: Protected in its step 1, Saved and Failed in its step 4 (DEDUCED, log 46). -/
def SaveResult.code : SaveResult → Nat
  | .guarded => 1 | .saved => 2 | .failed => 3

def RestoreCause.code : RestoreCause → Nat
  | .request => 1 | .automatic => 2

def LoadResult.code : LoadResult → Nat
  | .loaded => 1 | .bad => 2

/-- Upstream event record kinds (11.1). -/
def CaptureKind.code : CaptureKind → Nat
  | .strike => 1 | .release => 2 | .silentPress => 3 | .pedal => 4 | .linkGap => 7

/-! ### Fields of replies, status and reports -/

/-- A roster entry: every field of the table of 2.6 in its order (R32, R174). The arrival offset takes the 1 byte its range needs,
and the pedals served the bits of the station record's table (DEDUCED, log 60). -/
def RosterEntry.bytes (e : RosterEntry) : List Byte :=
  numBytes 1 (if e.present then 1 else 2) ++ numBytes 1 e.role.code ++ numBytes 1 e.firstKey ++ numBytes 1 e.lastKey ++
    numBytes 1 e.pedals ++ intBytes 1 e.temperature ++ flagByte e.measured ++ numBytes 1 e.alpha ++
    numBytes 1 e.arrival ++ numBytes 2 e.latency ++ numBytes 1 e.missing

/-- A slot's content: kind (1 Strike, 2 Pedal, 3 Empty), count and breakpoints, scalars (R92, R93, R174), in the layout of
WritePage (DEDUCED, log 45). -/
def pageBytes : Option Page → List Byte
  | none => [3]
  | some (.strike points sc) =>
    1 :: listBytes Breakpoint.bytes points ++ numBytes 2 sc.attack ++ numBytes 2 sc.hold ++ numBytes 4 sc.rearm ++
      numBytes 2 sc.silentLead
  | some (.pedal points) => 2 :: listBytes Breakpoint.bytes points

def Profile.bytes (p : Profile) : List Byte :=
  numBytes 1 p.keyCount ++ numBytes 1 p.stations ++ numBytes 1 p.boundary ++ flagByte p.autoPermit

/-- Ticks of one second (R176). -/
def ticksPerSecond : Nat := 100000

/-- Every option in the order of 11.5, each in the fewest bytes of its range; holdCap in seconds (DEDUCED, log 45). -/
def Options.bytes (o : Options) : List Byte :=
  numBytes 2 o.lateTolerance ++ numBytes 4 o.lookAhead ++ numBytes 2 o.dynamicsScale ++ flagByte o.verify ++
    flagByte o.adaptiveTrim ++ flagByte o.outcomeReports ++ numBytes 1 (o.holdCap / ticksPerSecond) ++
    numBytes 2 o.yieldBase ++ numBytes 2 o.windowWidth ++ numBytes 2 o.statusPeriod

/-- The data of a Reply (R174). The eight entries and the eight pairs of ReadRoster have no count byte (DEDUCED, log 58). Its drive
permit, its roster change mark and each standing condition are sent as yes or no fields, clear 0 and set 1 (DEDUCED, log 63). -/
def ReplyData.bytes : ReplyData → List Byte
  | .nothing => []
  | .field place => numBytes 1 place
  | .pageField place index => numBytes 1 place ++ numBytes 1 index
  | .code found => numBytes 1 found
  | .started preroll base => numBytes 2 preroll ++ numBytes 4 base
  | .roster entries link permit changed conditions faults =>
    entries.flatMap (optBytes RosterEntry.bytes) ++ numBytes 1 link.listCode ++ flagByte permit ++ flagByte changed ++
      conditions.flatMap (fun c => flagByte c.1 ++ flagByte c.2) ++ listBytes (numBytes 1) faults
  | .keySense e => e.bytes
  | .pedalSense e => e.bytes
  | .descriptor d => d.bytes
  | .page content => pageBytes content
  | .removed was => flagByte was
  | .removedCount count => numBytes 1 count
  | .jobs held => numBytes 1 held
  | .aborted current discarded => flagByte current ++ numBytes 1 discarded
  | .profile p => p.bytes
  | .options o => o.bytes
  | .optionRange place o => numBytes 1 place ++ o.bytes

/-- The store operation state (12.1): Idle, Erasing, Programming, Verifying, Restoring, each except Idle with its block
(DEDUCED, log 16). -/
def StoreOp.bytes : StoreOp → List Byte
  | .idle => [1]
  | .save op =>
    numBytes 1 (match op.stage with | .erasing => 2 | .programming => 3 | .verifying => 4) ++ numBytes 1 op.block
  | .restore op => 5 :: numBytes 1 op.block

/-- A Status frame's payload: the fields of 11.6 in their order (DEDUCED, log 16). -/
def StatusRecord.bytes (r : StatusRecord) : List Byte :=
  flagByte r.solicited ++ numBytes 1 r.cause.code ++ optBytes (numBytes 1) r.keyCount ++ numBytes 1 r.mode.code ++
    numBytes 1 r.transport.code ++ numBytes 4 r.takeClock ++ numBytes 4 r.shift ++ numBytes 1 r.link.listCode ++
    numBytes 1 r.returnTime ++ numBytes 1 r.activeSet ++ numBytes 1 r.space ++ numBytes 2 r.scheduled ++
    numBytes 2 r.captured ++ r.store.bytes ++ r.counters.flatMap (numBytes 2)

/-- A sample-list entry: level, measured strikes, velocity and flight or none (R167), one presence byte for the pair
(DEDUCED, log 15). -/
def Sample.bytes (s : Sample) : List Byte :=
  numBytes 2 s.level ++ numBytes 1 s.measured ++ optBytes (fun r => numBytes 2 r.1 ++ numBytes 2 r.2) s.reading

/-- The fields of a StrikeOutcome record (R148); a strike tick beyond 4 bytes goes modulo 2^32 (DESIGN CHOICE, log 43). -/
def StrikeOutcome.bytes (o : StrikeOutcome) : List Byte :=
  numBytes 1 o.outcome.code ++ numBytes 1 o.key ++ numBytes 1 o.via.voice ++ numBytes 1 o.via.set ++
    numBytes 4 o.strike ++ numBytes 2 o.commanded ++ optBytes (numBytes 2) o.measured ++ optBytes (intBytes 2) o.timing ++
    optBytes (intBytes 1) o.step ++ optBytes (numBytes 2) o.trimAfter ++ flagByte o.limited

/-- The take summary's fields except take open (R82). -/
def TakeSummary.bytes (t : TakeSummary) : List Byte :=
  numBytes 4 t.events ++ optBytes (numBytes 4) t.first ++ optBytes (numBytes 4) t.last ++ flagByte t.incomplete ++
    numBytes 2 t.overflow ++ numBytes 2 t.lost ++ numBytes 2 t.order ++ numBytes 2 t.brush

/-- Report kind codes (R174). -/
def Report.code : Report → Nat
  | .paused .. => 1 | .resumed .. => 2 | .cueReached .. => 3 | .marker .. => 4 | .replayComplete .. => 5
  | .linkState .. => 6 | .rosterFault .. => 7 | .noticeAccepted .. => 8 | .strikeOutcome .. => 9 | .jobDone .. => 10
  | .jobFailed .. => 11 | .jobAborted .. => 12 | .takeSummary .. => 13 | .saveDone .. => 14 | .restoreDone .. => 14

/-- A report's fields in the order its rule lists them (R174; DEDUCED, log 14, log 15). A field that R167 gives as absent for a
whole report kind has no byte in it, not a presence byte 0 (DEDUCED, log 15). The operation of a StoreDone is 1 for Save and 2 for
Restore (DEDUCED, log 46), and its results have a count byte (DEDUCED, log 58); the kept mark of a sample is a yes or no field, kept 1 and
discarded 0 (DEDUCED, log 63); a tick beyond 4 bytes goes modulo 2^32 (DESIGN CHOICE, log 43). -/
def Report.fieldBytes : Report → List Byte
  | .paused start cause => numBytes 4 start ++ numBytes 1 cause.code
  | .resumed delta shift => numBytes 4 delta ++ numBytes 4 shift
  | .cueReached cue start => numBytes 4 cue ++ numBytes 4 start
  | .marker value onset => numBytes 2 value ++ numBytes 4 onset
  | .replayComplete t => numBytes 4 t
  | .linkState entered left cycle cause =>
    numBytes 1 entered.listCode ++ numBytes 1 left.listCode ++ numBytes 4 cycle ++ numBytes 1 cause.code
  | .rosterFault reason position records lowest =>
    numBytes 1 reason.code ++ numBytes 1 position ++ numBytes 1 records ++ optBytes (numBytes 1) lowest
  | .noticeAccepted station kind key gate cycle effect =>
    numBytes 1 station ++ numBytes 1 kind ++ numBytes 1 key ++ numBytes 1 gate ++ numBytes 4 cycle ++
      numBytes 1 effect.code
  | .strikeOutcome o => o.bytes
  | .jobDone key slot level samples points =>
    numBytes 1 key ++ numBytes 2 slot ++ numBytes 1 level ++
      listBytes (fun s => s.1.bytes ++ flagByte s.2) samples ++ numBytes 1 points
  | .jobFailed key slot reason level samples =>
    numBytes 1 key ++ numBytes 2 slot ++ numBytes 1 reason.code ++ numBytes 1 level ++
      listBytes (fun s => s.1.bytes ++ optBytes flagByte s.2) samples
  | .jobAborted key slot cause level discarded =>
    optBytes (numBytes 1) key ++ optBytes (numBytes 2) slot ++ numBytes 1 cause.code ++ optBytes (numBytes 1) level ++
      numBytes 1 discarded
  | .takeSummary t cause => t.bytes ++ numBytes 1 cause.code
  | .saveDone first last results =>
    [1] ++ numBytes 1 first ++ numBytes 1 last ++ listBytes (fun r => numBytes 1 r.code) results
  | .restoreDone cause results => [2] ++ numBytes 1 cause.code ++ listBytes (fun r => numBytes 1 r.code) results

/-- A captured event as an 8-byte event record (11.1, R77). A stamp past 4 bytes, as a strike in the last 800 ticks of the
take clock can have (R56), is sent modulo 2³² (DESIGN CHOICE, log 43). -/
def CaptureEvent.bytes (e : CaptureEvent) : List Byte :=
  numBytes 1 e.kind.code ++ numBytes 1 e.voice ++ numBytes 2 e.value ++ numBytes 4 e.stamp

/-! ### Frames of the Score Port (11.1) -/

/-- Frame kind of an upstream frame (11.1). -/
def Upstream.kindByte : Upstream → Byte
  | .reply .. => 3
  | .status .. => 4
  | .report .. => 5
  | .capture .. => 6

/-- Tag of an upstream frame: the request's in a Reply and in the answer to ReadStatus, else 0 (11.1, R177). -/
def Upstream.tagByte : Upstream → Byte
  | .reply tag .. => tag
  | .status tag _ => tag
  | .report .. => 0
  | .capture .. => 0

/-- Payload of an upstream frame (R174). -/
def Upstream.payload : Upstream → List Byte
  | .reply _ request result data => numBytes 1 request ++ numBytes 1 result.code ++ data.bytes
  | .status _ fields => fields.bytes
  | .report cycle fields => numBytes 1 fields.code ++ numBytes 4 cycle ++ fields.fieldBytes
  | .capture events => events.flatMap CaptureEvent.bytes

/-- What a Score Port frame's check covers: kind through payload (11.1). -/
def portBody (kind tag space : Byte) (payload : List Byte) : List Byte :=
  [kind, tag, space, BitVec.ofNat 8 payload.length] ++ payload

/-- A Score Port frame: delimiter, kind, tag, space, length, payload, check (11.1). -/
def portFrame (kind tag space : Byte) (payload : List Byte) : List Byte :=
  [126, 165] ++ portBody kind tag space payload ++ crcBytes (crc16 (portBody kind tag space payload))

/-- An upstream frame built with the intake space it was given (R171). -/
def Upstream.bytes (f : Upstream) (space : Nat) : List Byte :=
  portFrame f.kindByte f.tagByte (BitVec.ofNat 8 space) f.payload

end Sys2Proof.Machine
end

