-- ==== Sys2Proof/Machine/Ops.lean ====
section
/-! DEFINITION. The named operations every block uses: numbered entries of a table, the counters, the clock, and handing
a frame to the transmit side. -/

namespace Sys2Proof.Machine

/-! ### Entries of a table -/

/-- Entry `k`, counted from 1 (keys, pedals, stations); `d` where there is no such entry. -/
def nth {α : Type} {n : Nat} (v : Vector α n) (k : Nat) (d : α) : α := if k = 0 then d else v[k - 1]?.getD d

/-- `v` with entry `k`, counted from 1, replaced; `v` itself where there is no such entry. -/
def setNth {α : Type} {n : Nat} (v : Vector α n) (k : Nat) (a : α) : Vector α n :=
  if k = 0 then v else v.setIfInBounds (k - 1) a

/-- The keys of the longest keyboard, 1..97. -/
def allKeys : List Nat := List.range' 1 97

/-- The pedals 1..3. -/
def allPedals : List Nat := [1, 2, 3]

/-- The station numbers 1..8. -/
def allStations : List Nat := [1, 2, 3, 4, 5, 6, 7, 8]

/-- The later of a tick that may be absent and a tick. -/
def laterOf (o : Option Nat) (t : Nat) : Nat := max (o.getD 0) t

/-! ### Reading and replacing the entries of the blocks -/

def State.trackerOf (s : State) (k : Nat) : TrackerRecord := nth s.tracker.keys k TrackerRecord.initial
def State.setTracker (s : State) (k : Nat) (r : TrackerRecord) : State :=
  { s with tracker := { s.tracker with keys := setNth s.tracker.keys k r } }

def State.pedalOf (s : State) (q : Nat) : PedalCapture := nth s.tracker.pedals q PedalCapture.initial
def State.setPedal (s : State) (q : Nat) (r : PedalCapture) : State :=
  { s with tracker := { s.tracker with pedals := setNth s.tracker.pedals q r } }

def State.driveOf (s : State) (k : Nat) : KeyDrive := nth s.sched.keys k KeyDrive.initial
def State.setDrive (s : State) (k : Nat) (d : KeyDrive) : State :=
  { s with sched := { s.sched with keys := setNth s.sched.keys k d } }

def State.pedalDriveOf (s : State) (q : Nat) : PedalDrive := nth s.sched.pedals q PedalDrive.initial
def State.setPedalDrive (s : State) (q : Nat) (d : PedalDrive) : State :=
  { s with sched := { s.sched with pedals := setNth s.sched.pedals q d } }

def State.windowOf (s : State) (k : Nat) : Option Window := nth s.duplex.windows k none
def State.setWindow (s : State) (k : Nat) (w : Option Window) : State :=
  { s with duplex := { s.duplex with windows := setNth s.duplex.windows k w } }

def State.yieldOf (s : State) (k : Nat) : YieldRecord := nth s.duplex.yields k YieldRecord.initial
def State.setYield (s : State) (k : Nat) (y : YieldRecord) : State :=
  { s with duplex := { s.duplex with yields := setNth s.duplex.yields k y } }

def State.stationOf (s : State) (b : Nat) : Option RosterEntry := nth s.link.roster b none
def State.faulted (s : State) (k : Nat) : Bool := nth s.link.faults k false
def State.supplyIsLow (s : State) (b : Nat) : Bool := nth s.link.supplyLow b false
def State.isHot (s : State) (b : Nat) : Bool := nth s.link.overTemp b false

/-- Replace the schedule's entries. -/
def State.setEntries (s : State) (es : List Entry) : State := { s with sched := { s.sched with entries := es } }

/-- The descriptor of a voice of a set; none outside the tables. -/
def TableMemory.descriptor (m : TableMemory) (set voice : Nat) : Option VoiceDescriptor :=
  match m.sets[set]? with
  | none => none
  | some v => v[voice]?

/-- `m` with one descriptor replaced. -/
def TableMemory.setDescriptor (m : TableMemory) (set voice : Nat) (d : VoiceDescriptor) : TableMemory :=
  match m.sets[set]? with
  | none => m
  | some v => { m with sets := m.sets.setIfInBounds set (v.setIfInBounds voice d) }

/-- The content of a page slot: slot k is slot k mod 16 of block k div 16 (12.1). -/
def TableMemory.page (m : TableMemory) (slot : Nat) : Option Page :=
  match m.pages[slot / 16]? with
  | none => none
  | some b => b[slot % 16]?.getD none

/-- `m` with one page slot replaced. -/
def TableMemory.setPage (m : TableMemory) (slot : Nat) (p : Option Page) : TableMemory :=
  match m.pages[slot / 16]? with
  | none => m
  | some b => { m with pages := m.pages.setIfInBounds (slot / 16) (b.setIfInBounds (slot % 16) p) }

/-- The Key Sense entry of key k. -/
def State.keySense (s : State) (k : Nat) : KeySense := nth s.mem.sense.keys k defaultKeySense

/-- The Key Sense entry of pedal q. -/
def State.pedalSense (s : State) (q : Nat) : PedalSense := nth s.mem.sense.pedals q defaultPedalSense

/-! ### Profile and options -/

/-- keyCount; 97 while no profile is written (R175). -/
def State.keyCount (s : State) : Nat := match s.port.profile with | none => 97 | some p => p.keyCount

/-- The protect boundary; 0 while no profile is written (R175, R182). -/
def State.boundary (s : State) : Nat := match s.port.profile with | none => 0 | some p => p.boundary

/-! ### The clock (R1, R2) -/

/-- The take cycle of a link cycle (R2); 0 while the transport is Stopped. -/
def State.takeCycleOf (s : State) (cycle : Nat) : Nat :=
  match s.time.takeBase with
  | none => 0
  | some b => (cycle + cycleModulus - b) % cycleModulus

/-- The take cycle in progress (R2). -/
def State.takeCycle (s : State) : Nat := s.takeCycleOf s.time.linkCycle

/-- The first tick of the take cycle in progress: "now" of everything taken at a cycle start (R4, DEDUCED, log 4). -/
def State.startTick (s : State) : Nat := 20 * s.takeCycle

/-- The take clock, "now" (R2): 0 while the transport is Stopped. -/
def State.now (s : State) : Nat :=
  match s.time.takeBase with
  | none => 0
  | some _ => s.startTick + s.time.tick

/-- The earliest dispatchable tick E = 20 × (n + 3) (R113). -/
def State.earliest (s : State) : Nat := 20 * (s.takeCycle + 3)

/-- The transport is Running or Paused. -/
def State.taking (s : State) : Bool := s.time.transport != .stopped

/-- The mode is Capture or Duplex. -/
def State.captureMode (s : State) : Bool := s.time.mode == .capture || s.time.mode == .duplex

/-- The transport is Running or Paused and the mode is Capture or Duplex (R68, R69). -/
def State.capturing (s : State) : Bool := s.taking && s.captureMode

/-! ### Counters (R177) -/

/-- The place of a counter in the table of 11.6, from 0. -/
def Counter.index : Counter → Nat
  | .late => 0 | .stale => 1 | .clamped => 2 | .saturated => 3 | .deferred => 4 | .postponed => 5 | .holdCapped => 6
  | .orphan => 7 | .voiceAbsent => 8 | .keyFault => 9 | .keyUnavailable => 10 | .yielded => 11 | .contention => 12
  | .stray => 13 | .brush => 14 | .sensorOrder => 15 | .crossingsLost => 16 | .captureOverflow => 17
  | .intakeOverrun => 18 | .frameErrors => 19 | .linkLosses => 20 | .transmitDrops => 21

/-- One more, stopping at 65535 (R177). -/
def countUp (n : Nat) : Nat := if n < 65535 then n + 1 else n

/-- The value of a counter. -/
def State.count (s : State) (c : Counter) : Nat := s.port.counters[c.index]?.getD 0

/-- Count one. -/
def State.bump (s : State) (c : Counter) : State :=
  { s with port := { s.port with counters := s.port.counters.setIfInBounds c.index (countUp (s.count c)) } }

/-- Count one when a condition holds. -/
def State.bumpIf (s : State) (b : Bool) (c : Counter) : State := if b then s.bump c else s

/-- Count `n` times. -/
def State.bumpTimes (s : State) (c : Counter) : Nat → State
  | 0 => s
  | n + 1 => (s.bump c).bumpTimes c n

/-! ### The transmit side (R171) -/

/-- Free places of the Replay Intake (R121). -/
def State.intakeSpace (s : State) : Nat := 64 - s.intake.length

/-- Frames the transmit queue holds, the one being sent included. -/
def State.queued (s : State) : Nat := s.port.queue.length

/-- The sending of the queue's head begins when the line is free and a frame waits: its space field takes the intake
space now (R171). Nothing more is sent once a Restart's Reply has been (R179). -/
def State.beginSending (s : State) : State :=
  match s.port.line, s.port.queue with
  | none, _ :: _ => if s.port.restart = .due then s else { s with port := { s.port with line := some s.intakeSpace } }
  | _, _ => s

/-- A frame taken by the transmit queue. On a free line its sending begins at once, and its space field is read then, ahead of
whatever the same event does afterwards (DEDUCED, log 59). -/
def State.hand (s : State) (f : Upstream) : State :=
  State.beginSending { s with port := { s.port with queue := s.port.queue ++ [f] } }

/-- Replies, answers to ReadStatus and reports: taken below 64 frames, else discarded and counted (R171, R172). -/
def State.offer (s : State) (f : Upstream) : State := if s.queued < 64 then s.hand f else s.bump .transmitDrops

/-- A Reply (R173). -/
def State.reply (s : State) (tag : Byte) (request : Nat) (result : Result) (data : ReplyData) : State :=
  s.offer (.reply tag request result data)

/-- A Report, with the link cycle counter of its event (11.1, 11.7). -/
def State.report (s : State) (r : Report) : State := s.offer (.report s.time.linkCycle r)

/-- The Status fields as their owners hold them when the frame is made (R177), the occupancy of R84 among them (DEDUCED, log 56). -/
def State.statusRecord (s : State) (solicited : Bool) : StatusRecord :=
  { solicited := solicited, cause := s.port.cause, keyCount := s.port.profile.map Profile.keyCount, mode := s.time.mode,
    transport := s.time.transport, takeClock := s.now, shift := s.time.shift, link := s.link.state,
    returnTime := s.link.returnTime, activeSet := s.voices.activeSet, space := s.intakeSpace,
    scheduled := s.sched.entries.length, captured := s.capture.events.length, store := s.store.op,
    counters := s.port.counters.toList }

/-! ### Store operations in flight (R185) -/

/-- A restore is in flight. -/
def State.restoring (s : State) : Bool := match s.store.op with | .restore _ => true | _ => false

/-- A save is in flight. -/
def State.saving (s : State) : Bool := match s.store.op with | .save _ => true | _ => false

/-- A save or a restore is in flight. -/
def State.storeBusy (s : State) : Bool := s.restoring || s.saving

end Sys2Proof.Machine
end

