-- ==== Sys2Proof/Machine/Flags.lean ====
section
/-! DEFINITION. The conditions other blocks read: which station serves a key or pedal, its availability (R33, R47), and
the drive state of a key (R126). -/

namespace Sys2Proof.Machine

/-! ### Stations and what they serve (02, 2.1) -/

/-- Senses: Scanner or Combined. -/
def Role.senses (r : Role) : Bool := r != .driver
/-- Drives: Driver or Combined. -/
def Role.drives (r : Role) : Bool := r != .scanner

/-- The pedal is in the byte of pedals served. -/
def servesPedal (pedals q : Nat) : Bool := q != 0 && pedals.testBit (q - 1)

def RosterEntry.hasKey (e : RosterEntry) (k : Nat) : Bool := decide (e.firstKey ≤ k) && decide (k ≤ e.lastKey)
def RosterEntry.hasPedal (e : RosterEntry) (q : Nat) : Bool := servesPedal e.pedals q

/-- The keys of an entry's range. -/
def RosterEntry.keys (e : RosterEntry) : List Nat := allKeys.filter e.hasKey
/-- The pedals an entry serves. -/
def RosterEntry.pedalList (e : RosterEntry) : List Nat := allPedals.filter e.hasPedal

/-- The lowest station number whose roster entry has a property. -/
def State.findStation (s : State) (p : RosterEntry → Bool) : Option Nat :=
  allStations.find? (fun b => (s.stationOf b).any p)

/-- The station that serves key k for drive. -/
def State.driverOf (s : State) (k : Nat) : Option Nat := s.findStation (fun e => e.role.drives && e.hasKey k)
/-- The station that serves key k for sensing. -/
def State.sensorOf (s : State) (k : Nat) : Option Nat := s.findStation (fun e => e.role.senses && e.hasKey k)
/-- The station that serves pedal q for drive. -/
def State.pedalDriverOf (s : State) (q : Nat) : Option Nat := s.findStation (fun e => e.role.drives && e.hasPedal q)
/-- The station that serves pedal q for sensing. -/
def State.pedalSensorOf (s : State) (q : Nat) : Option Nat := s.findStation (fun e => e.role.senses && e.hasPedal q)

/-- A station that has an entry, is Present and has no supply-low condition: available for drive (R33, R47). -/
def State.available (s : State) (driver : Option Nat) : Bool :=
  match driver with
  | none => false
  | some b => (s.stationOf b).any (fun e => e.present) && !s.supplyIsLow b

/-- The station that senses key k is Present (R143). -/
def State.sensed (s : State) (k : Nat) : Bool :=
  match s.sensorOf k with
  | none => false
  | some b => (s.stationOf b).any (fun e => e.present)

/-- The presence map of the ring record: bit s - 1 for station s (R19). -/
def State.presenceMap (s : State) : Nat :=
  (allStations.map (fun b => if (s.stationOf b).any (fun e => e.present) then 2 ^ (b - 1) else 0)).sum

/-- Arrival offset and board latency of the station driving something, and its temperature terms (R106). A target with no
driving station is never computed (R106). -/
def State.driverEntry (s : State) (driver : Option Nat) : Option RosterEntry := driver.bind s.stationOf

/-! ### Drive state (R126) -/

/-- An Attack or Hold entry of key k. -/
def Entry.strikes (e : Entry) (k : Nat) : Bool := (e.kind == .attack || e.kind == .hold) && e.target == k

/-- An Off entry of key k. -/
def Entry.offOf (e : Entry) (k : Nat) : Bool := e.kind == .off && e.target == k

/-- An Attack, Hold or Off entry of key k. -/
def Entry.ofKey (e : Entry) (k : Nat) : Bool := e.strikes k || e.offOf k

/-- The schedule holds an Attack or Hold entry of the key. -/
def State.armed (s : State) (k : Nat) : Bool := s.sched.entries.any (fun e => e.strikes k)

/-- The key is held in a yield wait (09, 9.6). -/
def State.waitingYield (s : State) (k : Nat) : Bool := (s.yieldOf k).requirement.isSome

/-- The table of R126: the first line that holds. -/
def State.decideDrive (s : State) (k : Nat) : DriveState :=
  let d := s.driveOf k
  if s.faulted k then .faulted
  else if s.waitingYield k then .yielded
  else if d.driven then .sounding
  else if s.armed k then .armed
  else if d.releaseEnd.any (fun t => decide (s.now < t)) then .releasing
  else .idle

/-- The key's drive state decided afresh (R126). -/
def State.redecide (s : State) (k : Nat) : State := s.setDrive k { s.driveOf k with state := s.decideDrive k }

/-- Several keys decided afresh. -/
def State.redecideAll (s : State) (keys : List Nat) : State := keys.foldl State.redecide s

end Sys2Proof.Machine
end

