-- ==== Sys2Proof/Machine/Calculator.lean ====
section
/-! DEFINITION. The Strike Calculator (07): the arithmetic of R106 to R120. It holds no state; each computation is a
function of the page copy and of what it reads from the station, the options and the Time Base. -/

namespace Sys2Proof.Machine

/-- What a computation reads of the station that drives the target (07, table of 7.1). -/
structure Feed where
  arrival : Nat
  latency : Nat
  alpha : Nat
  temperature : Int
  hot : Bool
deriving DecidableEq, Repr

/-- The feed of a driving station as the roster and its conditions stand (R106). -/
def State.feed (s : State) (driver : Option Nat) : Feed :=
  match s.driverEntry driver with
  | none => { arrival := 0, latency := 0, alpha := 0, temperature := 25, hot := false }
  | some e =>
    { arrival := e.arrival, latency := e.latency, alpha := e.alpha, temperature := e.temperature,
      hot := driver.any s.isHot }

/-- Interp of R109: the weighted mean of x and y, rounded half up. -/
def interp (x y span d : Nat) : Nat := (2 * (x * (span - d) + y * d) + span) / (2 * span)

/-- The segment of R109: the breakpoints i and i + 1 for the greatest i with v_i ≤ v and i ≤ m - 2. -/
def segment : List Breakpoint → Nat → Option (Breakpoint × Breakpoint)
  | a :: b :: rest, v =>
    match rest with
    | [] => some (a, b)
    | _ :: _ => if v < b.input then some (a, b) else segment (b :: rest) v
  | _, _ => none

/-- Drive and time read from a page's curve at v (R109, R117). -/
def readCurve (points : List Breakpoint) (v : Nat) : Nat × Nat :=
  match segment points v with
  | none => (0, 0)
  | some (a, b) =>
    let span := b.input - a.input
    let d := v - a.input
    (interp a.drive b.drive span d, interp a.time b.time span d)

/-- The least and greatest input of a page's curve. -/
def curveEnds (points : List Breakpoint) : Nat × Nat :=
  ((points.head?.map Breakpoint.input).getD 0, (points.getLast?.map Breakpoint.input).getD 0)

/-- Stage 1 (R108): the scaled velocity, at least 1. -/
def scaleVelocity (v scale : Nat) : Nat := max 1 (v * scale / 1000)

/-- Limit to the page, and whether that changed the value (R108, R117). -/
def limitTo (points : List Breakpoint) (v : Nat) : Nat × Bool :=
  let ends := curveEnds points
  let c := if v < ends.1 then ends.1 else if ends.2 < v then ends.2 else v
  (c, c != v)

/-- Stage 5 (R110): trim with its floor of 1. -/
def trimStrike (d trim : Nat) : Nat := max 1 (d * trim / 1000)

/-- The derate factor of stage 6 (R111), permille. -/
def derateFactor (f : Feed) : Nat := 1000 + f.alpha * (f.temperature - 25).toNat

/-- Stage 6 (R111): derate and limit a level, and whether a limit changed it. -/
def derate (d : Nat) (f : Feed) : Nat × Bool :=
  let d2 := d * derateFactor f / 1000
  let capped := if Config.topLevel < d2 then Config.topLevel else d2
  let final := if f.hot && decide (Config.hotCap < capped) then Config.hotCap else capped
  (final, final != d2)

/-- Stage 7 (R112, R115, R118): the lead in ticks of a time in µs. -/
def leadTicks (time : Nat) (f : Feed) : Nat := ticksUp (time + f.arrival + f.latency)

/-- Outcomes of stage 9 (R113). -/
inductive Lateness
  | computed | late | stale
deriving DecidableEq, Repr

/-- Stage 9 (R113): the outcome, the onset to use, and how much later it is. -/
def lateness (onset : Int) (earliest tolerance : Nat) : Lateness × Nat × Nat :=
  if (earliest : Int) ≤ onset then (.computed, onset.toNat, 0)
  else
    let behind := ((earliest : Int) - onset).toNat
    if behind ≤ tolerance then (.late, earliest, behind) else (.stale, earliest, behind)

/-- A computation's result (R107) and its counts. `strike` is absent for a silent press. -/
structure Computation where
  outcome : Lateness
  onset : Nat
  strike : Option Nat
  level : Nat
  holdLevel : Nat
  attack : Nat
  rearm : Nat
  velocity : Nat
  clamped : Bool
  saturatedLevel : Bool
  saturatedHold : Bool
deriving DecidableEq, Repr

/-- What a computation reads beside the record, the entry and the feed (07, 7.1): T + p + s, E, the tolerance, the
dynamics scale. -/
structure Clocking where
  due : Nat
  earliest : Nat
  tolerance : Nat
  scale : Nat
deriving DecidableEq, Repr

/-- T + p + s, formed without loss (R13). -/
def State.dueTick (s : State) (time : Nat) : Nat := time + s.time.preroll + s.time.shift

/-- The clocking of a record's time. -/
def State.clocking (s : State) (time : Nat) : Clocking :=
  { due := s.dueTick time, earliest := s.earliest, tolerance := s.port.options.lateTolerance,
    scale := s.port.options.dynamicsScale }

/-- A Strike (R108 to R114). -/
def computeStrike (points : List Breakpoint) (sc : Scalars) (trim value : Nat) (f : Feed) (c : Clocking) : Computation :=
  let v2 := limitTo points (scaleVelocity value c.scale)
  let read := readCurve points v2.1
  let level := derate (trimStrike read.1 trim) f
  let hold := derate (trimStrike sc.hold trim) f
  let lead := leadTicks read.2 f
  let l := lateness ((c.due : Int) - lead) c.earliest c.tolerance
  { outcome := l.1, onset := l.2.1, strike := some (c.due + l.2.2), level := level.1, holdLevel := hold.1,
    attack := ticksUp sc.attack, rearm := ticksUp sc.rearm, velocity := v2.1, clamped := v2.2,
    saturatedLevel := level.2, saturatedHold := hold.2 }

/-- A SilentPress (R115). -/
def computeSilent (sc : Scalars) (trim : Nat) (f : Feed) (c : Clocking) : Computation :=
  let hold := derate (trimStrike sc.hold trim) f
  let lead := leadTicks sc.silentLead f
  let l := lateness ((c.due : Int) - lead) c.earliest c.tolerance
  { outcome := l.1, onset := l.2.1, strike := none, level := hold.1, holdLevel := 0, attack := 0,
    rearm := ticksUp sc.rearm, velocity := 0, clamped := false, saturatedLevel := hold.2, saturatedHold := false }

/-- The Off tick a release asks for (R116): T + p + s less the transport delay, raised to the note's onset plus A and to
E. -/
def releaseTick (noteOnset noteAttack : Nat) (f : Feed) (c : Clocking) : Nat :=
  max (max ((c.due : Int) - (ticksUp (f.arrival + f.latency) : Nat)).toNat (noteOnset + noteAttack)) c.earliest

/-- A pedal setting (R117, R118). -/
structure PedalSetting where
  onset : Nat
  level : Nat
  late : Bool
  clamped : Bool
  saturated : Bool
deriving DecidableEq, Repr

/-- A Pedal record (R117, R118). -/
def computePedal (points : List Breakpoint) (inverted : Bool) (trim value : Nat) (f : Feed) (c : Clocking) :
    PedalSetting :=
  let q := min value 255
  let turned := if inverted then 255 - q else q
  let p2 := limitTo points turned
  let read := readCurve points p2.1
  let level := derate (read.1 * trim / 1000) f
  let onset := (c.due : Int) - leadTicks read.2 f
  { onset := if (c.earliest : Int) ≤ onset then onset.toNat else c.earliest, level := level.1,
    late := decide (onset < (c.earliest : Int)), clamped := q != value || p2.2, saturated := level.2 }

/-- The onset of a Marker or End record (R119). -/
def markerOnset (c : Clocking) : Nat := max c.due c.earliest

end Sys2Proof.Machine
end

