-- ==== Sys2Proof/Machine/Schedule.lean ====
section
/-! DEFINITION. The Drive Schedule (08): its order, the notes, admission (R127 to R134), immediate Offs (R138), Pause,
Resume and Stop (R139, R140), withdrawal and unavailability (R141, R142). Dispatch is in Machine/Frames.lean. -/

namespace Sys2Proof.Machine

/-! ### Order (R124) -/

/-- Rank of an entry's target: keys by number, pedals after keys, Marker and End last (R124). -/
def Entry.targetRank (e : Entry) : Nat :=
  match e.kind with
  | .marker => 1000
  | .endOfReplay => 1000
  | .pedalSet => 100 + e.target
  | .off => e.target
  | .attack => e.target
  | .hold => e.target

/-- Rank of an entry's kind (R124). -/
def EntryKind.rank : EntryKind → Nat
  | .off => 0 | .attack => 1 | .hold => 2 | .pedalSet => 3 | .marker => 4 | .endOfReplay => 5

/-- `a` stands before `b` in the order of R124. -/
def Entry.before (a b : Entry) : Bool :=
  decide (a.onset < b.onset) ||
    (a.onset == b.onset &&
      (decide (a.targetRank < b.targetRank) || (a.targetRank == b.targetRank && decide (a.kind.rank < b.kind.rank))))

/-- Insert behind every entry that stands equal or before (R124). -/
def insertEntry (e : Entry) : List Entry → List Entry
  | [] => [e]
  | x :: xs => if e.before x then e :: x :: xs else x :: insertEntry e xs

/-- Insert several, in order. -/
def insertEntries (es : List Entry) (l : List Entry) : List Entry := es.foldl (fun l e => insertEntry e l) l

/-- A command for a key or pedal: it has a target. -/
def Entry.isCommand (e : Entry) : Bool := e.kind != .marker && e.kind != .endOfReplay

/-- Two commands of the same key or of the same pedal. -/
def Entry.sameTarget (a b : Entry) : Bool := a.isCommand && b.isCommand && a.targetRank == b.targetRank

/-- The entry `d` ticks later, with the strike tick it carries. -/
def Entry.later (d : Nat) (e : Entry) : Entry :=
  { e with onset := e.onset + d, strike := if e.kind == .attack then e.strike + d else e.strike }

/-! ### Notes -/

/-- Change a key's notes. -/
def State.mapNotes (s : State) (k : Nat) (f : Note → Note) : State :=
  s.setDrive k { s.driveOf k with notes := (s.driveOf k).notes.map f }

/-- Change the note of a key that has an id. -/
def State.modNote (s : State) (k id : Nat) (f : Note → Note) : State :=
  s.mapNotes k (fun n => if n.id = id then f n else n)

/-- The ticks of an entry's note move with the entry (R135, R136): attack onset and strike tick with an Attack or Hold,
Off tick with an Off. -/
def State.noteLater (s : State) (d : Nat) (e : Entry) : State :=
  match e.note with
  | none => s
  | some id =>
    match e.kind with
    | .attack => s.modNote e.target id (fun n => { n with onset := n.onset + d, strike := n.strike.map (· + d) })
    | .hold => s.modNote e.target id (fun n => { n with onset := n.onset + d, strike := n.strike.map (· + d) })
    | .off => s.modNote e.target id (fun n => { n with off := n.off + d })
    | .pedalSet => s
    | .marker => s
    | .endOfReplay => s

/-- Move each entry later by what `by'` gives for it (0: it stays), reinserting the moved ones in their order behind their
equals, and move their notes' ticks (R124, R135, R136). -/
def State.moveEntries (s : State) (by' : Entry → Nat) : State :=
  let moved := s.sched.entries.filter (fun e => by' e != 0)
  let stay := s.sched.entries.filter (fun e => by' e == 0)
  moved.foldl (fun s e => s.noteLater (by' e) e)
    (s.setEntries (insertEntries (moved.map (fun e => e.later (by' e))) stay))

/-! ### Immediate Offs (R138) -/

/-- An immediate Off asked for a key: nothing for a key that is not driven. -/
def State.askOff (s : State) (k : Nat) : State :=
  let d := s.driveOf k
  if d.driven then
    s.setDrive k { d with
      driven := false, immediateOff := true,
      releaseEnd := some (laterOf d.releaseEnd (s.earliest + d.lastRearm.getD 0)),
      rearmBase := some (laterOf d.attackEnd s.earliest) }
  else s

/-! ### Admission -/

/-- The first test of R127 that fails for key k, as the counter it counts. -/
def State.refusal (s : State) (k : Nat) : Option Counter :=
  if s.faulted k then some .keyFault
  else if !s.available (s.driverOf k) then some .keyUnavailable
  else if (s.driveOf k).state = .yielded then some .yielded
  else none

/-- The most recently admitted note whose Off has not been dispatched (R128). -/
def KeyDrive.openNote (d : KeyDrive) : Option Note := (d.notes.filter (fun n => !n.offDispatched)).getLast?

/-- Move a note's Off to a tick, with its entry, and set its origin (R128, R131). -/
def State.moveOff (s : State) (k id tick : Nat) (origin : OffOrigin) : State :=
  let mine := s.sched.entries.filter (fun e => e.offOf k && e.note == some id)
  let rest := s.sched.entries.filter (fun e => !(e.offOf k && e.note == some id))
  (s.setEntries (insertEntries (mine.map (fun e => { e with onset := tick })) rest)).modNote k id
    (fun n => { n with off := tick, origin := origin })

/-- R128 and R129: by how much a new note with onset `onset` and rearm interval `rearm` is deferred, after the key's open
note has been advanced. -/
def State.spaceNote (s : State) (k onset rearm : Nat) : State × Nat :=
  match (s.driveOf k).openNote with
  | some p =>
    let floor := max (p.onset + p.attack) s.earliest
    if onset < floor + rearm then
      (((s.moveOff k p.id floor .advanced).bump .deferred), floor + rearm - onset)
    else if onset - rearm < p.off then (s.moveOff k p.id (onset - rearm) .advanced, 0)
    else (s, 0)
  | none =>
    match (s.driveOf k).rearmBase with
    | none => (s, 0)
    | some base => if onset < base + rearm then (s.bump .deferred, base + rearm - onset) else (s, 0)

/-- What a new note is made of: the result of R107 after R128 and R129, its Off and whether a release is owed. -/
structure NewNote where
  kind : EntryKind
  onset : Nat
  strike : Option Nat
  level : Nat
  holdLevel : Nat
  attack : Nat
  rearm : Nat
  off : Nat
  origin : OffOrigin
  owed : Bool
  via : Option Via
  velocity : Option Nat
deriving DecidableEq, Repr

/-- The note list with a note appended, the oldest removed first when it holds 4 (R125). -/
def appendNote (notes : List Note) (n : Note) : List Note := (if notes.length < 4 then notes else notes.drop 1) ++ [n]

/-- R130, R134: the note, its Attack or Hold and its Off are made, and the key's detached Offs removed. -/
def State.makeNote (s : State) (k : Nat) (m : NewNote) : State :=
  let id := s.sched.nextNote
  let strikeEntry : Entry :=
    { kind := m.kind, onset := m.onset, target := k, level := m.level, holdLevel := m.holdLevel, attack := m.attack,
      rearm := m.rearm, via := m.via, note := some id, marker := 0, strike := m.strike.getD 0,
      velocity := m.velocity.getD 0 }
  let offEntry : Entry :=
    { kind := .off, onset := m.off, target := k, level := 0, holdLevel := 0, attack := 0, rearm := m.rearm, via := none,
      note := some id, marker := 0, strike := 0, velocity := 0 }
  let note : Note :=
    { id := id, onset := m.onset, attack := m.attack, rearm := m.rearm, strike := m.strike, off := m.off,
      origin := m.origin, attackDispatched := false, offDispatched := false, owed := m.owed, via := m.via,
      velocity := m.velocity }
  let kept := s.sched.entries.filter (fun e => !(e.offOf k && e.note == none))
  let s := { s with sched := { s.sched with
    entries := insertEntry offEntry (insertEntry strikeEntry kept), nextNote := id + 1 } }
  let s := s.setDrive k { s.driveOf k with notes := appendNote (s.driveOf k).notes note }
  s.redecide k

/-- The counts of a computation (R108, R111, R113). -/
def State.countComputation (s : State) (c : Computation) : State :=
  ((((s.bumpIf c.clamped .clamped).bumpIf c.saturatedLevel .saturated).bumpIf c.saturatedHold .saturated).bumpIf
    (c.outcome == .late) .late).bumpIf (c.outcome == .stale) .stale

/-- A computed strike or silent press of a replay record becomes a note (R107, R128 to R130); a Stale one makes none. -/
def State.placeComputed (s : State) (k : Nat) (kind : EntryKind) (via : Via) (c : Computation) : State :=
  let s := s.countComputation c
  if c.outcome = .stale then s
  else
    let spaced := s.spaceNote k c.onset c.rearm
    let onset := c.onset + spaced.2
    spaced.1.makeNote k
      { kind := kind, onset := onset, strike := c.strike.map (· + spaced.2), level := c.level, holdLevel := c.holdLevel,
        attack := c.attack, rearm := c.rearm, off := onset + s.port.options.holdCap, origin := .provisional, owed := true,
        via := some via, velocity := some c.velocity }

/-- A Strike or SilentPress record with a Key entry (R127). -/
def State.admitStrike (s : State) (r : EventRecord) (e : CacheEntry) (points : List Breakpoint) (sc : Scalars) : State :=
  match s.refusal e.target with
  | some counter => s.bump counter
  | none =>
    let f := s.feed (s.driverOf e.target)
    let c := s.clocking r.time
    if r.kind = .strike then
      s.placeComputed e.target .attack ⟨e.voice, e.set⟩ (computeStrike points sc e.trim r.value f c)
    else s.placeComputed e.target .hold ⟨e.voice, e.set⟩ (computeSilent sc e.trim f c)

/-- A Release record with a Key entry (R131). -/
def State.admitRelease (s : State) (r : EventRecord) (k : Nat) : State :=
  match (s.driveOf k).notes.find? Note.owed with
  | none => s.bump .orphan
  | some n =>
    let s := s.modNote k n.id (fun n => { n with owed := false })
    if n.offDispatched then s
    else
      match s.driverOf k with
      | none => s
      | some b =>
        let tick := releaseTick n.onset n.attack (s.feed (some b)) (s.clocking r.time)
        if tick < n.off then s.moveOff k n.id tick .stream else s

/-- A Pedal record with a Pedal or InvertedPedal entry (R132). -/
def State.admitPedal (s : State) (r : EventRecord) (e : CacheEntry) (points : List Breakpoint) : State :=
  let driver := s.pedalDriverOf e.target
  if !s.available driver then s
  else
    let p := computePedal points (e.kind == .invertedPedal) e.trim r.value (s.feed driver) (s.clocking r.time)
    let s := ((s.bumpIf p.clamped .clamped).bumpIf p.saturated .saturated).bumpIf p.late .late
    s.setEntries (insertEntry
      { kind := .pedalSet, onset := p.onset, target := e.target, level := p.level, holdLevel := 0, attack := 0, rearm := 0,
        via := some ⟨e.voice, e.set⟩, note := none, marker := 0, strike := 0, velocity := 0 } s.sched.entries)

/-- A Marker or End record (R133). -/
def State.admitMarker (s : State) (r : EventRecord) : State :=
  s.setEntries (insertEntry
    { kind := if r.kind = .marker then .marker else .endOfReplay, onset := markerOnset (s.clocking r.time), target := 0,
      level := 0, holdLevel := 0, attack := 0, rearm := 0, via := none, note := none,
      marker := if r.kind = .marker then r.value else 0, strike := 0, velocity := 0 } s.sched.entries)

/-- A record that has left the intake proceeds with the entry of its voice (R120, R127, R131, R132). -/
def State.proceed (s : State) (r : EventRecord) (e : CacheEntry) : State :=
  match r.kind, e.kind, e.page with
  | .strike, .key, .strike points sc => s.admitStrike r e points sc
  | .silentPress, .key, .strike points sc => s.admitStrike r e points sc
  | .release, .key, _ => s.admitRelease r e.target
  | .pedal, .pedal, .pedal points => s.admitPedal r e points
  | .pedal, .invertedPedal, .pedal points => s.admitPedal r e points
  | _, _, _ => s.bump .voiceAbsent

/-- Free entries of the schedule (R122, R124). -/
def State.freeEntries (s : State) : Nat := 512 - s.sched.entries.length

/-- The schedule's answer to a calibration strike (R134, R158). -/
inductive StrikeAnswer
  | admitted
  | noRoom
  | dropped (counter : Counter)
deriving DecidableEq, Repr

/-- A calibration strike asked of the schedule (R134). The tests of R127 come before the room (DESIGN CHOICE, log 57). Its note has
no strike tick (DESIGN CHOICE, log 51). -/
def State.admitCalibration (s : State) (k onset level hold attack rearm : Nat) : State × StrikeAnswer :=
  match s.refusal k with
  | some counter => (s.bump counter, .dropped counter)
  | none =>
    if s.freeEntries < 2 then (s, .noRoom)
    else
      let raised := max onset s.earliest
      let spaced := s.spaceNote k raised rearm
      let o := raised + spaced.2
      (spaced.1.makeNote k
        { kind := .attack, onset := o, strike := none, level := level, holdLevel := hold, attack := attack, rearm := rearm,
          off := o + attack, origin := .stream, owed := false, via := none, velocity := none }, .admitted)

/-! ### Pause, Resume, Stop (R139, R140) -/

/-- The entries without the Off entries of key k that a Pause removes (R139): those of notes whose attack has been
dispatched and whose Off has not; and, for a driven key, one whose note has left the Note List, when no Attack or Hold
entry of the key stands before it and its own is no longer held (`strikes`: the notes of the key's Attack and Hold
entries; R130, DEDUCED, log 23). -/
def pauseRemoves (d : KeyDrive) (k : Nat) (strikes : List Nat) : Bool → List Entry → List Entry
  | _, [] => []
  | seen, e :: es =>
    let gone := e.offOf k && e.note.any (fun id =>
      d.notes.any (fun n => n.id == id && n.attackDispatched && !n.offDispatched) ||
        (d.driven && !seen && !d.notes.any (fun n => n.id == id) && !strikes.contains id))
    let rest := pauseRemoves d k strikes (seen || e.strikes k) es
    if gone then rest else e :: rest

/-- The Pause reaches key k (R139). -/
def State.pauseKey (s : State) (k : Nat) : State :=
  let d := s.driveOf k
  let strikes := (s.sched.entries.filter (fun e => e.strikes k)).filterMap Entry.note
  let s1 := s.setEntries (pauseRemoves d k strikes false s.sched.entries)
  let s2 := s1.mapNotes k (fun n =>
    if n.attackDispatched && !n.offDispatched then
      { n with offDispatched := true, off := s.earliest, origin := .paused }
    else n)
  (s2.askOff k).redecide k

/-- The Pause reaches the schedule (R139). -/
def State.pauseSchedule (s : State) : State := allKeys.foldl State.pauseKey s

/-- A note moved by a Resume (R139). -/
def Note.resumed (delta : Nat) (n : Note) : Note :=
  if n.offDispatched then n
  else { n with onset := if n.attackDispatched then n.onset else n.onset + delta, strike := n.strike.map (· + delta),
                off := n.off + delta }

/-- The Resume reaches the schedule (R9, R139): every entry and every tick of a note not yet ended moves later. -/
def State.resumeSchedule (s : State) (delta : Nat) : State :=
  { s with sched := { s.sched with
    entries := s.sched.entries.map (Entry.later delta),
    keys := s.sched.keys.map (fun d => { d with notes := d.notes.map (Note.resumed delta) }) } }

/-- The Stop reaches key k (R140). -/
def State.stopKey (s : State) (k : Nat) : State :=
  let s := s.askOff k
  let s := s.setDrive k { s.driveOf k with notes := [], attackEnd := none, rearmBase := none, releaseEnd := none }
  s.redecide k

/-- The Stop reaches the schedule (R140). -/
def State.stopSchedule (s : State) : State :=
  let s := allKeys.foldl State.stopKey (s.setEntries [])
  { s with sched := { s.sched with
    pedals := s.sched.pedals.map (fun p => { p with rest := p.rest || p.level.any (fun l => decide (0 < l)) }) } }

/-- At a TransportStart every pedal's last dispatched level becomes absent (R126). -/
def State.startSchedule (s : State) : State :=
  { s with sched := { s.sched with pedals := s.sched.pedals.map (fun p => { p with level := none }) } }

/-- When the link enters DOWN, WAKING or ALIGNING: pending immediate Offs and pedal rests are discarded and every pedal is
at rest (R138, R140). -/
def State.linkSilence (s : State) : State :=
  { s with sched := { s.sched with
    keys := s.sched.keys.map (fun d => { d with immediateOff := false }),
    pedals := s.sched.pedals.map (fun p => { level := p.level.map (fun _ => 0), rest := false }) } }

/-! ### Withdrawal and unavailability (R141, R142) -/

/-- Every Attack, Hold and Off entry of k removed, an immediate Off asked, the Note List cleared (R141). -/
def State.withdraw (s : State) (k : Nat) : State :=
  let s := (s.setEntries (s.sched.entries.filter (fun e => !e.ofKey k))).askOff k
  (s.setDrive k { s.driveOf k with notes := [] }).redecide k

/-- Key k becomes unavailable for drive (R142). -/
def State.unavailKey (s : State) (k : Nat) : State :=
  let gone := (s.sched.entries.filter (fun e => e.strikes k)).filterMap Entry.note
  let left := s.sched.entries.filter (fun e => !e.strikes k)
  let s := s.setEntries (left.map (fun e => if e.offOf k && e.note.any gone.contains then { e with note := none } else e))
  let s := s.setDrive k { s.driveOf k with notes := (s.driveOf k).notes.filter (fun n => !gone.contains n.id) }
  (s.askOff k).redecide k

/-- A station's keys and pedals become unavailable for drive (R33, R47, R142). -/
def State.unavailable (s : State) (e : RosterEntry) : State :=
  let s := e.keys.foldl State.unavailKey s
  s.setEntries (s.sched.entries.filter (fun x => !(x.kind == .pedalSet && e.hasPedal x.target)))

/-! ### The over-temperature cap (R48) -/

/-- An entry for one of the station's keys or pedals. -/
def RosterEntry.drivesEntry (e : RosterEntry) (x : Entry) : Bool :=
  match x.kind with
  | .attack => e.hasKey x.target
  | .hold => e.hasKey x.target
  | .pedalSet => e.hasPedal x.target
  | .off => false
  | .marker => false
  | .endOfReplay => false

/-- The levels of an entry limited to 768. -/
def Entry.capped (x : Entry) : Entry :=
  { x with level := min x.level Config.hotCap, holdLevel := min x.holdLevel Config.hotCap }

/-- An entry that the cap lowers. -/
def RosterEntry.lowers (e : RosterEntry) (x : Entry) : Bool :=
  e.drivesEntry x && (decide (Config.hotCap < x.level) || decide (Config.hotCap < x.holdLevel))

/-- Every level above 768 held for the station's keys and pedals is lowered to 768, Saturated counted once for each entry
lowered (R48). -/
def State.lowerLevels (s : State) (e : RosterEntry) : State :=
  let n := (s.sched.entries.filter e.lowers).length
  (s.setEntries (s.sched.entries.map (fun x => if e.lowers x then x.capped else x))).bumpTimes .saturated n

end Sys2Proof.Machine
end

