-- ==== Sys2Proof/Machine/Voices.lean ====
section
/-! DEFINITION. Table Memory's writes from inside the part (R89, R90, R94), page validity (R91), the Voice Cache and the
Table Walker (06), and the Replay Intake (08, 8.1). -/

namespace Sys2Proof.Machine

/-! ### Page validity (R91) -/

/-- A page field that fails R91, by its place in R174's count (3 count, 4 input, 5 drive, 6 time, 7 to 10 scalars) and
the breakpoint index, or 255. -/
abbrev PageFailure := Nat × Nat

/-- The limits R91 sets one kind of page: least and greatest input, drive and time. -/
structure PageLimits where
  inputLow : Nat
  inputHigh : Nat
  driveLow : Nat
  timeLow : Nat
deriving DecidableEq, Repr

/-- R91, Strike. -/
def strikeLimits : PageLimits := { inputLow := 1, inputHigh := 9999, driveLow := 1, timeLow := 500 }
/-- R91, Pedal. -/
def pedalLimits : PageLimits := { inputLow := 0, inputHigh := 255, driveLow := 0, timeLow := 0 }

/-- The first failing field of one breakpoint against the one before it (R91, R92): velocity or position, drive, then
flight or lead. Leads may stand in any order (`flights` is no). -/
def breakpointFailure (l : PageLimits) (flights : Bool) (before : Option Breakpoint) (p : Breakpoint) : Option Nat :=
  if p.input < l.inputLow || l.inputHigh < p.input || before.any (fun b => decide (p.input ≤ b.input)) then some 4
  else if p.drive < l.driveLow || 1023 < p.drive || before.any (fun b => decide (p.drive < b.drive)) then some 5
  else if p.time < l.timeLow || 60000 < p.time || (flights && before.any (fun b => decide (b.time < p.time))) then some 6
  else none

/-- The first failing breakpoint, by ascending index (R92). -/
def pointsFailure (l : PageLimits) (flights : Bool) : Option Breakpoint → Nat → List Breakpoint → Option PageFailure
  | _, _, [] => none
  | before, i, p :: ps =>
    match breakpointFailure l flights before p with
    | some place => some (place, i)
    | none => pointsFailure l flights (some p) (i + 1) ps

/-- The first failing scalar, in the order of the page table (R91, R92). DEDUCED, log 62. -/
def scalarsFailure (sc : Scalars) : Option PageFailure :=
  if sc.attack < 2000 || 40000 < sc.attack then some (7, 255)
  else if sc.hold < 1 || 1023 < sc.hold then some (8, 255)
  else if sc.rearm < 10000 || 200000 < sc.rearm then some (9, 255)
  else if 60000 < sc.silentLead then some (10, 255)
  else none

/-- The first failure of a page: count, breakpoints, scalars (R91, R92). -/
def pageFailure : Page → Option PageFailure
  | .strike points sc =>
    if points.length < 2 || 16 < points.length then some (3, 255)
    else (pointsFailure strikeLimits true none 0 points).or (scalarsFailure sc)
  | .pedal points =>
    if points.length < 2 || 16 < points.length then some (3, 255) else pointsFailure pedalLimits false none 0 points

/-- A page that meets R91. -/
def pageValid (p : Page) : Bool := (pageFailure p).isNone

/-! ### Marks, trim and commits -/

/-- Change one descriptor in Table Memory. -/
def State.modDescriptor (s : State) (set voice : Nat) (f : VoiceDescriptor → VoiceDescriptor) : State :=
  match s.mem.descriptor set voice with
  | none => s
  | some d => { s with mem := s.mem.setDescriptor set voice (f d) }

/-- Played set on the descriptor an entry came through (R89). -/
def State.markPlayed (s : State) (via : Option Via) : State :=
  match via with
  | none => s
  | some v => s.modDescriptor v.set v.voice (fun d => { d with played := true })

/-- A new trim for a voice of a set: in Table Memory, in a cached copy of the same set, and in a walk that has read its
descriptor (R90, R150). -/
def State.writeTrim (s : State) (v : Via) (trim : Nat) : State :=
  let s := s.modDescriptor v.set v.voice (fun d => { d with trim := trim })
  { s with voices := { s.voices with
    entries := s.voices.entries.map (fun e => if e.voice = v.voice ∧ e.set = v.set then { e with trim := trim } else e),
    walk := s.voices.walk.map (fun w =>
      if w.voice = v.voice ∧ w.set = v.set then { w with descriptor := w.descriptor.map (fun d => { d with trim := trim }) }
      else w) } }

/-- A calibration commit: the slot replaced whole, and every entry copied from it removed (R94). -/
def State.commitPage (s : State) (slot : Nat) (p : Page) : State :=
  { s with
    mem := s.mem.setPage slot (some p),
    voices := { s.voices with entries := s.voices.entries.filter (fun e => e.slot != slot) } }

/-! ### Lookup and walk -/

/-- The entry of a voice. -/
def VoiceUnit.find (v : VoiceUnit) (voice : Nat) : Option CacheEntry := v.entries.find? (fun e => e.voice == voice)

/-- A hit: the entry moves to the front (R97). -/
def State.touch (s : State) (e : CacheEntry) : State :=
  { s with voices := { s.voices with entries := e :: s.voices.entries.filter (fun x => x.voice != e.voice) } }

/-- A walk in flight is cancelled (R101). -/
def State.cancelWalk (s : State) : State := { s with voices := { s.voices with walk := none } }

/-- The record at the head leaves the intake. -/
def State.popIntake (s : State) : State := { s with intake := s.intake.drop 1 }

/-- The walk ends with VoiceAbsent and its record is dropped (R99). -/
def State.walkAbsent (s : State) : State := (s.cancelWalk.popIntake).bump .voiceAbsent

/-- The descriptor read (R98): a descriptor not present completes the walk at once (R99). -/
def State.walkDescriptor (s : State) (w : Walk) : State :=
  match s.mem.descriptor w.set w.voice with
  | none => s
  | some d =>
    if d.present then { s with voices := { s.voices with walk := some { w with descriptor := some d } } }
    else s.walkAbsent

/-- The page read (R98): the walk holds the slot's content, whatever is written to the slot afterwards (R100). -/
def State.walkPage (s : State) (w : Walk) (slot : Nat) : State :=
  { s with voices := { s.voices with walk := some { w with page := some (s.mem.page slot) } } }

/-- The next read of the walk in flight: the descriptor read, then the page read taken by itself, ahead of the completion
(R98, R100; DESIGN CHOICE, log 49). -/
def State.walkRead (s : State) : State :=
  match s.voices.walk with
  | none => s
  | some w =>
    match w.descriptor, w.page with
    | none, _ => s.walkDescriptor w
    | some d, none => s.walkPage w d.page
    | some _, some _ => s

/-- What the walk judges as its page: the content it holds, or the slot as it stands (R98, R100). -/
def Walk.content (w : Walk) (m : TableMemory) (slot : Nat) : Option Page := w.page.getD (m.page slot)

/-- The page suits the kind (R99). -/
def pageSuits (k : VoiceKind) (p : Page) : Bool :=
  match k, p with
  | .key, .strike _ _ => true
  | .pedal, .pedal _ => true
  | .invertedPedal, .pedal _ => true
  | _, _ => false

/-- The entries with a new one at the front, the last removed first when there are 16 (R99). -/
def insertCache (e : CacheEntry) (l : List CacheEntry) : List CacheEntry := e :: (if l.length < 16 then l else l.dropLast)

/-- The page read, where it has not been taken, the judgement and the completion (R98, R99). -/
def State.walkEnd (s : State) : State :=
  match s.voices.walk with
  | none => s
  | some w =>
    match w.descriptor with
    | none => s
    | some d =>
      if d.kind = .key ∧ s.keyCount < d.target then s.walkAbsent
      else
        match w.content s.mem d.page with
        | none => s.walkAbsent
        | some p =>
          if pageSuits d.kind p then
            let e : CacheEntry :=
              { voice := w.voice, set := w.set, kind := d.kind, target := d.target, slot := d.page, trim := d.trim, page := p }
            let s1 := { s with voices := { s.voices with entries := insertCache e s.voices.entries, walk := none } }
            let s2 := s1.modDescriptor w.set w.voice (fun d => { d with accessed := true })
            match s.intake with
            | [] => s2
            | r :: _ => s2.popIntake.proceed r e
          else s.walkAbsent

/-! ### The Replay Intake (R121, R122) -/

/-- A record handed over (R121). -/
def State.takeRecord (s : State) (r : EventRecord) : State :=
  if s.intake.length < 64 then { s with intake := s.intake ++ [r] } else s.bump .intakeOverrun

/-- The intake is emptied and a walk cancelled (R123). -/
def State.emptyIntake (s : State) : State := { s.cancelWalk with intake := [] }

/-- Free schedule entries a record needs (R122). -/
def recordNeeds : RecordKind → Nat
  | .strike => 2
  | .silentPress => 2
  | .pedal => 1
  | .marker => 1
  | .endOfReplay => 1
  | .release => 0

/-- The conditions of R122 for the record at the head. -/
def State.admissible (s : State) (r : EventRecord) : Bool :=
  s.time.transport == .running && s.voices.walk.isNone &&
    decide (s.dueTick r.time ≤ s.now + s.port.options.lookAhead) && decide (recordNeeds r.kind ≤ s.freeEntries)

/-- A record whose conditions hold: admitted, dropped, or its walk started (R86, R97, R122). -/
def State.admitHead (s : State) (r : EventRecord) : State :=
  match r.kind with
  | .marker => s.popIntake.admitMarker r
  | .endOfReplay => s.popIntake.admitMarker r
  | _ =>
    if r.voice = 0 ∨ 127 < r.voice then s.popIntake.bump .voiceAbsent
    else
      match s.voices.find r.voice with
      | some e => ((s.touch e).popIntake).proceed r e
      | none =>
        { s with voices := { s.voices with
          walk := some { voice := r.voice, set := s.voices.activeSet, descriptor := none, page := none } } }

/-- ADMIT_RECORD: the test of the head (R122). -/
def State.testHead (s : State) : State :=
  match s.intake with
  | [] => s
  | r :: _ => if s.admissible r then s.admitHead r else s

end Sys2Proof.Machine
end

