-- ==== Sys2Proof/Machine/Capture.lean ====
section
/-! DEFINITION. The Capture Queue (05) and the tracker's acts that need no routing: handing an event over (R68), closing a
depression (R70), counts (R69). -/

namespace Sys2Proof.Machine

/-! ### Order and capacity (R75, R76) -/

/-- Rank of a kind for equal stamp and voice (R75). -/
def CaptureKind.rank : CaptureKind → Nat
  | .release => 0 | .strike => 1 | .silentPress => 2 | .pedal => 3 | .linkGap => 4

/-- `a` stands before `b` (R75). -/
def CaptureEvent.before (a b : CaptureEvent) : Bool :=
  decide (a.stamp < b.stamp) ||
    (a.stamp == b.stamp &&
      (decide (a.voice < b.voice) || (a.voice == b.voice && decide (a.kind.rank < b.kind.rank))))

/-- Insert behind every event that stands equal or before (R75). -/
def insertEvent (e : CaptureEvent) : List CaptureEvent → List CaptureEvent
  | [] => [e]
  | x :: xs => if e.before x then e :: x :: xs else x :: insertEvent e xs

/-- A Pedal event of a voice. -/
def CaptureEvent.pedalOf (voice : Nat) (e : CaptureEvent) : Bool := e.kind == .pedal && e.voice == voice

/-- The list without its last element that has a property (R76). -/
def dropLastThat (p : CaptureEvent → Bool) (l : List CaptureEvent) : List CaptureEvent :=
  (l.reverse.eraseP p).reverse

/-- Change the take summary while a take is open (R80). -/
def State.summarise (s : State) (f : TakeSummary → TakeSummary) : State :=
  if s.capture.summary.takeOpen then { s with capture := { s.capture with summary := f s.capture.summary } } else s

/-- Replace the held events. -/
def State.setEvents (s : State) (es : List CaptureEvent) : State := { s with capture := { s.capture with events := es } }

/-- A LinkGap marks the take, inserted or dropped (R80). -/
def State.markGap (s : State) (e : CaptureEvent) : State :=
  if e.kind = .linkGap then s.summarise (fun t => { t with incomplete := true }) else s

/-- An event handed over to the queue (R76, R80). -/
def State.takeEvent (s : State) (e : CaptureEvent) : State :=
  if s.capture.events.length < 256 then (s.setEvents (insertEvent e s.capture.events)).markGap e
  else if e.kind = .pedal ∧ s.capture.events.any (CaptureEvent.pedalOf e.voice) then
    s.setEvents (insertEvent e (dropLastThat (CaptureEvent.pedalOf e.voice) s.capture.events))
  else
    ((s.bump .captureOverflow).summarise (fun t => { t with overflow := countUp t.overflow, incomplete := true })).markGap e

/-! ### Sending (R77, R81, R82) -/

/-- R81 for one event sent. -/
def TakeSummary.sent (t : TakeSummary) (e : CaptureEvent) : TakeSummary :=
  { t with
    events := if t.events < 4294967295 then t.events + 1 else t.events,
    first := some (match t.first with | none => e.stamp | some f => min f e.stamp),
    last := some (match t.last with | none => e.stamp | some l => max l e.stamp) }

/-- The first `n` events leave in one CaptureEvents frame (R77, R81). -/
def State.sendEvents (s : State) (n : Nat) : State :=
  let chunk := s.capture.events.take n
  State.hand
    { s with capture := { events := s.capture.events.drop n, summary := chunk.foldl TakeSummary.sent s.capture.summary } }
    (.capture chunk)

/-- How many events at the head have settled (R77). -/
def State.settledCount (s : State) : Nat :=
  (s.capture.events.takeWhile (fun e => decide (e.stamp + Config.settleInterval ≤ s.startTick))).length

/-- The release of R77: frames of up to 30 settled events while the transmit queue holds fewer than 48 frames. -/
def State.releaseFrames : Nat → State → State
  | 0, s => s
  | fuel + 1, s =>
    let n := min 30 s.settledCount
    if n = 0 then s else if s.queued < 48 then State.releaseFrames fuel (s.sendEvents n) else s

/-- CAPTURE_RELEASE: at a cycle start while the transport is Running or Paused (R77). -/
def State.captureRelease (s : State) : State :=
  if s.taking then State.releaseFrames s.capture.events.length s else s

/-- Every event in frames of up to 30, whatever the transmit queue holds (R82, R171). -/
def State.flushFrames : Nat → State → State
  | 0, s => s
  | fuel + 1, s => if s.capture.events = [] then s else State.flushFrames fuel (s.sendEvents 30)

/-- CAPTURE_FLUSH: the flush and the TakeSummary behind it (R82). -/
def State.flush (s : State) (cause : StopCause) : State :=
  let s := State.flushFrames s.capture.events.length s
  let s := s.hand (.report s.time.linkCycle (.takeSummary s.capture.summary cause))
  { s with capture := { s.capture with summary := { s.capture.summary with takeOpen := false } } }

/-- The take opened by a TransportStart in Capture or Duplex (R79). -/
def State.openTake (s : State) : State :=
  { s with capture := { s.capture with summary := { TakeSummary.initial with takeOpen := true } } }

/-! ### The tracker's counts -/

/-- A Brush, SensorOrder or CrossingsLost counted, and reported to the take's summary while capturing (R68, R69, R80). -/
def State.trackerCount (s : State) (c : Counter) : State :=
  let s := s.bump c
  if s.capturing then
    s.summarise (fun t =>
      match c with
      | .brush => { t with brush := countUp t.brush }
      | .sensorOrder => { t with order := countUp t.order }
      | .crossingsLost => { t with lost := countUp t.lost, incomplete := true }
      | _ => t)
  else s

/-! ### Handing over and closing (R68, R70, R71, R72) -/

/-- An event of key k handed over with its stamp raised to keep the key's events in order (R68). -/
def State.handKeyEvent (s : State) (k : Nat) (kind : CaptureKind) (value raw : Nat) : State :=
  let r := s.trackerOf k
  let least := match r.lastStamp with
    | none => 0
    | some t => if kind = .release then t + 1 else t
  let stamp := max raw least
  (s.setTracker k { r with lastStamp := some stamp, sounded := kind != .release }).takeEvent
    { kind := kind, voice := k, stamp := stamp, value := value }

/-- A Release of key k if the depression sounded (R64, R70): handed over while capturing; sounded becomes no, also where R68
hands nothing over (DEDUCED, log 48). -/
def State.releaseKey (s : State) (k raw : Nat) : State :=
  if (s.trackerOf k).sounded then
    let s := if s.capturing then s.handKeyEvent k .release 0 raw else s
    s.setTracker k { s.trackerOf k with sounded := false }
  else s

/-- The depression of key k closed (R70), its record becoming AtRest or Blind. -/
def State.closeKey (s : State) (into : TrackState) (k : Nat) : State :=
  if (s.trackerOf k).state = .atRest then s.setTracker k { s.trackerOf k with state := into }
  else
    let s := s.releaseKey k s.startTick
    s.setTracker k { s.trackerOf k with state := into, h1 := none, owner := .performer }

/-- The depressions of some keys closed where the record is not Blind, in ascending key number (R72; the order is a DESIGN
CHOICE, log 42). -/
def State.closeKeys (s : State) (keys : List Nat) : State :=
  keys.foldl (fun s k => if (s.trackerOf k).state = .blind then s else s.closeKey .atRest k) s

/-- A Blind record returns to AtRest (R71). -/
def TrackerRecord.restored (r : TrackerRecord) : TrackerRecord :=
  { r with state := .atRest, h1 := none, sounded := false, owner := .performer }

/-- At a TransportStart (R57, R73). -/
def State.startTracker (s : State) : State :=
  { s with tracker := {
    keys := s.tracker.keys.map (fun r => { r with sounded := false, lastStamp := none }),
    pedals := s.tracker.pedals.map (fun p => { p with lastEmitted := none }) } }

/-- A station that senses has become Absent (R72, R80). -/
def State.markIncomplete (s : State) : State :=
  if s.capturing then s.summarise (fun t => { t with incomplete := true }) else s

end Sys2Proof.Machine
end

