-- ==== Sys2Proof/Machine/Duplex.lean ====
section
/-! DEFINITION. The Duplex Monitor (09): windows, verification, trim, contention and yield waits. -/

namespace Sys2Proof.Machine

/-! ### Windows (R143, R144, R147) -/

/-- The stamp lies in the span, both ends included (09, 9.1). -/
def Window.spans (w : Window) (stamp : Nat) : Bool := decide (w.start ≤ (stamp : Int)) && decide (stamp ≤ w.stop)

/-- The cycle at whose start a window ends (09, 9.1). -/
def closeCycle (stop : Nat) : Nat := stop / 20 + 1

/-- The key can be seen: its record is not Blind and its sensing station is Present (R143). -/
def State.visible (s : State) (k : Nat) : Bool := (s.trackerOf k).state != .blind && s.sensed k

/-- The mode opens Monitor windows (R143). -/
def State.verifies (s : State) : Bool :=
  s.time.mode == .duplex || (s.time.mode == .replay && s.port.options.verify)

/-- A StrikeOutcome record, while the outcome reports option is on (R148). -/
def State.outcome (s : State) (o : StrikeOutcome) : State :=
  if s.port.options.outcomeReports then s.report (.strikeOutcome o) else s

/-- The record of a superseded window (R143, R148). -/
def supersededOutcome (k commanded strike : Nat) (via : Via) : StrikeOutcome :=
  { outcome := .superseded, key := k, via := via, strike := strike, commanded := commanded, measured := none,
    timing := none, step := none, trimAfter := none, limited := false }

/-- A dispatched Attack handed to the Duplex Monitor (R143). -/
def State.openMonitor (s : State) (k strike velocity : Nat) (via : Via) : State :=
  if s.verifies && s.visible k then
    let s := match s.windowOf k with
      | some { holder := .monitor commanded old, strike := st, .. } => s.outcome (supersededOutcome k commanded st old)
      | _ => s
    let width := s.port.options.windowWidth
    s.setWindow k (some
      { holder := .monitor velocity via, strike := strike, start := (strike : Int) - width, stop := strike + width,
        close := closeCycle (strike + width) })
  else s

/-- A Sequencer entry (R144); the caller has found that it can be opened. -/
def State.openSequencer (s : State) (k onset : Nat) : State :=
  s.setWindow k (some
    { holder := .sequencer, strike := onset, start := onset, stop := onset + Config.sequencerSpan,
      close := closeCycle (onset + Config.sequencerSpan) })

/-- The Expectation Table cleared without outcomes (R147). -/
def State.clearWindows (s : State) : State :=
  { s with duplex := { s.duplex with windows := Vector.replicate 97 none } }

/-- The windows of some keys removed without outcomes (R147). -/
def State.removeWindows (s : State) (keys : List Nat) : State := keys.foldl (fun s k => s.setWindow k none) s

/-! ### Adaptive trim (R149, R150) -/

/-- The step of a Verified outcome (R149). -/
def verifiedStep (commanded measured : Nat) : Int :=
  clampInt (((((commanded : Int) - measured) * 1000).tdiv commanded).tdiv 8) (-25) 25

/-- The step of a Missed outcome (R149). -/
def missedStep : Int := 25

/-- The new trim (R149). -/
def newTrim (trim : Nat) (step : Int) : Nat := (clampInt ((trim : Int) + step) 500 1500).toNat

/-- The clamp changed the sum (R149). -/
def trimLimited (trim : Nat) (step : Int) : Bool := (newTrim trim step : Int) != (trim : Int) + step

/-- The descriptor trim of a voice as Table Memory holds it (R149). -/
def State.trimOf (s : State) (v : Via) : Nat := match s.mem.descriptor v.set v.voice with | none => 1000 | some d => d.trim

/-- The new trim is written when it differs from the old (R150). -/
def State.adapt (s : State) (v : Via) (step : Int) : State :=
  if newTrim (s.trimOf v) step = s.trimOf v then s else s.writeTrim v (newTrim (s.trimOf v) step)

/-- The end of a Monitor window with a step (R145, R146): trim when adaptive trim is on, then the record. -/
def State.conclude (s : State) (k : Nat) (w : Window) (commanded : Nat) (via : Via) (result : StrikeResult)
    (measured : Option Nat) (timing : Option Int) (step : Int) : State :=
  if s.port.options.adaptiveTrim then
    (s.adapt via step).outcome
      { outcome := result, key := k, via := via, strike := w.strike, commanded := commanded, measured := measured,
        timing := timing, step := some step, trimAfter := some (newTrim (s.trimOf via) step),
        limited := trimLimited (s.trimOf via) step }
  else
    s.outcome
      { outcome := result, key := k, via := via, strike := w.strike, commanded := commanded, measured := measured,
        timing := timing, step := none, trimAfter := none, limited := false }

/-- A verification (R146). -/
def State.verify (s : State) (k : Nat) (w : Window) (commanded : Nat) (via : Via) (measured stamp : Nat) : State :=
  let s := s.conclude k w commanded via .verified (some measured) (some ((stamp : Int) - w.strike))
    (verifiedStep commanded measured)
  (s.setYield k { s.yieldOf k with level := 0 }).setWindow k none

/-- A Monitor window that reached its close cycle (R145). -/
def State.missed (s : State) (k : Nat) (w : Window) (commanded : Nat) (via : Via) : State :=
  (s.conclude k w commanded via .missed none none missedStep).setWindow k none

/-! ### Contention and yield (R152 to R154) -/

/-- Contention on key k (R152). -/
def State.contend (s : State) (k : Nat) : State :=
  let s := (s.bump .contention).setWindow k none
  let level := (s.yieldOf k).level
  let s := s.setYield k
    { requirement := some (s.port.options.yieldBase * 2 ^ level), rest := 0, level := min (level + 1) 2 }
  s.withdraw k

/-- The end of a yield wait: no requirement, count 0, the key decided anew (R153, R154). -/
def State.endYield (s : State) (k : Nat) : State :=
  (s.setYield k { s.yieldOf k with requirement := none, rest := 0 }).redecide k

/-- A waiting key's rest count has reached its requirement (R153). -/
def State.yieldDue (s : State) (k : Nat) : Bool :=
  match (s.yieldOf k).requirement with
  | none => false
  | some y => decide (y ≤ (s.yieldOf k).rest)

/-- The rest count of key k at the close of a hand-over (R153); `readable` says that the hand-over shows the key. -/
def State.restKey (s : State) (readable : Bool) (k : Nat) : State :=
  if s.waitingYield k && readable then
    let y := s.yieldOf k
    let s := s.setYield k { y with rest := if (s.trackerOf k).state = .atRest then y.rest + 1 else 0 }
    if s.yieldDue k then s.endYield k else s
  else s

end Sys2Proof.Machine
end

