-- ==== Sys2Proof/Machine/Calibration.lean ====
section
/-! DEFINITION. The Calibration Sequencer (10). -/

namespace Sys2Proof.Machine

/-- level_j of R157. -/
def jobLevel (j : Job) (i : Nat) : Nat := j.minDrive + (j.maxDrive - j.minDrive) * i / (j.levels - 1)

/-- The level series of R157. -/
def jobLevels (j : Job) : List Nat := (List.range j.levels).map (jobLevel j)

/-- A level of the series, or the hold level, exceeds 768 (R165). -/
def CurrentJob.exceedsCap (c : CurrentJob) : Bool :=
  (jobLevels c.job).any (fun l => decide (Config.hotCap < l)) || decide (Config.hotCap < c.scalars.hold)

/-- Replace the current job. -/
def State.setJob (s : State) (c : CurrentJob) : State := { s with calib := { s.calib with current := some c } }

/-- The job leaves the queue, no job is current, and none starts before the next cycle start (R163, R165). -/
def State.leaveJob (s : State) : State :=
  { s with calib := { queue := s.calib.queue.drop 1, current := none, testDue := false } }

/-! ### Ending the strike in progress (R164) -/

/-- The Attack of the current calibration strike of key k: it carries no voice (R134). -/
def Entry.calibrationAttack (e : Entry) (k : Nat) : Bool := e.kind == .attack && e.target == k && e.via == none

/-- The Attack, Off and note of a strike not yet dispatched are removed, as far as the schedule still holds them: the Off too
where an unavailability has detached it (R142). A detached Off of the key is the strike's own, for its admission removed
every earlier one (R130, R134, R164). -/
def State.removeStrike (s : State) (k : Nat) : State :=
  let ids := (s.sched.entries.filter (fun e => e.calibrationAttack k)).filterMap Entry.note
  let s := s.setEntries (s.sched.entries.filter
    (fun e => !(e.calibrationAttack k || (e.offOf k && e.note.all ids.contains))))
  (s.setDrive k { s.driveOf k with notes := (s.driveOf k).notes.filter (fun n => !ids.contains n.id) }).redecide k

/-- Ending the current strike (R164). -/
def State.endStrike (s : State) (c : CurrentJob) : State :=
  match c.state with
  | .pending => s
  | .admitted => s.removeStrike c.job.key
  | .measuring => s.setWindow c.job.key none

/-! ### Failure and abort (R165, R166) -/

/-- The current job fails (R165, R167). -/
def State.failJob (s : State) (c : CurrentJob) (reason : JobReason) : State :=
  ((s.endStrike c).leaveJob).report
    (.jobFailed c.job.key c.job.slot reason c.level (c.samples.map (fun x => (x, none))))

/-- The current job fails if it concerns a key for which `p` holds. -/
def State.failJobIf (s : State) (p : CurrentJob → Bool) (reason : JobReason) : State :=
  match s.calib.current with
  | none => s
  | some c => if p c then s.failJob c reason else s

/-- Jobs queued behind the current one. -/
def State.queuedJobs (s : State) : Nat := s.calib.queue.length - (if s.calib.current.isSome then 1 else 0)

/-- The abort of R166: nothing with no job current and none queued. -/
def State.abortJobs (s : State) (cause : AbortCause) : State :=
  if s.calib.current.isNone && s.calib.queue.isEmpty then s
  else
    let discarded := s.queuedJobs
    let cur := s.calib.current
    let s := match cur with
      | none => s
      | some c => s.endStrike c
    let s := { s with calib := { queue := [], current := none, testDue := false } }
    s.report (.jobAborted (cur.map (fun c => c.job.key)) (cur.map (fun c => c.job.slot)) cause (cur.map (fun c => c.level))
      discarded)

/-! ### Asking a strike (R158) -/

/-- The failure a dropped calibration strike gives its job (R158). -/
def dropReason : Counter → JobReason
  | .keyFault => .keyFault
  | .yielded => .yielded
  | _ => .keyUnavailable

/-- The current strike, Pending, is asked of the schedule (R158). -/
def State.askStrike (s : State) (c : CurrentJob) : State :=
  let level := jobLevel c.job c.level
  let tooHot := (s.driverOf c.job.key).any s.isHot &&
    (decide (Config.hotCap < level) || decide (Config.hotCap < c.scalars.hold))
  if tooHot then s.failJob c .overTemperature
  else
    let a := s.admitCalibration c.job.key c.planned level c.scalars.hold c.attack c.rearm
    match a.2 with
    | .admitted => a.1.setJob { c with state := .admitted }
    | .noRoom => a.1.setJob c
    | .dropped counter => a.1.failJob c (dropReason counter)

/-- CALIBRATION_STRIKE_RETRY: a Pending strike is asked again at a cycle start (R158). -/
def State.retryStrike (s : State) : State :=
  match s.calib.current with
  | none => s
  | some c => if c.state = .pending then s.askStrike c else s

/-- A strike stands Pending: the next cycle start asks it again (R158). -/
def State.strikeWaits (s : State) : Bool := s.calib.current.any (fun c => c.state == .pending)

/-- The scalars a job starts with (R157). -/
def State.jobScalars (s : State) (slot : Nat) : Scalars :=
  match s.mem.page slot with
  | some (.strike _ sc) => sc
  | _ => Config.defaultScalars

/-- This cycle start's test of R157 is still to be made, and the cycle stands at its first tick (R157). -/
def State.jobTestDue (s : State) : Bool := s.calib.testDue && s.time.tick == 0

/-- The three conditions of R157 under which a job runs. -/
def State.jobsRun (s : State) : Bool :=
  s.time.mode == .calibrate && s.link.state == .driving && s.time.transport == .running

/-- JOB_START: the test of R157 at a cycle start, made once whatever it finds; between two cycle starts it is not made
(DESIGN CHOICE, log 7). -/
def State.startJob (s : State) : State :=
  if !s.jobTestDue then s
  else
    match s.calib.current, s.calib.queue, s.jobsRun with
    | none, j :: _, true =>
      let sc := s.jobScalars j.slot
      let c : CurrentJob :=
        { job := j, scalars := sc, attack := ticksUp sc.attack, rearm := ticksUp sc.rearm, level := 0, strike := 1,
          state := .pending, planned := s.earliest, onset := none, measured := 0, sumVelocity := 0, sumFlight := 0,
          samples := [] }
      State.askStrike { s with calib := { s.calib with current := some c, testDue := false } } c
    | _, _, _ => { s with calib := { s.calib with testDue := false } }

/-! ### Building and committing the page (R163) -/

/-- The kept marks of R163, walking the sample list with the last kept reading. -/
def keepMarks : Option (Nat × Nat) → List Sample → List (Sample × Bool)
  | _, [] => []
  | last, x :: xs =>
    match x.reading, last with
    | none, _ => (x, false) :: keepMarks last xs
    | some r, none => (x, true) :: keepMarks (some r) xs
    | some r, some l =>
      if l.1 < r.1 ∧ r.2 ≤ l.2 then (x, true) :: keepMarks (some r) xs else (x, false) :: keepMarks last xs

/-- The breakpoints of the kept samples (R163). -/
def keptPoints (marks : List (Sample × Bool)) : List Breakpoint :=
  (marks.filter (fun m => m.2)).filterMap
    (fun m => m.1.reading.map (fun r => { input := r.1, drive := m.1.level, time := r.2 }))

/-- The sweep is complete (R163, R167). A page that failed R91 would be refused and the slot kept (R91, R94).
DEDUCED, log 28. -/
def State.finishSweep (s : State) (c : CurrentJob) : State :=
  let marks := keepMarks none c.samples
  let points := keptPoints marks
  if 2 ≤ points.length then
    let p := Page.strike points c.scalars
    let s := if pageValid p then s.commitPage c.job.slot p else s
    s.leaveJob.report (.jobDone c.job.key c.job.slot c.level marks points.length)
  else
    s.leaveJob.report (.jobFailed c.job.key c.job.slot .fewSamples c.level (marks.map (fun m => (m.1, some m.2))))

/-! ### Measurement (R160 to R162) -/

/-- The sample of a complete level (R162). -/
def CurrentJob.sample (c : CurrentJob) : Sample :=
  { level := jobLevel c.job c.level, measured := c.measured,
    reading := if c.measured = 0 then none else some (c.sumVelocity / c.measured, c.sumFlight / c.measured) }

/-- The planned onset of the next strike: the strike onset plus the spacing (R158). -/
def CurrentJob.nextPlanned (c : CurrentJob) : Nat := c.onset.getD c.planned + c.job.spacing * 100

/-- A finished strike: the sequencer advances (R162). -/
def State.advanceJob (s : State) (c : CurrentJob) : State :=
  let next := { c with state := StrikeState.pending, planned := c.nextPlanned, onset := none }
  if c.strike < c.job.repeats then s.askStrike { next with strike := c.strike + 1 }
  else
    let c' := { next with level := c.level + 1, strike := 1, measured := 0, sumVelocity := 0, sumFlight := 0,
                          samples := c.samples ++ [c.sample] }
    if c.level + 1 < c.job.levels then s.askStrike c' else s.finishSweep c'

/-- The flight of a calibration strike (R160): signed, then limited to 500..60,000. -/
def calibrationFlight (strikeTime onset arrival latency : Nat) : Nat :=
  (clampInt ((strikeTime : Int) - (onset : Int) * 10 - arrival - latency) 500 60000).toNat

/-- A measurement handed to the sequencer (R160). -/
def State.measure (s : State) (k velocity strikeTime : Nat) : State :=
  let s := s.setWindow k none
  match s.calib.current with
  | none => s
  | some c =>
    if c.job.key = k then
      let f := s.feed (s.driverOf k)
      let flight := calibrationFlight strikeTime (c.onset.getD 0) f.arrival f.latency
      s.advanceJob { c with measured := c.measured + 1, sumVelocity := c.sumVelocity + velocity,
                            sumFlight := c.sumFlight + flight }
    else s

/-- A Sequencer window reached its close cycle with no measurement (R161). -/
def State.noCrossing (s : State) (k : Nat) : State :=
  let s := s.setWindow k none
  match s.calib.current with
  | none => s
  | some c => if c.job.key = k then s.advanceJob c else s

/-- A dispatched calibration Attack handed to the sequencer (R159). -/
def State.calibrationDispatched (s : State) (k onset : Nat) : State :=
  match s.calib.current with
  | none => s
  | some c =>
    if c.job.key = k ∧ c.state = .admitted then
      let c := { c with onset := some onset }
      if s.visible k then (s.openSequencer k onset).setJob { c with state := .measuring }
      else s.failJob { c with state := .pending } .noSensing
    else s

end Sys2Proof.Machine
end

