-- ==== Sys2Proof/Machine/Tracker.lean ====
section
/-! DEFINITION. The Capture Tracker's hand-over (04): capture arithmetic (R55, R56), transitions (R58 to R65), routing
(R66 to R68), losses (R69), pedals (R73, R74), and the rest counts at its close (R153). -/

namespace Sys2Proof.Machine

/-! ### What a return hands over -/

/-- A crossing as a section carries it (02, 2.3). A gate code that is none of the four has no row in the tracker's table. -/
structure Crossing where
  key : Nat
  gate : Option Gate
  back : Bool
  fine : Nat
deriving DecidableEq, Repr

/-- A Report section (02, 2.3). -/
structure SectionReport where
  crossings : List Crossing
  pedals : List Nat
  slow : Byte
  lost : Bool
deriving DecidableEq, Repr

/-! ### Capture arithmetic (R52, R55, R56) -/

/-- The interval between two instants, µs, signed (R52). -/
def interval (a b : Instant) : Int :=
  (((b.cycle + cycleModulus - a.cycle) % cycleModulus * 200 : Nat) : Int) + b.fine - a.fine

/-- The quotient gap × 1000 / t rounded half up (R55). -/
def strokeVelocity (gap t : Nat) : Nat := (2 * gap * 1000 + t) / (2 * t)

/-- The strike offset, µs (R56). -/
def strikeOffset (residual v : Nat) : Nat := min 8000 (residual * 1000 / v)

/-- A stamp of a crossing at take cycle c and fine offset f (R56). -/
def crossingStamp (c f : Nat) : Nat := (c * 200 + f) / 10

/-! ### Routing (R66, R68) -/

/-- The drive state of the key, as the Drive Schedule holds it. -/
def State.stateOf (s : State) (k : Nat) : DriveState := (s.driveOf k).state

/-- Sounding or Releasing. -/
def State.underReplay (s : State) (k : Nat) : Bool := s.stateOf k == .sounding || s.stateOf k == .releasing

/-- A Strike or SilentPress judged for capture (R68). -/
def State.judgeCapture (s : State) (k : Nat) (kind : CaptureKind) (value raw : Nat) : State :=
  if s.capturing &&
      (s.time.mode != .duplex || ((s.trackerOf k).owner == .performer && !s.underReplay k)) then
    s.handKeyEvent k kind value raw
  else s

/-- The window of key k that a stamp lies in (R66). -/
def State.windowAt (s : State) (k stamp : Nat) : Option Window := (s.windowOf k).filter (fun w => w.spans stamp)

/-- A determined Strike is routed (R66). While the transport is Stopped nothing is handed on (R52). -/
def State.routeStrike (s : State) (k velocity stamp strikeTime : Nat) : State :=
  if !s.taking then s
  else
    match s.windowAt k stamp with
    | some w =>
      match w.holder with
      | .monitor commanded via => s.verify k w commanded via velocity stamp
      | .sequencer => s.measure k velocity strikeTime
    | none =>
      if s.time.mode = .duplex ∧ s.stateOf k = .sounding then
        let s := s.contend k
        let s := s.setTracker k { s.trackerOf k with owner := .performer }
        s.judgeCapture k .strike velocity stamp
      else if s.time.mode = .replay ∧ s.port.options.verify ∧ s.underReplay k then s.bump .stray
      else s.judgeCapture k .strike velocity stamp

/-! ### Transitions (R58 to R65) -/

/-- KR out (R58), after the contention test of R67. -/
def State.krOut (s : State) (k : Nat) : State :=
  let s := if s.taking && s.time.mode == .duplex && s.stateOf k == .armed then s.contend k else s
  let r := s.trackerOf k
  if r.state = .atRest then
    s.setTracker k { r with state := .down, h1 := none, sounded := false,
                            owner := if s.underReplay k then .replay else .performer }
  else s

/-- KR in (R64). -/
def State.krIn (s : State) (k stamp : Nat) : State :=
  if (s.trackerOf k).state = .atRest ∨ (s.trackerOf k).state = .blind then s
  else
    let s := s.releaseKey k stamp
    s.setTracker k { s.trackerOf k with state := .atRest, h1 := none, owner := .performer }

/-- KD down (R63). -/
def State.kdDown (s : State) (k stamp : Nat) : State :=
  let r := s.trackerOf k
  if r.state = .down then (s.setTracker k { r with state := .silentHeld }).judgeCapture k .silentPress 0 stamp else s

/-- H1 up (R59). -/
def State.h1Up (s : State) (k : Nat) (at' : Instant) : State :=
  let r := s.trackerOf k
  if r.state = .down ∨ r.state = .checked then s.setTracker k { r with state := .rising, h1 := some at' } else s

/-- H1 down (R62). -/
def State.h1Down (s : State) (k : Nat) : State :=
  let r := s.trackerOf k
  if r.state = .struck then s.setTracker k { r with state := .checked } else s

/-- H2 up on a Rising record (R55, R56, R60). -/
def State.endStroke (s : State) (k : Nat) (at' : Instant) : State :=
  let r := s.trackerOf k
  let t := match r.h1 with
    | none => 0
    | some h => interval h at'
  if t ≤ 0 then (s.setTracker k { r with state := .down, h1 := none }).trackerCount .sensorOrder
  else
    let sense := s.keySense k
    let raw := strokeVelocity sense.gap t.toNat
    let v := min raw 9999
    let s := (s.setTracker k { r with state := .struck, h1 := none }).bumpIf (decide (9999 < raw)) .clamped
    if v < sense.minVelocity then s.trackerCount .brush
    else
      let strikeTime := s.takeCycleOf at'.cycle * 200 + at'.fine + strikeOffset sense.residual v
      s.routeStrike k v (strikeTime / 10) strikeTime

/-- H2 up (R60, R65). -/
def State.h2Up (s : State) (k : Nat) (at' : Instant) : State :=
  match (s.trackerOf k).state with
  | .rising => s.endStroke k at'
  | .down => s.trackerCount .sensorOrder
  | .atRest => s.trackerCount .sensorOrder
  | _ => s

/-- A rising stroke abandoned once more than 65,535 µs have passed since its H1 instant (R61). -/
def State.abandon (s : State) (at' : Instant) (k : Nat) : State :=
  let r := s.trackerOf k
  match r.state, r.h1 with
  | .rising, some h =>
    if (Config.strokeLimit : Int) < interval h at' then s.setTracker k { r with state := .down, h1 := none } else s
  | _, _ => s

/-- A crossing that passed the tests of R51, taken against its key's record; the abandonment test comes first (R61). -/
def State.takeCrossing (s : State) (cycle : Nat) (x : Crossing) : State :=
  let at' : Instant := { cycle := cycle, fine := x.fine }
  let stamp := crossingStamp (s.takeCycleOf cycle) x.fine
  let s := s.abandon at' x.key
  match x.gate, x.back with
  | some .kr, false => s.krOut x.key
  | some .kr, true => s.krIn x.key stamp
  | some .kd, false => s.kdDown x.key stamp
  | some .h1, false => s.h1Up x.key at'
  | some .h1, true => s.h1Down x.key
  | some .h2, false => s.h2Up x.key at'
  | _, _ => s

/-- The tests of R51 on a crossing from a station. -/
def State.judgeCrossing (s : State) (cycle : Nat) (e : RosterEntry) (x : Crossing) : State :=
  let inRange := decide (1 ≤ x.key) && decide (x.key ≤ s.keyCount)
  if inRange && (s.trackerOf x.key).state == .blind then s
  else if !inRange || e.role == .driver || !e.hasKey x.key then s.trackerCount .sensorOrder
  else s.takeCrossing cycle x

/-! ### Pedals (R73, R74) -/

/-- The position of a raw reading (R73). -/
def pedalPosition (e : PedalSense) (raw : Nat) : Nat :=
  if raw ≤ e.rawMin then 0 else if e.rawMax ≤ raw then 255 else (raw - e.rawMin) * 255 / (e.rawMax - e.rawMin)

/-- The position has moved enough to determine a Pedal event (R74). -/
def pedalMoved (e : PedalSense) (last : Option Nat) (p : Nat) : Bool :=
  match last with
  | none => true
  | some l => decide (l + e.deadband ≤ p) || decide (p + e.deadband ≤ l) || ((p == 0 || p == 255) && p != l)

/-- The part drives no pedal q: none dispatched in the take, or the last level 0 (R74). -/
def State.pedalFree (s : State) (q : Nat) : Bool := (s.pedalDriveOf q).level.all (fun l => l == 0)

/-- A raw position of pedal q in the hand-over of a link cycle (R73, R74). -/
def State.takePedal (s : State) (cycle q raw : Nat) : State :=
  let sense := s.pedalSense q
  let p := pedalPosition sense raw
  let last := (s.pedalOf q).lastEmitted
  let s := s.setPedal q { s.pedalOf q with position := p }
  if pedalMoved sense last p && s.capturing && (s.time.mode != .duplex || s.pedalFree q) then
    (s.setPedal q { s.pedalOf q with lastEmitted := some p }).takeEvent
      { kind := .pedal, voice := 119 + q, stamp := 20 * s.takeCycleOf cycle, value := p }
  else s

/-! ### The hand-over (R51, R69, R153) -/

/-- The stations whose Report sections are handed on: in the roster and Present (R22). -/
def State.presentStations (s : State) : List (Nat × RosterEntry) :=
  allStations.filterMap (fun b => ((s.stationOf b).filter (fun e => e.present)).map (fun e => (b, e)))

/-- The section a station sent. -/
def sectionOf (sections : Vector (Option SectionReport) 8) (b : Nat) : Option SectionReport := nth sections b none

/-- The crossings of a station's section, every one, in the order listed (R22; DESIGN CHOICE, log 41, for a count above 32). -/
def State.takeSection (s : State) (cycle : Nat) (sections : Vector (Option SectionReport) 8) (b : Nat × RosterEntry) :
    State :=
  match sectionOf sections b.1 with
  | none => s
  | some x => x.crossings.foldl (fun s c => s.judgeCrossing cycle b.2 c) s

/-- Crossings lost at a sensing station: its flag, or its section missing (R69). -/
def State.takeFlag (s : State) (sections : Vector (Option SectionReport) 8) (b : Nat × RosterEntry) : State :=
  if b.2.role.senses then
    match sectionOf sections b.1 with
    | none => s.trackerCount .crossingsLost
    | some x => if x.lost then s.trackerCount .crossingsLost else s
  else s

/-- The raw positions of a station's section, for the pedals it senses in pedal number order (R22, R73); positions beyond those
pedals are dropped, pedals beyond the positions get none (DESIGN CHOICE, log 41). -/
def State.takePedals (s : State) (cycle : Nat) (sections : Vector (Option SectionReport) 8) (b : Nat × RosterEntry) :
    State :=
  if b.2.role.senses then
    match sectionOf sections b.1 with
    | none => s
    | some x => (b.2.pedalList.zip x.pedals).foldl (fun s p => s.takePedal cycle p.1 p.2) s
  else s

/-- The abandonment check at the end of a hand-over (R61). -/
def State.abandonAll (s : State) (cycle : Nat) : State :=
  allKeys.foldl (fun s k => s.abandon { cycle := cycle, fine := 199 } k) s

/-- The hand-over shows key k: its sensing station is Present and its section is there without its flag (R153). -/
def State.readable (s : State) (sections : Vector (Option SectionReport) 8) (k : Nat) : Bool :=
  s.sensed k && ((s.sensorOf k).bind (sectionOf sections)).any (fun x => !x.lost)

/-- CAPTURE_HANDOVER: a valid return taken in READY or DRIVING (R51), the pedals' positions in station number order (DESIGN
CHOICE, log 42), then the rest counts (R153). -/
def State.handOver (s : State) (cycle : Nat) (sections : Vector (Option SectionReport) 8) : State :=
  let stations := s.presentStations
  let s := stations.foldl (fun s b => s.takeSection cycle sections b) s
  let s := stations.foldl (fun s b => s.takeFlag sections b) s
  let s := stations.foldl (fun s b => s.takePedals cycle sections b) s
  let s := s.abandonAll cycle
  allKeys.foldl (fun s k => s.restKey (s.readable sections k) k) s

/-- LOST_CYCLE_HANDOVER: a lost cycle's notice (R23, R51, R69); the rest counts stand (R153). -/
def State.handOverLost (s : State) (cycle : Nat) : State :=
  let s := s.presentStations.foldl (fun s b => if b.2.role.senses then s.trackerCount .crossingsLost else s) s
  s.abandonAll cycle

end Sys2Proof.Machine
end

