-- ==== Sys2Proof/Machine/Notices.lean ====
section
/-! DEFINITION. Station notices (03): the nine kinds and what the part does on accepting one (R43 to R49). -/

namespace Sys2Proof.Machine

/-- A notice as the slot carries it (03, 3.1). -/
structure Notice where
  station : Nat
  kind : Nat
  key : Nat
  gate : Nat
deriving DecidableEq, Repr

/-- The notice kinds (03, table of 3.3). -/
inductive NoticeKind
  | coilOvercurrent | coilOpen | supplyLow | overTemperature | supplyRestored | overTemperatureClear | sensorBlinded
  | sensorRestored | rejoin
deriving DecidableEq, Repr

/-- The kind of a notice kind code. -/
def noticeKind : Nat → Option NoticeKind
  | 1 => some .coilOvercurrent
  | 2 => some .coilOpen
  | 3 => some .supplyLow
  | 4 => some .overTemperature
  | 5 => some .supplyRestored
  | 6 => some .overTemperatureClear
  | 7 => some .sensorBlinded
  | 8 => some .sensorRestored
  | 9 => some .rejoin
  | _ => none

/-- The kind names a key (03, table of 3.3). -/
def NoticeKind.namesKey (k : NoticeKind) : Bool :=
  k == .coilOvercurrent || k == .coilOpen || k == .sensorBlinded || k == .sensorRestored

/-- The kind a notice is applied as; none when it is Ignored (R43). -/
def State.noticeApplies (s : State) (n : Notice) : Option NoticeKind :=
  match noticeKind n.kind with
  | none => none
  | some k =>
    if k.namesKey && (n.key == 0 || decide (s.keyCount < n.key)) then none
    else if k == .sensorBlinded && (n.gate == 0 || decide (4 < n.gate)) then none
    else some k

/-! ### Replacing one station's or key's condition -/

def State.setFault (s : State) (k : Nat) (b : Bool) : State :=
  { s with link := { s.link with faults := setNth s.link.faults k b } }

def State.setSupplyLow (s : State) (b : Nat) (v : Bool) : State :=
  { s with link := { s.link with supplyLow := setNth s.link.supplyLow b v } }

def State.setOverTemp (s : State) (b : Nat) (v : Bool) : State :=
  { s with link := { s.link with overTemp := setNth s.link.overTemp b v } }

/-- The station recorded as the one that blinded key k (R46). -/
def State.blinderOf (s : State) (k : Nat) : Option Nat := nth s.link.blinder k none

def State.setBlinder (s : State) (k : Nat) (b : Option Nat) : State :=
  { s with link := { s.link with blinder := setNth s.link.blinder k b } }

/-! ### Drive lost by a station (R33, R47) -/

/-- A station's keys and pedals become unavailable for drive, if its entry drives: in the schedule (R142), in the
Expectation Table, where the windows of its keys go without an outcome (R147), and for a job on one of its keys
(R165). -/
def State.loseDrive (s : State) (b : Nat) : State :=
  match s.stationOf b with
  | none => s
  | some e =>
    if e.role.drives then
      ((s.unavailable e).removeWindows e.keys).failJobIf (fun c => e.hasKey c.job.key) .keyUnavailable
    else s

/-- The entries of a station's keys and pedals lowered to the cap, if its entry drives (R48). -/
def State.lowerStation (s : State) (b : Nat) : State :=
  match s.stationOf b with
  | none => s
  | some e => if e.role.drives then s.lowerLevels e else s

/-! ### The actions -/

/-- CoilOvercurrent or CoilOpen naming key k (R44, R154); the rest count becomes 0 (DESIGN CHOICE, log 52). -/
def State.coilFault (s : State) (k : Nat) : State × NoticeEffect :=
  if s.faulted k then (s, .noChange)
  else
    let s := s.setFault k true
    let s := s.setYield k { s.yieldOf k with requirement := none, rest := 0 }
    let s := (s.withdraw k).setWindow k none
    (s.failJobIf (fun c => c.job.key == k) .keyFault, .applied)

/-- SensorBlinded naming key k from a station (R46, R70). A job on the key loses its sensing (R165). -/
def State.sensorBlinded (s : State) (b k : Nat) : State × NoticeEffect :=
  let was := (s.trackerOf k).state == .blind
  let s := if was then s else s.closeKey .blind k
  let s := ((s.setBlinder k (some b)).failJobIf (fun c => c.job.key == k) .noSensing).setWindow k none
  (s, if was then .noChange else .applied)

/-- SensorRestored naming key k (R46, R71). -/
def State.sensorRestored (s : State) (k : Nat) : State × NoticeEffect :=
  if (s.trackerOf k).state = .blind then
    ((s.setTracker k (s.trackerOf k).restored).setBlinder k none, .applied)
  else (s, .noChange)

/-- SupplyLow from a station (R47). -/
def State.supplyFalls (s : State) (b : Nat) : State × NoticeEffect :=
  if s.supplyIsLow b then (s, .noChange) else ((s.setSupplyLow b true).loseDrive b, .applied)

/-- SupplyRestored from a station (R47). -/
def State.supplyReturns (s : State) (b : Nat) : State × NoticeEffect :=
  if s.supplyIsLow b then (s.setSupplyLow b false, .applied) else (s, .noChange)

/-- OverTemperature from a station (R48); a job of its keys whose levels exceed the cap fails, whether or not the
condition was set already (R165). DEDUCED, log 30. -/
def State.heats (s : State) (b : Nat) : State × NoticeEffect :=
  let was := s.isHot b
  let s := if was then s else (s.setOverTemp b true).lowerStation b
  (s.failJobIf (fun c => s.driverOf c.job.key == some b && c.exceedsCap) .overTemperature,
    if was then .noChange else .applied)

/-- OverTemperatureClear from a station (R48). -/
def State.cools (s : State) (b : Nat) : State × NoticeEffect :=
  if s.isHot b then (s.setOverTemp b false, .applied) else (s, .noChange)

/-- A tracker that a station blinded returns to AtRest, its blinding station cleared (R49). -/
def State.unblind (s : State) (b k : Nat) : State :=
  if s.blinderOf k = some b then
    let s := s.setBlinder k none
    if (s.trackerOf k).state = .blind then s.setTracker k (s.trackerOf k).restored else s
  else s

/-- Rejoin from a station (R49). -/
def State.rejoins (s : State) (b : Nat) : State × NoticeEffect :=
  let changed := s.supplyIsLow b || s.isHot b || allKeys.any (fun k => s.blinderOf k == some b)
  (allKeys.foldl (fun s k => s.unblind b k) ((s.setSupplyLow b false).setOverTemp b false),
    if changed then .applied else .noChange)

/-- The action of one kind. -/
def State.noticeAction (s : State) (kind : NoticeKind) (n : Notice) : State × NoticeEffect :=
  match kind with
  | .coilOvercurrent => s.coilFault n.key
  | .coilOpen => s.coilFault n.key
  | .supplyLow => s.supplyFalls n.station
  | .overTemperature => s.heats n.station
  | .supplyRestored => s.supplyReturns n.station
  | .overTemperatureClear => s.cools n.station
  | .sensorBlinded => s.sensorBlinded n.station n.key
  | .sensorRestored => s.sensorRestored n.key
  | .rejoin => s.rejoins n.station

/-- An accepted notice: acted on, then reported (R43, DEDUCED, log 11). -/
def State.acceptNotice (s : State) (cycle : Nat) (n : Notice) : State :=
  let done := match s.noticeApplies n with
    | none => (s, NoticeEffect.ignored)
    | some kind => s.noticeAction kind n
  done.1.report (.noticeAccepted n.station n.kind n.key n.gate cycle done.2)

end Sys2Proof.Machine
end

