-- ==== Sys2Proof/Machine/Operands.lean ====
section
/-! DEFINITION. Reading what arrives: a returning cycle frame (02, 2.3), the notice slot and the station record (03, 02),
the receive side of the Score Port (R169), and the request layouts (R174). -/

namespace Sys2Proof.Machine

/-- The first `n` bytes and the rest, where there are so many. -/
def splitBytes (n : Nat) (l : List Byte) : Option (List Byte × List Byte) :=
  if n ≤ l.length then some (l.take n, l.drop n) else none

/-- The number in the `width` bytes from place `i`, most significant first; a byte that is not there reads 0. -/
def fieldAt (l : List Byte) (i width : Nat) : Nat := bytesNum ((l.drop i).take width)

/-- Consecutive groups of `n` bytes, `k` of them. -/
def groups (n : Nat) : Nat → List Byte → List (List Byte)
  | 0, _ => []
  | k + 1, l => l.take n :: groups n k (l.drop n)

/-! ### A returning frame (02, 2.3) -/

/-- The gate of a gate code. -/
def gateOf : Nat → Option Gate
  | 1 => some .kr
  | 2 => some .kd
  | 3 => some .h1
  | 4 => some .h2
  | _ => none

/-- A crossing from its 3 bytes: key; gate in bits 0..3 and direction in bit 7; fine offset (02, 2.3). Bits 4..6 are not read,
and an offset above 199 stands as it is (DESIGN CHOICE, log 55). -/
def readCrossing (l : List Byte) : Crossing :=
  let code := fieldAt l 1 1
  { key := fieldAt l 0 1, gate := gateOf (code % 16), back := code.testBit 7, fine := fieldAt l 2 1 }

/-- A Report section behind its marker: crossings, pedal positions, slow byte, crossings lost (02, 2.3). -/
def readReport (l : List Byte) : Option (SectionReport × List Byte) :=
  match splitBytes 1 l with
  | none => none
  | some (count, l) =>
    let n := fieldAt count 0 1
    match splitBytes (3 * n) l with
    | none => none
    | some (crossings, l) =>
      match splitBytes 1 l with
      | none => none
      | some (pedalCount, l) =>
        let p := fieldAt pedalCount 0 1
        match splitBytes (2 * p + 2) l with
        | none => none
        | some (tail, l) =>
          some ({ crossings := (groups 3 n crossings).map readCrossing, pedals := (groups 2 p tail).map bytesNum,
                  slow := tail.getD (2 * p) 0, lost := fieldAt tail (2 * p + 1) 1 != 0 }, l)

/-- One section as returned: a Command section (1) gives none, a Report section (2) its content. The outer none says that
it cannot be read (DESIGN CHOICE, log 18). -/
def readSection : List Byte → Option (Option SectionReport × List Byte)
  | [] => none
  | marker :: l =>
    if marker = 1 then
      match splitBytes 1 l with
      | none => none
      | some (count, l) => (splitBytes (9 * fieldAt count 0 1) l).map (fun x => (none, x.2))
    else if marker = 2 then (readReport l).map (fun x => (some x.1, x.2))
    else none

/-- The sections that can be read, in station number order. -/
def readSections : Nat → List Byte → List (Option SectionReport)
  | 0, _ => []
  | n + 1, l =>
    match readSection l with
    | none => []
    | some (x, l) => x :: readSections n l

/-- The eight sections; one that cannot be read, and those behind it, count as no Report section (DESIGN CHOICE, log 18). -/
def returnSections (body : List Byte) : Vector (Option SectionReport) 8 :=
  let l := readSections 8 (body.drop 15)
  Vector.ofFn (fun i => (l[i.val]?).getD none)

/-- What a returning frame holds (02, 2.3). -/
structure Return where
  position : Nat
  slot : List Byte
  sections : Vector (Option SectionReport) 8
deriving DecidableEq, Repr

/-- The bytes of a returning frame from its cycle number to its last section, without the check. -/
def returnBody (bytes : List Byte) : List Byte := bytes.take (bytes.length - 2)

/-- The tests of R21 on a frame that arrived in time: its check, and its cycle number. -/
def returnGood (cycle : Nat) (bytes : List Byte) : Bool :=
  decide (6 ≤ bytes.length) && bytes.drop (bytes.length - 2) == crcBytes (crc16 (returnBody bytes)) &&
    fieldAt bytes 0 4 == cycle

/-- A good frame's content: cycle 4, state 1, position 1, echo 2, slow byte 1, notice slot 6, sections (02, 2.3). -/
def readReturn (bytes : List Byte) : Return :=
  let body := returnBody bytes
  { position := fieldAt body 5 1, slot := (body.drop 9).take 6, sections := returnSections body }

/-! ### The notice slot (R39) -/

/-- A slot as returned (R39). -/
inductive Slot
  | empty
  | spoiled
  | notice (n : Notice)
deriving DecidableEq, Repr

/-- The judgement of R39. -/
def judgeSlot (slot : List Byte) : Slot :=
  if slot.all (fun b => b == 0) then .empty
  else if slot.drop 4 != crcBytes (crc16 (slot.take 4)) then .spoiled
  else
    let station := fieldAt slot 0 1
    if station = 0 ∨ 8 < station then .spoiled
    else .notice { station := station, kind := fieldAt slot 1 1, key := fieldAt slot 2 1, gate := fieldAt slot 3 1 }

/-! ### The station record (02, station record table) -/

/-- A signed byte. -/
def signedByte (n : Nat) : Int := if n < 128 then (n : Int) else (n : Int) - 256

/-- The role of a role code. -/
def roleOf : Nat → Option Role
  | 1 => some .scanner
  | 2 => some .driver
  | 3 => some .combined
  | _ => none

/-- A station record from its 16 bytes: discarded (none) when its check byte is bad, or its role, key range, α, arrival
offset or board latency lies outside the values of the table (R26). -/
def readRecord (l : List Byte) : Option StationRecord :=
  if l.length != 16 || l.foldl (· + ·) 0 != 0 then none
  else
    match roleOf (fieldAt l 0 1) with
    | none => none
    | some role =>
      let firstKey := fieldAt l 1 1
      let lastKey := fieldAt l 2 1
      let alpha := fieldAt l 5 1
      let arrival := fieldAt l 6 2
      let latency := fieldAt l 8 2
      if firstKey = 0 ∨ lastKey < firstKey ∨ 97 < lastKey ∨ 20 < alpha ∨ 159 < arrival ∨ 10000 < latency then none
      else
        some { role := role, firstKey := firstKey, lastKey := lastKey, pedals := fieldAt l 3 1,
               temperature := signedByte (fieldAt l 4 1), alpha := alpha, arrival := arrival, latency := latency }

/-- The fields of a record that R26 does not test lie within the table: bits 3..7 of the pedals served and the spare bytes
are 0 (02, station record table; R31). -/
def spareInTable (l : List Byte) : Bool := decide (fieldAt l 3 1 < 8) && ((l.drop 10).take 5).all (fun b => b == 0)

/-! ### Requests (R174) -/

/-- The request kind codes (R174). -/
def Request.code : Request → Nat
  | .setMode .. => 1 | .transportStart .. => 2 | .transportPause => 3 | .transportResume => 4 | .transportStop => 5
  | .setCue .. => 6 | .linkStart => 7 | .linkStop => 8 | .drivePermit => 9 | .readRoster => 10 | .clearKeyFault .. => 11
  | .writeKeySense .. => 12 | .readKeySense .. => 13 | .writeDescriptor .. => 14 | .readDescriptor .. => 15
  | .writePage .. => 16 | .readPage .. => 17 | .selectVoicing .. => 18 | .invalidateVoice .. => 19 | .invalidateAll => 20
  | .calibrateQueue .. => 21 | .calibrateAbort => 22 | .setProfile .. => 23 | .setOptions .. => 24 | .readStatus .. => 25
  | .restart => 26 | .storeSave .. => 27 | .storeRestore => 28

/-- A WriteDescriptor's fields as sent (R174, code 14). -/
def RawDescriptor.bytes (f : RawDescriptor) : List Byte :=
  numBytes 1 f.present ++ numBytes 1 f.kind ++ numBytes 1 f.target ++ numBytes 2 f.page ++ numBytes 2 f.trim ++
    numBytes 1 f.accessed ++ numBytes 1 f.played

/-- The scalars of a Strike page as sent (R174, code 16). -/
def Scalars.bytes (x : Scalars) : List Byte :=
  numBytes 2 x.attack ++ numBytes 2 x.hold ++ numBytes 4 x.rearm ++ numBytes 2 x.silentLead

/-- Kind, count, breakpoints and scalars of a WritePage as sent (R174, code 16). -/
def RawPage.bytes : RawPage → List Byte
  | .strike points x => 1 :: numBytes 1 points.length ++ points.flatMap Breakpoint.bytes ++ Scalars.bytes x
  | .pedal points => 2 :: numBytes 1 points.length ++ points.flatMap Breakpoint.bytes
  | .empty => [3]
  | .other code => numBytes 1 code

/-- A job's fields as sent (R174, code 21). -/
def Job.bytes (j : Job) : List Byte :=
  numBytes 1 j.key ++ numBytes 2 j.slot ++ numBytes 1 j.levels ++ numBytes 2 j.minDrive ++ numBytes 2 j.maxDrive ++
    numBytes 1 j.repeats ++ numBytes 2 j.spacing

/-- A profile's fields as sent (R174, code 23). -/
def RawProfile.bytes (f : RawProfile) : List Byte :=
  numBytes 1 f.keyCount ++ numBytes 1 f.stations ++ numBytes 1 f.boundary ++ numBytes 1 f.autoPermit

/-- The map of a SetOptions: bit i - 1 for the i-th option of the table of 11.5 (R174, code 24). -/
def optionsMap (values : List (OptionName × Nat)) : Nat := (values.map (fun x => 2 ^ allOptions.idxOf x.1)).sum

/-- A request's fields behind its code byte, as the host sends them (R174). -/
def Request.fieldBytes : Request → List Byte
  | .setMode mode => numBytes 1 mode
  | .transportStart preroll => numBytes 2 preroll
  | .transportPause => []
  | .transportResume => []
  | .transportStop => []
  | .setCue presence tick => if presence = 0 then [0] else numBytes 1 presence ++ numBytes 4 tick
  | .linkStart => []
  | .linkStop => []
  | .drivePermit => []
  | .readRoster => []
  | .clearKeyFault key => numBytes 1 key
  | .writeKeySense type number first second third =>
    numBytes 1 type ++ numBytes 1 number ++ numBytes 2 first ++ numBytes 2 second ++ numBytes 2 third
  | .readKeySense type number => numBytes 1 type ++ numBytes 1 number
  | .writeDescriptor set voice fields => numBytes 1 set ++ numBytes 1 voice ++ RawDescriptor.bytes fields
  | .readDescriptor set voice => numBytes 1 set ++ numBytes 1 voice
  | .writePage slot page => numBytes 2 slot ++ RawPage.bytes page
  | .readPage slot => numBytes 2 slot
  | .selectVoicing set => numBytes 1 set
  | .invalidateVoice voice => numBytes 1 voice
  | .invalidateAll => []
  | .calibrateQueue job => Job.bytes job
  | .calibrateAbort => []
  | .setProfile fields => RawProfile.bytes fields
  | .setOptions values => numBytes 2 (optionsMap values) ++ values.flatMap (fun x => numBytes 4 x.2)
  | .readStatus clear => numBytes 1 clear
  | .restart => []
  | .storeSave first last => numBytes 1 first ++ numBytes 1 last
  | .storeRestore => []

/-- A request's payload (R174): code byte and fields. -/
def Request.payload (r : Request) : List Byte := numBytes 1 (Request.code r) ++ Request.fieldBytes r

/-- What the controller finds in a Request frame's payload (R173). -/
inductive Judged
  | unknown (code : Nat)
  | badLength (code : Nat)
  | good (request : Request)
deriving DecidableEq, Repr

/-- A request whose payload has one length. -/
def ofLength (payload : List Byte) (n : Nat) (r : Request) : Judged :=
  if payload.length = n then .good r else .badLength (fieldAt payload 0 1)

/-- `count` breakpoints from place `i` of a payload. -/
def readPoints (payload : List Byte) (i count : Nat) : List Breakpoint :=
  (groups 6 count (payload.drop i)).map
    (fun l => { input := fieldAt l 0 2, drive := fieldAt l 2 2, time := fieldAt l 4 2 })

/-- WritePage: slot, kind, then what the kind carries (R174, code 16). -/
def readWritePage (payload : List Byte) : Judged :=
  if payload.length < 4 then .badLength 16
  else
    let slot := fieldAt payload 1 2
    let kind := fieldAt payload 3 1
    let count := fieldAt payload 4 1
    let points := readPoints payload 5 count
    let e := 5 + 6 * count
    if kind = 1 then
      ofLength payload (15 + 6 * count)
        (.writePage slot (.strike points
          { attack := fieldAt payload e 2, hold := fieldAt payload (e + 2) 2, rearm := fieldAt payload (e + 4) 4,
            silentLead := fieldAt payload (e + 8) 2 }))
    else if kind = 2 then ofLength payload (5 + 6 * count) (.writePage slot (.pedal points))
    else if kind = 3 then ofLength payload 4 (.writePage slot .empty)
    else .good (.writePage slot (.other kind))

/-- SetCue: a presence byte, then the tick when present (R174, code 6). -/
def readSetCue (payload : List Byte) : Judged :=
  let presence := fieldAt payload 1 1
  let long := payload.length == 6
  if !(long || payload.length == 2) then .badLength 6
  else if presence = 0 ∧ long then .badLength 6
  else if presence = 1 ∧ !long then .badLength 6
  else .good (.setCue presence (fieldAt payload 2 4))

/-- SetOptions: the map, then the value of each named option in 4 bytes (R174, code 24). -/
def readSetOptions (payload : List Byte) : Judged :=
  let map := fieldAt payload 1 2
  let named := allOptions.zipIdx.filterMap (fun x => if map.testBit x.2 then some x.1 else none)
  if payload.length < 3 ∨ 1024 ≤ map then .badLength 24
  else
    ofLength payload (3 + 4 * named.length)
      (.setOptions (named.zip ((groups 4 named.length (payload.drop 3)).map bytesNum)))

/-- The layouts of R174. -/
def readRequest (payload : List Byte) : Judged :=
  let at' := fieldAt payload
  match at' 0 1 with
  | 1 => ofLength payload 2 (.setMode (at' 1 1))
  | 2 => ofLength payload 3 (.transportStart (at' 1 2))
  | 3 => ofLength payload 1 .transportPause
  | 4 => ofLength payload 1 .transportResume
  | 5 => ofLength payload 1 .transportStop
  | 6 => readSetCue payload
  | 7 => ofLength payload 1 .linkStart
  | 8 => ofLength payload 1 .linkStop
  | 9 => ofLength payload 1 .drivePermit
  | 10 => ofLength payload 1 .readRoster
  | 11 => ofLength payload 2 (.clearKeyFault (at' 1 1))
  | 12 => ofLength payload 9 (.writeKeySense (at' 1 1) (at' 2 1) (at' 3 2) (at' 5 2) (at' 7 2))
  | 13 => ofLength payload 3 (.readKeySense (at' 1 1) (at' 2 1))
  | 14 =>
    ofLength payload 12
      (.writeDescriptor (at' 1 1) (at' 2 1)
        { present := at' 3 1, kind := at' 4 1, target := at' 5 1, page := at' 6 2, trim := at' 8 2, accessed := at' 10 1,
          played := at' 11 1 })
  | 15 => ofLength payload 3 (.readDescriptor (at' 1 1) (at' 2 1))
  | 16 => readWritePage payload
  | 17 => ofLength payload 3 (.readPage (at' 1 2))
  | 18 => ofLength payload 2 (.selectVoicing (at' 1 1))
  | 19 => ofLength payload 2 (.invalidateVoice (at' 1 1))
  | 20 => ofLength payload 1 .invalidateAll
  | 21 =>
    ofLength payload 12
      (.calibrateQueue { key := at' 1 1, slot := at' 2 2, levels := at' 4 1, minDrive := at' 5 2, maxDrive := at' 7 2,
                         repeats := at' 9 1, spacing := at' 10 2 })
  | 22 => ofLength payload 1 .calibrateAbort
  | 23 =>
    ofLength payload 5
      (.setProfile { keyCount := at' 1 1, stations := at' 2 1, boundary := at' 3 1, autoPermit := at' 4 1 })
  | 24 => readSetOptions payload
  | 25 => ofLength payload 2 (.readStatus (at' 1 1))
  | 26 => ofLength payload 1 .restart
  | 27 => ofLength payload 3 (.storeSave (at' 1 1) (at' 2 1))
  | 28 => ofLength payload 1 .storeRestore
  | code => .unknown code

/-! ### The receive side (R169) -/

/-- A frame whose receipt is complete, judged (R169). -/
inductive Frame
  | bad
  | events (tag : Byte) (records : List EventRecord)
  | request (tag : Byte) (payload : List Byte)
deriving DecidableEq, Repr

/-- The kind of a downstream record kind code (11.1). -/
def recordKind : Nat → Option RecordKind
  | 1 => some .strike
  | 2 => some .release
  | 3 => some .silentPress
  | 4 => some .pedal
  | 5 => some .marker
  | 6 => some .endOfReplay
  | _ => none

/-- An event record from its 8 bytes (11.1). -/
def readEvent (l : List Byte) : Option EventRecord :=
  (recordKind (fieldAt l 0 1)).map
    (fun k => { kind := k, voice := fieldAt l 1 1, value := fieldAt l 2 2, time := fieldAt l 4 4 })

/-- The judgement of a frame's kind and payload, its check found good (R169). -/
def judgePayload (kind : Nat) (tag : Byte) (payload : List Byte) : Frame :=
  if kind = 1 then
    if payload.length = 0 ∨ 240 < payload.length ∨ payload.length % 8 ≠ 0 then .bad
    else
      match (groups 8 (payload.length / 8) payload).mapM readEvent with
      | none => .bad
      | some records => .events tag records
  else if kind = 2 then
    if payload.length = 0 ∨ 240 < payload.length then .bad else .request tag payload
  else .bad

/-- The judgement of a frame complete behind its delimiter: header, payload, check (R169). -/
def judgeFrame (l : List Byte) : Frame :=
  let length := fieldAt l 3 1
  if (l.drop (4 + length)).take 2 = crcBytes (crc16 (l.take (4 + length))) then
    judgePayload (fieldAt l 0 1) (l.getD 1 0) ((l.drop 4).take length)
  else .bad

/-- The bytes behind the first delimiter 126, 165, or none; and what is kept while hunting: a last 126 (R169).
DEDUCED, log 38. -/
def hunt : List Byte → Option (List Byte) × List Byte
  | [] => (none, [])
  | [b] => (none, if b = 126 then [b] else [])
  | a :: b :: l => if a = 126 ∧ b = 165 then (some l, []) else hunt (b :: l)

/-- How many bytes a frame takes behind its delimiter: header, payload, check; none before its length has arrived (R169). -/
def frameSize (body : List Byte) : Option Nat := if body.length < 4 then none else some (6 + fieldAt body 3 1)

/-- The frame whose receipt is complete behind a delimiter, judged, and the bytes the hunt goes on from: behind a good frame
its end, behind a bad one the byte after its delimiter (R169). -/
def completeFrame (body : List Byte) : Option (Frame × List Byte) :=
  match frameSize body with
  | none => none
  | some size =>
    if body.length < size then none
    else some (judgeFrame body, if judgeFrame body = .bad then body else body.drop size)

end Sys2Proof.Machine
end

