-- ==== Sys2Proof/Machine/Ring.lean ====
section
/-! DEFINITION. The Action Link Controller (02): changes of link state (R24 to R30, R36 to R38), the link gap (R37), the
slow channel and the roster (R26, R27, R31), station absence (R33, R34), returns (R21 to R23) and the echo (R39, R40). -/

namespace Sys2Proof.Machine

/-! ### The link gap (R37) -/

/-- A gap opened at a cycle, unless one is open. -/
def State.openGap (s : State) (firstMissing : Nat) : State :=
  if s.link.gap.isSome then s
  else { s with link := { s.link with gap := some { firstMissing := firstMissing, stopped := false } } }

/-- The take cycle of a gap's first missing cycle, or 0 if the take began after it (R37). -/
def State.gapCycle (s : State) (g : Gap) : Nat :=
  if s.takeCycle < (s.time.linkCycle + cycleModulus - g.firstMissing) % cycleModulus then 0
  else s.takeCycleOf g.firstMissing

/-- The LinkGap event of a gap closed at the return in progress (R37). -/
def State.gapEvent (s : State) (g : Gap) : CaptureEvent :=
  { kind := .linkGap, voice := 0, stamp := 20 * s.gapCycle g, value := min 65535 (s.takeCycle - s.gapCycle g + 1) }

/-- The gap is closed on entering READY (R37). -/
def State.closeGap (s : State) : State :=
  match s.link.gap with
  | none => s
  | some g =>
    let s' := { s with link := { s.link with gap := none } }
    if s.capturing && !g.stopped then s'.takeEvent (s.gapEvent g) else s'

/-! ### Entering a state -/

/-- The link is READY or DRIVING: crossings are handed on (R22). -/
def State.linkUp (s : State) : Bool := s.link.state == .ready || s.link.state == .driving

/-- A departure from DRIVING while Running waits for its Pause at the next cycle start (R8, R36). -/
def State.armPause (s : State) : State :=
  if s.time.transport = .running then { s with time := { s.time with linkLeft := .armed } } else s

/-- What leaving READY or DRIVING for another state does (R36, R37, R72). -/
def State.leaveLink (s : State) (into : LinkState) : State :=
  if into = .driving ∨ into = .ready then s
  else
    let s1 := if s.linkUp
      then (s.openGap (if into = .lost then s.link.firstMissing else s.time.linkCycle)).closeKeys allKeys
      else s
    if s.link.state = .driving then ((s1.abortJobs .linkLeft).clearWindows).armPause else s1

/-- The controller's own state on entering a link state: the counts of R21, and what R24, R25, R26, R29 and R40 clear or
start. The echo of a return taken in LOST goes out in the next frame also where that is built in WAKING (R39). -/
def ActionLink.entered (l : ActionLink) (into : LinkState) : ActionLink :=
  let l1 := { l with state := into, valid := 0, missing := 0, recovery := none }
  match into with
  | .down => { l1 with permit := false, expiry := none, echo := .idle, collection := none }
  | .waking =>
    { l1 with roster := Vector.replicate 8 none, rosterChanged := false, collection := none,
              echo := if l.state = .down then .idle else l.echo }
  | .aligning => { l1 with collection := none, lastReason := none }
  | .ready => l1
  | .driving => l1
  | .lost => { l1 with recovery := some { cycles := 0, source := l.state } }

/-- What the entry into a state does elsewhere: the schedule's silence (R138, R140), LinkLosses (R29), the gap (R37). -/
def State.enterEffects (s : State) (into : LinkState) : State :=
  match into with
  | .down => s.linkSilence
  | .waking => s.linkSilence
  | .aligning => s.linkSilence
  | .ready => s.closeGap
  | .driving => s
  | .lost => s.bump .linkLosses

/-- The link enters a state, with its LinkState report (R30, DEDUCED, log 11). -/
def State.enterLink (s : State) (into : LinkState) (cause : LinkCause) : State :=
  let s1 := s.leaveLink into
  let s2 := State.enterEffects { s1 with link := s1.link.entered into } into
  s2.report (.linkState into s.link.state s.time.linkCycle cause)

/-- The profile's auto-permit. -/
def State.autoPermit (s : State) : Bool := s.port.profile.any Profile.autoPermit

/-- READY entered from ALIGNING or LOST, and DRIVING behind it by auto-permit or a permit held (R28). -/
def State.enterReady (s : State) (cause : LinkCause) : State :=
  let s1 := s.enterLink .ready cause
  if s1.autoPermit || s1.link.permit
  then State.enterLink { s1 with link := { s1.link with permit := false } } .driving .auto
  else s1

/-! ### The slow channel (R26, R31) -/

/-- A return added to the multiframe being collected; a new one begins with a cycle divisible by 16 (R26). -/
def State.collect (s : State) (cycle : Nat) (r : Return) : State :=
  let base : Option Collection :=
    if cycle % 16 = 0 then some { positions := [], bytes := Vector.replicate 8 [] } else s.link.collection
  { s with link := { s.link with collection := base.map (fun c =>
    { positions := r.position :: c.positions,
      bytes := Vector.zipWith (fun x l => match x with | none => l | some x => x.slow :: l) r.sections c.bytes }) } }

/-- The 16 bytes a station has sent in a multiframe, in order; fewer where a section was missing. -/
def Collection.station (c : Collection) (b : Nat) : List Byte := (nth c.bytes b []).reverse

/-- The records of a whole multiframe by the tests of R26, by station. -/
def Collection.records (c : Collection) : List (Nat × StationRecord) :=
  allStations.filterMap (fun b => (readRecord (c.station b)).map (fun r => (b, r)))

/-- The records of a whole multiframe by the tests of R31, by station: every field within the station record table. -/
def Collection.wholeRecords (c : Collection) : List (Nat × StationRecord) :=
  allStations.filterMap (fun b =>
    ((readRecord (c.station b)).filter (fun _ => spareInTable (c.station b))).map (fun r => (b, r)))

/-- The multiframe completed by the return of a cycle, if its 16 returns were all valid (R26). -/
def State.wholeMultiframe (s : State) (cycle : Nat) : Option Collection :=
  if cycle % 16 = 15 then s.link.collection.filter (fun c => c.positions.length == 16) else none

/-! ### The roster check (R27) -/

def StationRecord.hasKey (r : StationRecord) (k : Nat) : Bool := decide (r.firstKey ≤ k) && decide (k ≤ r.lastKey)
def StationRecord.hasPedal (r : StationRecord) (q : Nat) : Bool := servesPedal r.pedals q

/-- How many records of one direction hold something. -/
def coverCount (records : List StationRecord) (side : Role → Bool) (holds : StationRecord → Bool) : Nat :=
  (records.filter (fun r => side r.role && holds r)).length

/-- Key k is not covered as R27 asks: once up to keyCount, not at all above, for sensing and for drive. -/
def badKey (keyCount : Nat) (records : List StationRecord) (k : Nat) : Bool :=
  let want := if k ≤ keyCount then 1 else 0
  coverCount records Role.senses (fun r => r.hasKey k) != want || coverCount records Role.drives (fun r => r.hasKey k) != want

/-- Pedal q is not covered once for sensing and once for drive (R27). -/
def badPedal (records : List StationRecord) (q : Nat) : Bool :=
  coverCount records Role.senses (fun r => r.hasPedal q) != 1 || coverCount records Role.drives (fun r => r.hasPedal q) != 1

/-- The first failing test of R27 and the lowest key or pedal it names; none when the check passes. DEDUCED, log 24. -/
def rosterFailure (stations keyCount : Nat) (positions : List Nat) (records : List StationRecord) :
    Option (RosterReason × Option Nat) :=
  if !(positions.all (fun p => p == stations)) || records.length != stations then some (.count, none)
  else
    match allKeys.find? (badKey keyCount records) with
    | some k => some (.keys, some k)
    | none => (allPedals.find? (badPedal records)).map (fun q => (.pedals, some q))

/-- A temperature the roster takes (R31). -/
def temperatureInRange (t : Int) : Bool := decide (-20 ≤ t) && decide (t ≤ 125)

/-- The roster entry a passing check makes of a record (R27, R31). -/
def StationRecord.entry (r : StationRecord) : RosterEntry :=
  { present := true, role := r.role, firstKey := r.firstKey, lastKey := r.lastKey, pedals := r.pedals,
    temperature := if temperatureInRange r.temperature then r.temperature else 25,
    measured := temperatureInRange r.temperature, alpha := r.alpha, arrival := r.arrival, latency := r.latency, missing := 0 }

/-- The records of a multiframe as a roster (R27). -/
def rosterOf (records : List (Nat × StationRecord)) : Vector (Option RosterEntry) 8 :=
  Vector.ofFn (fun i => (records.lookup (i.val + 1)).map StationRecord.entry)

/-- The standing conditions of a station take effect on the entry just made for it, supply-low first (R47, R48;
DEDUCED, log 19). -/
def State.applyConditions (s : State) (b : Nat) : State :=
  let s := if s.supplyIsLow b then s.loseDrive b else s
  if s.isHot b then s.lowerStation b else s

/-- The records become the roster (R27). -/
def State.installRoster (s : State) (records : List (Nat × StationRecord)) : State :=
  allStations.foldl State.applyConditions
    { s with link := { s.link with roster := rosterOf records, rosterChanged := false } }

/-- The roster check at a whole multiframe in ALIGNING (R26, R27). -/
def State.rosterCheck (s : State) (c : Collection) : State :=
  let records := c.records
  match rosterFailure ((s.port.profile.map Profile.stations).getD 0) s.keyCount c.positions (records.map (fun r => r.2)) with
  | none => (s.installRoster records).enterReady .roster
  | some (reason, lowest) =>
    let s' := { s with link := { s.link with lastReason := some reason } }
    if s.link.lastReason = some reason then s'
    else s'.report (.rosterFault reason (c.positions.headD 0) records.length lowest)

/-! ### Records in READY, DRIVING and LOST (R31, R34) -/

/-- A record with the role, key range and pedals of an entry (R31). -/
def RosterEntry.agrees (e : RosterEntry) (r : StationRecord) : Bool :=
  e.role == r.role && e.firstKey == r.firstKey && e.lastKey == r.lastKey && e.pedals == r.pedals

/-- The entry brought up to date by an agreeing record; an Absent one becomes Present with its missing sections 0 (R31, R34).
A Present one keeps its count, which LOST holds (R33). -/
def RosterEntry.updated (e : RosterEntry) (r : StationRecord) : RosterEntry :=
  { e with
    present := true, missing := if e.present then e.missing else 0, alpha := r.alpha, arrival := r.arrival, latency := r.latency,
    temperature := if temperatureInRange r.temperature then r.temperature else e.temperature,
    measured := e.measured || temperatureInRange r.temperature }

/-- Replace a roster entry. -/
def State.setStation (s : State) (b : Nat) (e : RosterEntry) : State :=
  { s with link := { s.link with roster := setNth s.link.roster b (some e) } }

/-- The record agrees with the station's entry. -/
def State.recordAgrees (s : State) (b : Nat × StationRecord) : Bool := (s.stationOf b.1).any (fun e => e.agrees b.2)

/-- The entries whose records agree are brought up to date (R31, R34). -/
def State.updateStation (s : State) (b : Nat × StationRecord) : State :=
  match s.stationOf b.1 with
  | none => s
  | some e => if e.agrees b.2 then s.setStation b.1 (e.updated b.2) else s

/-- A whole multiframe outside ALIGNING (R31): entries updated; a record that differs, or has no entry, is a roster
change. DEDUCED, log 33. -/
def State.takeRecords (s : State) (c : Collection) : State :=
  let records := c.wholeRecords
  let s1 := records.foldl State.updateStation s
  if records.all s.recordAgrees then s1
  else if s1.linkUp then s1.enterLink .aligning .roster
  else { s1 with link := { s1.link with rosterChanged := true } }

/-- The slow bytes of a valid return in ALIGNING, READY, DRIVING or LOST (R22, R26, R31). -/
def State.slowChannel (s : State) (cycle : Nat) (r : Return) : State :=
  let s1 := s.collect cycle r
  match s1.wholeMultiframe cycle with
  | none => s1
  | some c =>
    let s2 := { s1 with link := { s1.link with collection := none } }
    if s2.link.state = .aligning then s2.rosterCheck c else s2.takeRecords c

/-! ### Station absence (R33) -/

/-- An entry becomes Absent: its keys and pedals lose drive and sensing (R33, R72, R147, R165). Drive is lost first, so a job
on a key of a Combined station fails with KeyUnavailable (DESIGN CHOICE, log 44). -/
def State.stationAbsent (s : State) (b : Nat) (e : RosterEntry) : State :=
  let s1 := (s.setStation b { e with present := false, missing := Config.absentAfter }).loseDrive b
  if e.role.senses then
    (((s1.removeWindows e.keys).closeKeys e.keys).markIncomplete).failJobIf (fun c => e.hasKey c.job.key) .noSensing
  else s1

/-- The missing sections of one station at a valid return (R33). DEDUCED, log 34. -/
def State.countSection (s : State) (sections : Vector (Option SectionReport) 8) (b : Nat) : State :=
  match s.stationOf b with
  | none => s
  | some e =>
    if (sectionOf sections b).isSome then s.setStation b { e with missing := 0 }
    else if !e.present then s
    else if e.missing + 1 < Config.absentAfter then s.setStation b { e with missing := e.missing + 1 }
    else s.stationAbsent b e

/-! ### Returns (R21 to R23, R39, R40) -/

/-- The notice slot of a valid return judged: the echo for the next frame, and an accepted notice acted on (R39). -/
def State.takeSlot (s : State) (cycle : Nat) (slot : List Byte) : State :=
  match judgeSlot slot with
  | .empty => { s with link := { s.link with echo := .idle } }
  | .spoiled => { s with link := { s.link with echo := .collision } }
  | .notice n => State.acceptNotice { s with link := { s.link with echo := .accepted n.station } } cycle n

/-- The end of LOST at the 16th consecutive valid return (R29). -/
def State.recover (s : State) : State :=
  if s.link.recovery.any (fun r => r.source == .aligning) || s.link.rosterChanged || s.link.roster.all (fun e => e.isNone)
  then s.enterLink .aligning .returns
  else s.enterReady .returns

/-- The 16th consecutive valid return has been taken (R25, R29). -/
def State.enoughReturns (s : State) : Bool := decide (Config.validReturns ≤ s.link.valid)

/-- A valid return handed on by the link state (R22; DEDUCED, log 10). Stations are judged for missing sections in ascending number
(DESIGN CHOICE, log 54). -/
def State.handReturn (s : State) (cycle : Nat) (r : Return) : State :=
  match s.link.state with
  | .down => s
  | .waking =>
    let s := { s with link := { s.link with echo := .idle } }
    if s.enoughReturns then s.enterLink .aligning .returns else s
  | .aligning => (s.takeSlot cycle r.slot).slowChannel cycle r
  | .ready =>
    ((allStations.foldl (fun s b => s.countSection r.sections b) (s.takeSlot cycle r.slot)).handOver cycle
      r.sections).slowChannel cycle r
  | .driving =>
    ((allStations.foldl (fun s b => s.countSection r.sections b) (s.takeSlot cycle r.slot)).handOver cycle
      r.sections).slowChannel cycle r
  | .lost =>
    let s := (s.takeSlot cycle r.slot).slowChannel cycle r
    if s.enoughReturns then s.recover else s

/-- A valid return: return time and counts, then handed on (R21, R22). -/
def State.validReturn (s : State) (cycle elapsed : Nat) (r : Return) : State :=
  State.handReturn
    { s with link := { s.link with returnTime := elapsed, expiry := none, valid := countUp s.link.valid, missing := 0 } }
    cycle r

/-- The echo a missing return leaves (R40). -/
def LinkState.missingEcho : LinkState → Echo
  | .down => .idle
  | .waking => .idle
  | .aligning => .collision
  | .ready => .collision
  | .driving => .collision
  | .lost => .collision

/-- A missing return of the frame of a cycle: the counts, the echo, the multiframe, the lost cycle, and the third in a row
(R21, R23, R29, R40). -/
def State.missingReturn (s : State) (cycle : Nat) : State :=
  let s1 := { s with link := { s.link with
    expiry := none, valid := 0, missing := countUp s.link.missing, collection := none, echo := s.link.state.missingEcho,
    firstMissing := if s.link.missing = 0 then cycle else s.link.firstMissing } }
  let s2 := if s1.linkUp then s1.handOverLost cycle else s1
  if decide (Config.missingReturns ≤ s2.link.missing) && (s2.linkUp || s2.link.state == .aligning)
  then s2.enterLink .lost .missing
  else s2

/-- A frame arrived, `elapsed` µs after the last send (R21): discarded when no expiry is running or it has run out. A late frame
of an earlier cycle is judged as the later one's (DESIGN CHOICE, log 50). -/
def State.takeReturn (s : State) (elapsed : Nat) (bytes : List Byte) : State :=
  match s.link.expiry with
  | none => s
  | some cycle =>
    if Config.returnExpiry ≤ elapsed then s
    else if returnGood cycle bytes then s.validReturn cycle elapsed (readReturn bytes)
    else s.missingReturn cycle

/-- The expiry ran out with no frame arrived (R21, R23). -/
def State.expireReturn (s : State) : State :=
  match s.link.expiry with
  | none => s
  | some cycle => s.missingReturn cycle

/-- The recovery limit ran out in LOST (R29). -/
def State.expireRecovery (s : State) : State :=
  if s.link.state = .lost ∧ s.link.recovery.any (fun r => decide (Config.recoveryLimit ≤ r.cycles))
  then s.enterLink .waking .limit
  else s

end Sys2Proof.Machine
end

