-- ==== Sys2Proof/Machine/Frames.lean ====
section
/-! DEFINITION. Building the downstream frame (R18, R19) and the dispatch into it (R135 to R138, R140). -/

namespace Sys2Proof.Machine

/-! ### The ring record (R19) -/

/-- The 16 bytes of the ring record as they stand. -/
def State.ringRecord (s : State) : List Byte :=
  let l := numBytes 1 s.keyCount ++ numBytes 1 ((s.port.profile.map Profile.stations).getD 0) ++
    numBytes 1 s.link.state.code ++ numBytes 1 s.presenceMap ++ List.replicate 11 0
  l ++ [recordCheck l]

/-- The slow byte of the frame of the cycle in progress. -/
def State.slowByte (s : State) : Byte := s.ringRecord.getD (s.time.linkCycle % 16) 0

/-! ### The window (R135) -/

/-- The first tick of the dispatch window: 20(n + 2). -/
def State.windowStart (s : State) : Nat := 20 * (s.takeCycle + 2)

/-- How far an entry is moved when entries left behind rise to the window start: as far as the first entry of its target
(R135). Marker and End have no target and rise alone. -/
def State.catchUpBy (s : State) (e : Entry) : Nat :=
  if e.isCommand then
    match s.sched.entries.find? e.sameTarget with
    | none => 0
    | some f => s.windowStart - f.onset
  else s.windowStart - e.onset

/-- Entries before the window start rise to it (R135). -/
def State.catchUp (s : State) : State := s.moveEntries s.catchUpBy

/-- The entry belongs to the window or stands before it (R135). -/
def State.inWindow (s : State) (e : Entry) : Bool := decide (e.onset ≤ s.windowStart + 19)

/-- The dispatch takes entries: in DRIVING with the transport Running (R18, R135). -/
def State.dispatches (s : State) : Bool := s.link.state == .driving && s.time.transport == .running

/-! ### Places (R136) -/

/-- What takes a place in a section: a pending immediate Off, a pedal rest, or an entry of the window, by its number
there. -/
inductive Item
  | offNow (key : Nat)
  | rest (pedal : Nat)
  | entry (number : Nat) (e : Entry)
deriving DecidableEq, Repr

/-- An item as a command, the window starting at `w` (R136). -/
def Item.command (w : Nat) : Item → Command
  | .offNow k => { kind := .off, target := k, level := 0, holdLevel := 0, attack := 0, fine := 0 }
  | .rest q => { kind := .pedalSet, target := q, level := 0, holdLevel := 0, attack := 0, fine := 0 }
  | .entry _ e =>
    let kind := match e.kind with
      | .off => CommandKind.off
      | .attack => .attack
      | .hold => .hold
      | .pedalSet => .pedalSet
      | .marker => .off
      | .endOfReplay => .off
    { kind := kind, target := e.target, level := e.level, holdLevel := e.holdLevel, attack := e.attack, fine := e.onset - w }

/-- The station that serves an entry's target for drive (R136). -/
def State.stationFor (s : State) (e : Entry) : Option Nat :=
  if e.kind = .pedalSet then s.pedalDriverOf e.target else s.driverOf e.target

/-- Pending immediate Offs of a station's keys, ascending (R136, R138). -/
def State.pendingOffs (s : State) (b : Nat) : List Item :=
  (allKeys.filter (fun k => (s.driveOf k).immediateOff && s.driverOf k == some b)).map .offNow

/-- Pending rests of a station's pedals, ascending, in DRIVING (R140). DEDUCED, log 25. -/
def State.pendingRests (s : State) (b : Nat) : List Item :=
  if s.link.state = .driving then
    (allPedals.filter (fun q => (s.pedalDriveOf q).rest && s.pedalDriverOf q == some b)).map .rest
  else []

/-- The window's entries of one kind for a station, in schedule order. -/
def State.windowItems (s : State) (window : List (Entry × Nat)) (b : Nat) (kind : EntryKind) : List Item :=
  (window.filter (fun x => x.1.kind == kind && s.stationFor x.1 == some b)).map (fun x => .entry x.2 x.1)

/-- What a station's section is offered, in the order of R136. -/
def State.offered (s : State) (window : List (Entry × Nat)) (b : Nat) : List Item :=
  s.pendingOffs b ++ s.pendingRests b ++ s.windowItems window b .off ++ s.windowItems window b .attack ++
    s.windowItems window b .hold ++ s.windowItems window b .pedalSet

/-- What a station's section carries: at most 24 (R136). -/
def State.placed (s : State) (window : List (Entry × Nat)) (b : Nat) : List Item :=
  (s.offered window b).take Config.sectionPlaces

/-- The number of the window entry in an item. -/
def Item.number? : Item → Option Nat
  | .offNow _ => none
  | .rest _ => none
  | .entry n _ => some n

/-- A PedalSet with a later PedalSet of its pedal in the window: removed without being sent (R136). -/
def outdone (window : List (Entry × Nat)) (x : Entry × Nat) : Bool :=
  x.1.kind == .pedalSet &&
    window.any (fun y => y.1.kind == .pedalSet && y.1.target == x.1.target && decide (x.2 < y.2))

/-! ### Effects (R137, R138, R140) -/

/-- A pending immediate Off placed in the frame of the cycle in progress (R138). A release end and a rearm base that a Stop has
made absent since it was asked stay absent (DESIGN CHOICE, log 61). -/
def State.offNowSent (s : State) (k : Nat) : State :=
  let d := s.driveOf k
  (s.setDrive k { d with
    immediateOff := false,
    releaseEnd := d.releaseEnd.map (fun t => max t (s.windowStart + d.lastRearm.getD 0)),
    rearmBase := d.rearmBase.map (fun t => max t s.windowStart) }).redecide k

/-- A pedal rest placed (R140). -/
def State.restSent (s : State) (q : Nat) : State := s.setPedalDrive q { level := some 0, rest := false }

/-- An Attack or Hold dispatched: the key's record, its note and the Played mark (R137). -/
def State.strikeSent (s : State) (e : Entry) : State :=
  let d := s.driveOf e.target
  let s1 := s.setDrive e.target { d with
    driven := true, attackEnd := some (e.onset + e.attack), lastRearm := some e.rearm,
    notes := d.notes.map (fun n => if e.note = some n.id then { n with attackDispatched := true } else n) }
  (s1.markPlayed e.via).redecide e.target

/-- An Off of the schedule dispatched (R137). -/
def State.offSent (s : State) (e : Entry) : State :=
  let d := s.driveOf e.target
  let capped := d.notes.any (fun n => e.note == some n.id && n.origin == .provisional)
  let s1 := s.setDrive e.target { d with
    driven := false, releaseEnd := some (laterOf d.releaseEnd (e.onset + e.rearm)),
    rearmBase := some (laterOf d.attackEnd e.onset),
    notes := d.notes.map (fun n =>
      if e.note = some n.id then
        { n with offDispatched := true, origin := if n.origin = .provisional then .capped else n.origin }
      else n) }
  (s1.bumpIf capped .holdCapped).redecide e.target

/-- The effects of one entry dispatched (R137). -/
def State.sent (s : State) (e : Entry) : State :=
  match e.kind with
  | .attack =>
    let s := s.strikeSent e
    match e.via with
    | some v => s.openMonitor e.target e.strike e.velocity v
    | none => s.calibrationDispatched e.target e.onset
  | .hold => s.strikeSent e
  | .off => s.offSent e
  | .pedalSet => (s.setPedalDrive e.target { s.pedalDriveOf e.target with level := some e.level }).markPlayed e.via
  | .marker => s.report (.marker e.marker e.onset)
  | .endOfReplay => { s with time := { s.time with endTick := some e.onset } }

/-- An immediate Off of a key with no driving station is discarded (R138). -/
def State.dropOff (s : State) (k : Nat) : State :=
  if (s.driveOf k).immediateOff && (s.driverOf k).isNone then s.setDrive k { s.driveOf k with immediateOff := false } else s

/-- A rest flag a window PedalSet replaces (R136). -/
def State.dropRest (s : State) (x : Entry × Nat) : State :=
  if x.1.kind = .pedalSet then s.setPedalDrive x.1.target { s.pedalDriveOf x.1.target with rest := false } else s

/-! ### The sections of a frame -/

/-- The effects of a placed immediate Off or pedal rest. -/
def State.itemSent (s : State) : Item → State
  | .offNow k => s.offNowSent k
  | .rest q => s.restSent q
  | .entry _ _ => s

/-- An entry of the window that stands at or behind one of its target without a place, or that is of one note with it (the Off of
a Hold at the Hold's own tick stands before it, R124): it is moved with it, and holds no place, so that no Attack or Hold is
left without its Off (R130, R136; DEDUCED, log 17). -/
def heldBack (unplaced : List (Entry × Nat)) (x : Entry × Nat) : Bool :=
  unplaced.any (fun y =>
    (y.1.sameTarget x.1 && decide (y.2 ≤ x.2)) || (y.1.note.isSome && y.1.note == x.1.note))

/-- An item that is not an entry held back. -/
def Item.goes (held : List Nat) (i : Item) : Bool := !(i.number?.any held.contains)

/-- The places filled from a window already taken out of the schedule; the entries without a place put back 20 ticks later with
the later entries of their targets, those of the window among them; and the effects of what was placed or handed on (R136,
R137; DEDUCED, log 17). `left` are the entries outside the window. -/
def State.fillSections (s : State) (left : List Entry) (window : List (Entry × Nat)) : State × List (List Command) :=
  let commands := window.filter (fun x => x.1.isCommand && !outdone window x)
  let s1 := (allKeys.foldl State.dropOff (commands.foldl State.dropRest s))
  let places := allStations.map (fun b => s1.placed commands b)
  let found := places.flatten.filterMap Item.number?
  let unplaced := commands.filter (fun x => !found.contains x.2)
  let held := (commands.filter (heldBack unplaced)).map (fun x => x.2)
  let items := places.map (fun l => l.filter (Item.goes held))
  let numbers := items.flatten.filterMap Item.number?
  let back := (commands.filter (fun x => !numbers.contains x.2)).map (fun x => x.1)
  let sentEntries := (window.filter (fun x => !x.1.isCommand || numbers.contains x.2)).map (fun x => x.1)
  let s2 := (s1.setEntries (back ++ left)).moveEntries (fun e => if unplaced.any (fun y => e.sameTarget y.1) then 20 else 0)
  let s3 := s2.bumpTimes .postponed unplaced.length
  let s4 := items.flatten.foldl State.itemSent s3
  (sentEntries.foldl State.sent s4, items.map (fun l => l.map (Item.command s.windowStart)))

/-- The commands the link state allows, and the dispatch when it is asked (R18, R135). -/
def State.takeCommands (s : State) : State × List (List Command) :=
  match s.link.state with
  | .down => (s, [])
  | .waking => (s, List.replicate 8 [])
  | .aligning => (s, List.replicate 8 [])
  | .ready => s.fillSections s.sched.entries []
  | .lost => s.fillSections s.sched.entries []
  | .driving =>
    if s.dispatches then
      let s := s.catchUp
      s.fillSections (s.sched.entries.filter (fun e => !s.inWindow e)) (s.sched.entries.filter s.inWindow).zipIdx
    else s.fillSections s.sched.entries []

/-- The cycle frame built and sent, and its return expiry started (R18, R21). -/
def State.buildFrame (s : State) : State :=
  if s.link.state = .down then s
  else
    let taken := s.takeCommands
    let f : CycleFrame :=
      { cycle := s.time.linkCycle, state := s.link.state, echo := s.link.echo, slow := s.slowByte, sections := taken.2 }
    { taken.1 with link := { taken.1.link with frameOut := some f, expiry := some s.time.linkCycle, echo := .idle } }

end Sys2Proof.Machine
end

