-- ==== Sys2Proof/Machine/Transport.lean ====
section
/-! DEFINITION. The transport and the modes (01): the Pause and Stop behaviours, the transport requests, SetCue and
SetMode (R5 to R14), and what is taken at cycle starts (R3, R8, R11, R12). "Now" of everything here is the first tick of
the take cycle in progress (R4, DEDUCED, log 4). -/

namespace Sys2Proof.Machine

/-- Change the Time Base's state. -/
def State.setTime (s : State) (t : TimeBase) : State := { s with time := t }

/-! ### Pause and Stop (R6, R10, R139, R140) -/

/-- The Pause behaviour up to its report (R6). -/
def State.pauseTake (s : State) : State :=
  (State.pauseSchedule { s with time := { s.time with transport := .paused, pauseStart := some s.startTick } }).clearWindows

/-- The mode uses the replay side: Replay, Duplex or Calibrate (R5, R9, R10). -/
def Mode.drives (m : Mode) : Bool := m == .replay || m == .duplex || m == .calibrate

/-- The Stop behaviour's part in Replay, Duplex and Calibrate (R10, R123, R140, R147, R166). -/
def State.stopDrive (s : State) : State :=
  let s1 := if s.time.mode = .calibrate then s.abortJobs .stop else s
  if s.time.mode.drives then ((s1.emptyIntake).stopSchedule).clearWindows else s1

/-- The Stop behaviour (R10). -/
def State.stopTake (s : State) (cause : StopCause) : State :=
  let s1 := s.stopDrive
  let s2 := if s1.captureMode then s1.flush cause else s1
  s2.setTime { s2.time with
    takeBase := none, pauseStart := none, endTick := none, cue := none, shift := 0, preroll := 0, transport := .stopped }

/-- A TransportStop or SetMode Idle taken while a link gap is open (R37). DEDUCED, log 31. -/
def State.stopGap (s : State) : State :=
  { s with link := { s.link with gap := s.link.gap.map (fun g => { g with stopped := true }) } }

/-! ### Refusals -/

/-- The owner's judgement, unless a restore in flight refuses the request with BUSY (R185). -/
def State.unlessRestoring (s : State) (tag : Byte) (code : Nat) (owner : State → State) : State :=
  if s.restoring then s.reply tag code .busy .nothing else owner s

/-! ### The transport requests -/

/-- The link must be DRIVING for a start or resume in this mode (R5, R9). -/
def State.lacksDrive (s : State) : Bool := s.time.mode.drives && s.link.state != .driving

/-- TransportStart's conditions (R5). -/
def State.mayStart (s : State) : Bool := s.time.transport == .stopped && s.time.mode != .idle && !s.lacksDrive

/-- A take begun (R5, R57, R73, R79, R126). -/
def State.beginTake (s : State) (preroll : Nat) : State :=
  let s1 := s.setTime { s.time with
    takeBase := some s.time.linkCycle, shift := 0, preroll := preroll, pauseStart := none, endTick := none,
    transport := .running }
  let s2 := (s1.startTracker).startSchedule
  if s2.captureMode then s2.openTake else s2

/-- TransportStart (R5). -/
def State.transportStart (s : State) (tag : Byte) (preroll : Nat) : State :=
  s.unlessRestoring tag 2 (fun s =>
    if s.mayStart then (s.beginTake preroll).reply tag 2 .done (.started preroll s.time.linkCycle)
    else s.reply tag 2 .state .nothing)

/-- TransportPause (R6). -/
def State.transportPause (s : State) (tag : Byte) : State :=
  s.unlessRestoring tag 3 (fun s =>
    if s.time.transport = .running ∧ s.time.mode ≠ .calibrate then
      ((s.reply tag 3 .done .nothing).pauseTake).report (.paused s.startTick .request)
    else s.reply tag 3 .state .nothing)

/-- Δ of a Resume: now less the pause start (R9). -/
def State.pausedFor (s : State) : Nat := s.startTick - s.time.pauseStart.getD s.startTick

/-- A Resume's effects up to its report (R9). -/
def State.resumeTake (s : State) : State :=
  let s1 := s.resumeSchedule s.pausedFor
  s1.setTime { s1.time with
    shift := s.time.shift + s.pausedFor, endTick := s.time.endTick.map (· + s.pausedFor), pauseStart := none,
    transport := .running }

/-- TransportResume (R9). -/
def State.transportResume (s : State) (tag : Byte) : State :=
  s.unlessRestoring tag 4 (fun s =>
    if s.time.transport = .paused ∧ !s.lacksDrive then
      ((s.reply tag 4 .done .nothing).resumeTake).report (.resumed s.pausedFor (s.time.shift + s.pausedFor))
    else s.reply tag 4 .state .nothing)

/-- TransportStop (R10). Its Reply is handed, and on a free line reads the intake space, before the intake is emptied (DEDUCED,
log 59). -/
def State.transportStop (s : State) (tag : Byte) : State :=
  s.unlessRestoring tag 5 (fun s =>
    let s1 := s.reply tag 5 .done .nothing
    if s.taking then (s1.stopTake .request).stopGap else s1)

/-- A cue tick that is refused while a take runs (R12). -/
def State.cuePassed (s : State) (tick : Nat) : Bool := s.taking && decide (tick / 20 ≤ s.takeCycle)

/-- SetCue (R12): presence 0 removes the cue, 1 sets it; another presence code is RANGE of field 1 (R174).
DEDUCED, log 35. -/
def State.takeCue (s : State) (tag : Byte) (presence tick : Nat) : State :=
  s.unlessRestoring tag 6 (fun s =>
    if presence = 0 then (s.setTime { s.time with cue := none }).reply tag 6 .done .nothing
    else if presence ≠ 1 then s.reply tag 6 .range (.field 1)
    else if s.cuePassed tick then s.reply tag 6 .range (.field 2)
    else (s.setTime { s.time with cue := some tick }).reply tag 6 .done .nothing)

/-! ### SetMode (R14) -/

/-- The mode of a mode code (R174, code 1). -/
def modeOf : Nat → Option Mode
  | 1 => some .idle
  | 2 => some .capture
  | 3 => some .replay
  | 4 => some .duplex
  | 5 => some .calibrate
  | _ => none

/-- The status timer started for one period, or started again (R177). -/
def State.startTimer (s : State) : State :=
  { s with port := { s.port with timer := some s.port.options.statusPeriod } }

/-- A mode entered from Idle: the status timer starts (R14, R177). -/
def State.leaveIdle (s : State) (m : Mode) : State := State.startTimer (s.setTime { s.time with mode := m })

/-- A change to Idle, in the order of R14. -/
def State.enterIdle (s : State) : State :=
  let s1 := if s.time.mode = .calibrate then s.abortJobs .modeIdle else s
  let s2 := if s1.taking then s1.stopTake .modeIdle else s1
  let s3 := if s.time.mode = .replay ∨ s.time.mode = .duplex then s2.emptyIntake else s2
  State.stopGap { s3.setTime { s3.time with mode := .idle } with port := { s3.port with timer := none } }

/-- SetMode (R14, R185; DESIGN CHOICE, log 20): a code that names no mode is RANGE where no other test of the rule refuses it. -/
def State.takeMode (s : State) (tag : Byte) (code : Nat) : State :=
  s.unlessRestoring tag 1 (fun s =>
    if s.saving && code != 1 then s.reply tag 1 .busy .nothing
    else if code = s.time.mode.code then s.reply tag 1 .done .nothing
    else if code = 1 then (s.enterIdle).reply tag 1 .done .nothing
    else if s.time.mode ≠ .idle then s.reply tag 1 .state .nothing
    else
      match modeOf code with
      | none => s.reply tag 1 .range (.field 1)
      | some m => (s.leaveIdle m).reply tag 1 .done .nothing)

/-! ### What comes at a cycle start without a request -/

/-- PAUSE_LINK_LEFT (R8): the Pause of a departure from DRIVING, at the cycle start after it. -/
def State.linkLeftPause (s : State) : State :=
  if s.time.linkLeft = .due then
    let s1 := s.setTime { s.time with linkLeft := .none }
    if s1.time.transport = .running then s1.pauseTake.report (.paused s1.startTick .linkLeft) else s1
  else s

/-- The cue's take cycle has come (R12); while Stopped there is no take cycle. DEDUCED, log 32. -/
def State.cueDue (s : State) : Option Nat :=
  if s.taking then s.time.cue.filter (fun t => decide (t / 20 ≤ s.takeCycle)) else none

/-- CUE_REACHED (R12). -/
def State.reachCue (s : State) : State :=
  match s.cueDue with
  | none => s
  | some cue =>
    let s1 := s.setTime { s.time with cue := none }
    if s1.time.transport = .running ∧ (s1.time.mode = .replay ∨ s1.time.mode = .duplex) then
      s1.pauseTake.report (.cueReached cue s1.startTick)
    else s1

/-- END_TICK (R11): with the transport Running, at the cycle start whose take cycle holds the end tick. The report is handed, and
on a free line reads the intake space, before the intake is emptied (DEDUCED, log 59). -/
def State.reachEnd (s : State) : State :=
  match s.time.endTick with
  | none => s
  | some t =>
    if s.time.transport = .running ∧ t / 20 ≤ s.takeCycle then
      (s.report (.replayComplete t)).stopTake .endReached
    else s

/-- CLOCK_END (R3). -/
def State.reachClockEnd (s : State) : State :=
  if s.taking && decide (Config.clockEndCycle ≤ s.takeCycle) then s.stopTake .clockEnd else s

/-- WINDOW_EXPIRY of key k: its close cycle has come with the window still open (R145, R161). -/
def State.expireWindow (s : State) (k : Nat) : State :=
  match s.windowOf k with
  | none => s
  | some w =>
    if s.time.transport = .running ∧ w.close ≤ s.takeCycle then
      match w.holder with
      | .monitor commanded via => s.missed k w commanded via
      | .sequencer => s.noCrossing k
    else s

/-! ### The cycle start (R1) -/

/-- The counters of a cycle start: the link cycle, its first tick, the recovery limit (R29), a link departure that is now
due (R8), and the job test (R157, DESIGN CHOICE, log 7). -/
def State.advanceCycle (s : State) : State :=
  { s with
    time := { s.time with
      linkCycle := (s.time.linkCycle + 1) % cycleModulus, tick := 0,
      linkLeft := if s.time.linkLeft = .none then .none else .due },
    link := { s.link with recovery := s.link.recovery.map (fun r => { r with cycles := r.cycles + 1 }) },
    calib := { s.calib with testDue := true } }

/-- A transport request or SetMode taken (R4). -/
def State.takeTimed (s : State) (r : Byte × Request) : State :=
  match r.2 with
  | .setMode mode => s.takeMode r.1 mode
  | .transportStart preroll => s.transportStart r.1 preroll
  | .transportPause => s.transportPause r.1
  | .transportResume => s.transportResume r.1
  | .transportStop => s.transportStop r.1
  | .setCue presence tick => s.takeCue r.1 presence tick
  | _ => s

/-- The next waiting request taken (R4). -/
def State.takeNext (s : State) : State :=
  match s.time.waiting with
  | [] => s
  | r :: rest => (s.setTime { s.time with waiting := rest }).takeTimed r

/-- One thing taken at the cycle start. A Pause that waits for a link departure comes before the frame, which carries its Offs
(R8, R36; DEDUCED, log 47). -/
def State.startAction (s : State) (a : StartAction) : State :=
  match a with
  | .frame => s.linkLeftPause.buildFrame
  | .request => s.takeNext
  | .release => s.captureRelease
  | .retry => s.retryStrike
  | .pauseLinkLeft => s.linkLeftPause
  | .cueReached => s.reachCue
  | .endTick => s.reachEnd
  | .clockEnd => s.reachClockEnd
  | .windowExpiry k => s.expireWindow k
  | .jobStart => s.startJob
  | .recoveryLimit => s.expireRecovery
  | .admitRecord => s.testHead
  | .walkRead => s.walkRead
  | .walkEnd => s.walkEnd

/-- The acts every cycle start makes exactly once. -/
def onceOnly (a : StartAction) : Bool := a == .frame || a == .release || a == .retry

/-- The order of a cycle start with each once-only act at its first place, and behind them those the order leaves out:
frame, retry, release (DESIGN CHOICE, log 3). -/
def startOrder (order : List StartAction) : List StartAction :=
  let step (acc : List StartAction) (a : StartAction) := if onceOnly a && acc.contains a then acc else acc ++ [a]
  (order ++ [StartAction.frame, .retry, .release]).foldl step []

/-- The acts of a cycle start from `s`: the retry is made only where a strike stood Pending as it began, so that one refused for
room within a cycle start is asked again at the following ones (R158). -/
def State.startActs (s : State) (order : List StartAction) : List StartAction :=
  if s.strikeWaits then startOrder order else (startOrder order).filter (fun a => a != .retry)

/-- CYCLE_START: the counters, the acts in their order, then every request still waiting, in order of arrival (R1, R4,
R18, R77, R158; DESIGN CHOICE, log 3). -/
def State.cycleStart (s : State) (order : List StartAction) : State :=
  let s1 := (s.startActs order).foldl State.startAction s.advanceCycle
  s1.time.waiting.foldl State.takeTimed (s1.setTime { s1.time with waiting := [] })

end Sys2Proof.Machine
end

