-- ==== Sys2Proof/Machine/Store.lean ====
section
/-! DEFINITION. The Calibration Store (12): blocks and their judgement (R181), the save (R182, R183), the restore (R184),
and the two kinds of reset (R178, R186). -/

namespace Sys2Proof.Machine

/-! ### Judging a block (R181) -/

/-- The field tests of R87 on a descriptor: target by kind, page, trim. -/
def descriptorValid (d : VoiceDescriptor) : Bool :=
  decide (1 ≤ d.target) && decide (d.target ≤ (if d.kind = .key then 97 else 3)) && decide (d.page ≤ 511) &&
    decide (500 ≤ d.trim) && decide (d.trim ≤ 1500)

/-- The place in a WriteKeySense of the first field of a key entry outside its range, in the order of the table (R54, 04 table
of 4.2). DEDUCED, log 62. -/
def keySenseFailure (e : KeySense) : Option Nat :=
  if e.gap < 1000 || 5000 < e.gap then some 3
  else if e.residual < 500 || 5000 < e.residual then some 4
  else if e.minVelocity < 10 || 500 < e.minVelocity then some 5
  else none

/-- The same for a pedal entry; a raw minimum not below the raw maximum is tested last and named by the first of the two
(R54). DEDUCED, log 24 and log 62. -/
def pedalSenseFailure (e : PedalSense) : Option Nat :=
  if 4095 < e.rawMin then some 3
  else if 4095 < e.rawMax then some 4
  else if e.deadband < 1 || 16 < e.deadband then some 5
  else if e.rawMax ≤ e.rawMin then some 3
  else none

/-- The content meets the rules of a write of the same state, and is what block b holds (R181, 12.1). -/
def contentValid (b : Nat) : BlockContent → Bool
  | .voicing set => decide (b < 4) && set.all descriptorValid
  | .sense table =>
    b == 4 && table.keys.all (fun e => (keySenseFailure e).isNone) && table.pedals.all (fun e => (pedalSenseFailure e).isNone)
  | .pages slots => decide (5 ≤ b) && decide (b ≤ 36) && slots.all (fun p => p.all pageValid)

/-- A block's content with its check, as programming writes them (R181, R183). -/
def sealBlock (c : BlockContent) : StoreBlock := .programmed c (crc16 (Config.contentBytes c))

/-- The content of a good block b; none for a bad one (R181). -/
def goodContent (b : Nat) : StoreBlock → Option BlockContent
  | .erased => none
  | .partly => none
  | .programmed c check => if check = crc16 (Config.contentBytes c) ∧ contentValid b c = true then some c else none

/-! ### Table Memory by block (12.1) -/

/-- What block b holds of Table Memory; none above 36. -/
def TableMemory.block (m : TableMemory) (b : Nat) : Option BlockContent :=
  if b < 4 then m.sets[b]?.map .voicing
  else if b = 4 then some (.sense m.sense)
  else m.pages[b - 5]?.map .pages

/-- The content a bad block gives: cleared descriptors, defaults, empty slots (12.1). -/
def badContent (b : Nat) : BlockContent :=
  if b < 4 then .voicing clearedSet else if b = 4 then .sense defaultSense else .pages emptyPages

/-- Table Memory with block b's content loaded whole. -/
def TableMemory.load (m : TableMemory) (b : Nat) : BlockContent → TableMemory
  | .voicing set => { m with sets := m.sets.setIfInBounds b set }
  | .sense table => { m with sense := table }
  | .pages slots => if b < 5 then m else { m with pages := m.pages.setIfInBounds (b - 5) slots }

/-! ### The save (R182, R183) -/

/-- The operation in flight replaced. -/
def State.setOp (s : State) (op : StoreOp) : State := { s with store := { s.store with op := op } }

/-- A block's content in the store. -/
def State.storeBlock (s : State) (b : Nat) : StoreBlock := s.store.blocks[b]?.getD .erased

/-- A block of the store replaced. -/
def State.setStoreBlock (s : State) (b : Nat) (x : StoreBlock) : State :=
  { s with store := { s.store with blocks := s.store.blocks.setIfInBounds b x } }

/-- The save at its next block: protected blocks passed over, an erase begun, or StoreDone after the last (R182, R183). -/
def State.saveFrom : Nat → State → SaveOp → State
  | 0, s, op => (s.setOp .idle).report (.saveDone op.first op.last op.results)
  | fuel + 1, s, op =>
    if op.last < op.block then (s.setOp .idle).report (.saveDone op.first op.last op.results)
    else if op.boundary ≤ op.block then
      State.saveFrom fuel s { op with block := op.block + 1, results := op.results ++ [.guarded] }
    else s.setOp (.save { op with stage := .erasing })

/-- The save begun (R183). -/
def State.beginSave (s : State) (first last : Nat) : State :=
  State.saveFrom (last + 1 - first) s
    { stage := .erasing, block := first, first := first, last := last, boundary := s.boundary, written := .erased,
      results := [] }

/-- STORE_ERASE_COMPLETE (R183): the block holds no content; its content and check are taken from Table Memory. -/
def State.eraseDone (s : State) : State :=
  match s.store.op with
  | .save op =>
    if op.stage = .erasing then
      let written := match s.mem.block op.block with
        | none => StoreBlock.erased
        | some c => sealBlock c
      (s.setStoreBlock op.block .erased).setOp (.save { op with stage := .programming, written := written })
    else s
  | _ => s

/-- STORE_PROGRAM_COMPLETE (R183): the medium holds what was written, or what it took instead (DESIGN CHOICE, log 9). -/
def State.programDone (s : State) (medium : Option StoreBlock) : State :=
  match s.store.op with
  | .save op =>
    if op.stage = .programming then
      (s.setStoreBlock op.block (medium.getD op.written)).setOp (.save { op with stage := .verifying })
    else s
  | _ => s

/-- STORE_VERIFY_COMPLETE (R183): Saved when the block as read agrees with what was written, else Failed; then the next
block. -/
def State.verifyDone (s : State) : State :=
  match s.store.op with
  | .save op =>
    if op.stage = .verifying then
      let result := if s.storeBlock op.block = op.written then SaveResult.saved else .failed
      State.saveFrom (op.last - op.block) s { op with block := op.block + 1, results := op.results ++ [result] }
    else s
  | _ => s

/-! ### The restore (R184) -/

/-- A restore begun: the Voice Cache is emptied (R105, R184). -/
def State.beginRestore (s : State) (cause : RestoreCause) : State :=
  State.setOp { s with voices := { s.voices with entries := [], walk := none } }
    (.restore { block := 0, cause := cause, results := [] })

/-- STORE_READ_COMPLETE (R184): the block judged, loaded or given its treatment, and the next read or StoreDone. -/
def State.readDone (s : State) : State :=
  match s.store.op with
  | .restore op =>
    let found := goodContent op.block (s.storeBlock op.block)
    let result := if found.isSome then LoadResult.loaded else .bad
    let results := op.results ++ [result]
    let s1 := { s with mem := s.mem.load op.block (found.getD (badContent op.block)) }
    if op.block < 36 then s1.setOp (.restore { op with block := op.block + 1, results := results })
    else (s1.setOp .idle).report (.restoreDone op.cause results)
  | _ => s

/-! ### Resets (R178, R186) -/

/-- The blocks as a reset leaves them: the block in progress of a save as its stage left it (R186); a cut erase
leaves it partly erased (DESIGN CHOICE, log 53). -/
def CalibrationStore.afterReset (x : CalibrationStore) : Vector StoreBlock 37 :=
  match x.op with
  | .save op =>
    match op.stage with
    | .erasing => x.blocks.setIfInBounds op.block .partly
    | .programming => x.blocks.setIfInBounds op.block .partly
    | .verifying => x.blocks
  | .idle => x.blocks
  | .restore _ => x.blocks

/-- A cold reset: Table Memory cleared, every block initial, the automatic restore begun (R178, R184). The commands still
to come stay in the queue. -/
def State.coldReset (s : State) (cause : ResetCause) : State :=
  State.fresh cause TableMemory.cleared { blocks := s.store.afterReset, op := .restore RestoreOp.automatic } s.pending

/-- A warm reset: Table Memory kept (R178). -/
def State.warmReset (s : State) (cause : ResetCause) : State :=
  State.fresh cause s.mem { blocks := s.store.afterReset, op := .idle } s.pending

end Sys2Proof.Machine
end

