-- ==== Sys2Proof/Machine/Requests.lean ====
section
/-! DEFINITION. The requests taken as they arrive, each judged by its owner's rule and answered with one Reply (R24, R28,
R32, R45, R54, R87, R88, R92, R93, R95, R102, R103, R156, R166, R175 to R177, R179, R183, R184). -/

namespace Sys2Proof.Machine

/-- Nothing received is handed on once a Restart has been answered Done (R179). -/
def State.heard (s : State) (owner : State → State) : State := if s.port.restart = .none then owner s else s

/-- BUSY while a save or a restore is in flight, else the owner's judgement (R185). -/
def State.unlessStoring (s : State) (tag : Byte) (code : Nat) (owner : State → State) : State :=
  if s.storeBusy then s.reply tag code .busy .nothing else owner s

/-- RANGE naming a field by its place, where one fails; else what the request does (R173, R174). -/
def State.judged (s : State) (tag : Byte) (code : Nat) (failure : Option Nat) (done : State → State) : State :=
  match failure with
  | some place => s.reply tag code .range (.field place)
  | none => done s

/-! ### Action Link Controller -/

/-- LinkStart (R24). -/
def State.linkStart (s : State) (tag : Byte) : State :=
  s.unlessRestoring tag 7 (fun s =>
    if s.link.state = .down then
      if s.port.profile.isNone then s.reply tag 7 .state .nothing
      else (s.reply tag 7 .done .nothing).enterLink .waking .request
    else s.reply tag 7 .done .nothing)

/-- LinkStop (R24). -/
def State.linkStop (s : State) (tag : Byte) : State :=
  s.unlessRestoring tag 8 (fun s =>
    let s1 := s.reply tag 8 .done .nothing
    if s.link.state = .down then s1 else s1.enterLink .down .request)

/-- Set the drive permit. -/
def State.setPermit (s : State) (b : Bool) : State := { s with link := { s.link with permit := b } }

/-- DrivePermit (R28). -/
def State.drivePermit (s : State) (tag : Byte) : State :=
  s.unlessRestoring tag 9 (fun s =>
    match s.link.state with
    | .down => s.reply tag 9 .state .nothing
    | .waking => (s.setPermit true).reply tag 9 .done .nothing
    | .aligning => (s.setPermit true).reply tag 9 .done .nothing
    | .lost => (s.setPermit true).reply tag 9 .done .nothing
    | .ready => ((s.setPermit false).reply tag 9 .done .nothing).enterLink .driving .request
    | .driving => s.reply tag 9 .done .nothing)

/-- The data of a ReadRoster (R32, R50). -/
def State.rosterData (s : State) : ReplyData :=
  .roster s.link.roster.toList s.link.state s.link.permit s.link.rosterChanged
    (allStations.map (fun b => (s.supplyIsLow b, s.isHot b))) (allKeys.filter s.faulted)

/-- ReadRoster (R32, R50). -/
def State.readRoster (s : State) (tag : Byte) : State :=
  s.unlessRestoring tag 10 (fun s => s.reply tag 10 .done s.rosterData)

/-- Key k leaves the key fault set, its drive state decided anew (R45). -/
def State.clearFault (s : State) (k : Nat) : State := if s.faulted k then (s.setFault k false).redecide k else s

/-- ClearKeyFault (R45): key 0 names all (R174). -/
def State.clearKeyFault (s : State) (tag : Byte) (key : Nat) : State :=
  s.unlessRestoring tag 11 (fun s =>
    if key = 0 then (allKeys.foldl State.clearFault s).reply tag 11 .done .nothing
    else
      s.judged tag 11 (if s.keyCount < key then some 1 else none) (fun s =>
        (s.clearFault key).reply tag 11 .done .nothing))

/-! ### Key Sense Table (R54) -/

/-- The failing field of the entry a request names: the number of an entry of type 1 (key) or 2 (pedal), or the code of any other
type, whose number no row of R54 tests (R54, R174). -/
def senseEntryFailure (type number : Nat) : Option Nat :=
  if type = 1 then if number = 0 ∨ 97 < number then some 2 else none
  else if type = 2 then if number = 0 ∨ 3 < number then some 2 else none
  else some 1

/-- The first failing field of a WriteKeySense: of the entry named, then of its fields (R54). DEDUCED, log 62. -/
def keySenseWriteFailure (type number first second third : Nat) : Option Nat :=
  (senseEntryFailure type number).or
    (if type = 1 then keySenseFailure { gap := first, residual := second, minVelocity := third }
     else pedalSenseFailure { rawMin := first, rawMax := second, deadband := third })

/-- A key or pedal entry replaced whole (R54). -/
def TableMemory.setSense (m : TableMemory) (type number first second third : Nat) : TableMemory :=
  if type = 1 then
    { m with sense := { m.sense with
      keys := setNth m.sense.keys number { gap := first, residual := second, minVelocity := third } } }
  else
    { m with sense := { m.sense with
      pedals := setNth m.sense.pedals number { rawMin := first, rawMax := second, deadband := third } } }

/-- WriteKeySense (R54). -/
def State.writeKeySense (s : State) (tag : Byte) (type number first second third : Nat) : State :=
  s.unlessStoring tag 12 (fun s =>
    s.judged tag 12 (keySenseWriteFailure type number first second third) (fun s =>
      State.reply { s with mem := s.mem.setSense type number first second third } tag 12 .done .nothing))

/-- ReadKeySense (R54). -/
def State.readKeySense (s : State) (tag : Byte) (type number : Nat) : State :=
  s.unlessRestoring tag 13 (fun s =>
    s.judged tag 13 (senseEntryFailure type number) (fun s =>
      s.reply tag 13 .done (if type = 1 then .keySense (s.keySense number) else .pedalSense (s.pedalSense number))))

/-! ### Voicing tables (R87, R88, R92, R93) -/

/-- The voice kind of a kind code (06, 6.2; R174). -/
def voiceKindOf : Nat → Option VoiceKind
  | 1 => some .key
  | 2 => some .pedal
  | 3 => some .invertedPedal
  | _ => none

/-- The failing field of a set and voice, the set first (R87, R88). DEDUCED, log 62. -/
def voiceFailure (set voice : Nat) : Option Nat := if 3 < set then some 1 else if 127 < voice then some 2 else none

/-- A yes-or-no field that is neither 0 nor 1 (R174). -/
def flagFailure (place value : Nat) : Option Nat := if 1 < value then some place else none

/-- The first failing field of a WriteDescriptor, in the order of R87, the codes it does not test behind every other test
(R174). R174 gives no order among those codes: Present is named before Accessed, Accessed before Played (DEDUCED, log 62). -/
def descriptorFailure (set voice : Nat) (f : RawDescriptor) : Option Nat :=
  (voiceFailure set voice).or
    (match voiceKindOf f.kind with
    | none => some 4
    | some k =>
      if f.target = 0 ∨ (if k = .key then 97 else 3) < f.target then some 5
      else if 511 < f.page then some 6
      else if f.trim < 500 ∨ 1500 < f.trim then some 7
      else ((flagFailure 3 f.present).or (flagFailure 8 f.accessed)).or (flagFailure 9 f.played))

/-- The descriptor that judged fields give. -/
def RawDescriptor.descriptor (f : RawDescriptor) : VoiceDescriptor :=
  { present := f.present == 1, kind := (voiceKindOf f.kind).getD .key, target := f.target, page := f.page, trim := f.trim,
    accessed := f.accessed == 1, played := f.played == 1 }

/-- WriteDescriptor (R87). -/
def State.writeDescriptor (s : State) (tag : Byte) (set voice : Nat) (f : RawDescriptor) : State :=
  s.unlessStoring tag 14 (fun s =>
    s.judged tag 14 (descriptorFailure set voice f) (fun s =>
      State.reply { s with mem := s.mem.setDescriptor set voice (RawDescriptor.descriptor f) } tag 14 .done .nothing))

/-- ReadDescriptor (R88). -/
def State.readDescriptor (s : State) (tag : Byte) (set voice : Nat) : State :=
  s.unlessRestoring tag 15 (fun s =>
    s.judged tag 15 (voiceFailure set voice) (fun s =>
      s.reply tag 15 .done (.descriptor ((s.mem.descriptor set voice).getD clearedDescriptor))))

/-- What a WritePage asks for: a content to write, or the failing place and breakpoint index (R92, R174). The slot is tested
before the kind (DEDUCED, log 62). -/
def pageWrite (slot : Nat) (p : RawPage) : Option Page ⊕ PageFailure :=
  if 511 < slot then .inr (1, 255)
  else
    match p with
    | .other _ => .inr (2, 255)
    | .empty => .inl none
    | .strike points sc =>
      match pageFailure (.strike points sc) with
      | some f => .inr f
      | none => .inl (some (.strike points sc))
    | .pedal points =>
      match pageFailure (.pedal points) with
      | some f => .inr f
      | none => .inl (some (.pedal points))

/-- WritePage (R92). -/
def State.writePage (s : State) (tag : Byte) (slot : Nat) (p : RawPage) : State :=
  s.unlessStoring tag 16 (fun s =>
    match pageWrite slot p with
    | .inr f => s.reply tag 16 .range (.pageField f.1 f.2)
    | .inl content => State.reply { s with mem := s.mem.setPage slot content } tag 16 .done .nothing)

/-- ReadPage (R93). -/
def State.readPage (s : State) (tag : Byte) (slot : Nat) : State :=
  s.unlessRestoring tag 17 (fun s =>
    s.judged tag 17 (if 511 < slot then some 1 else none) (fun s => s.reply tag 17 .done (.page (s.mem.page slot))))

/-! ### Voice Cache (R95, R102, R103) -/

/-- The Voice Cache emptied and a walk cancelled (R95, R103). -/
def State.emptyCache (s : State) : State := { s with voices := { s.voices with entries := [], walk := none } }

/-- SelectVoicing (R95). -/
def State.selectVoicing (s : State) (tag : Byte) (set : Nat) : State :=
  s.unlessRestoring tag 18 (fun s =>
    s.judged tag 18 (if 3 < set then some 1 else none) (fun s =>
      let s1 := s.emptyCache
      State.reply { s1 with voices := { s1.voices with activeSet := set } } tag 18 .done .nothing))

/-- One voice's entry removed and its walk cancelled (R102). -/
def State.dropVoice (s : State) (voice : Nat) : State :=
  { s with voices := { s.voices with
    entries := s.voices.entries.filter (fun e => e.voice != voice),
    walk := s.voices.walk.filter (fun w => w.voice != voice) } }

/-- InvalidateVoice (R102). -/
def State.invalidateVoice (s : State) (tag : Byte) (voice : Nat) : State :=
  s.unlessRestoring tag 19 (fun s =>
    s.judged tag 19 (if 127 < voice then some 1 else none) (fun s =>
      (s.dropVoice voice).reply tag 19 .done (.removed (s.voices.find voice).isSome)))

/-- InvalidateAll (R103). -/
def State.invalidateAll (s : State) (tag : Byte) : State :=
  s.unlessRestoring tag 20 (fun s => (s.emptyCache).reply tag 20 .done (.removedCount s.voices.entries.length))

/-! ### Calibration Sequencer (R156, R166) -/

/-- The first failing field of a job, in the order of the job table (R156, 10.1). DEDUCED, log 24. -/
def jobFailure (keyCount : Nat) (j : Job) : Option Nat :=
  if j.key = 0 ∨ keyCount < j.key then some 1
  else if 511 < j.slot then some 2
  else if j.levels < 4 ∨ 16 < j.levels then some 3
  else if j.minDrive = 0 ∨ 1023 < j.minDrive ∨ j.maxDrive ≤ j.minDrive then some 4
  else if 1023 < j.maxDrive then some 5
  else if j.repeats = 0 ∨ 4 < j.repeats then some 6
  else if j.spacing < 250 ∨ 2000 < j.spacing then some 7
  else none

/-- CalibrateQueue (R156). -/
def State.calibrateQueue (s : State) (tag : Byte) (j : Job) : State :=
  s.unlessRestoring tag 21 (fun s =>
    if s.time.mode = .idle ∨ s.time.mode = .calibrate then
      s.judged tag 21 (jobFailure s.keyCount j) (fun s =>
        if 16 ≤ s.calib.queue.length then s.reply tag 21 .busy .nothing
        else
          State.reply { s with calib := { s.calib with queue := s.calib.queue ++ [j] } } tag 21 .done
            (.jobs (s.calib.queue.length + 1)))
    else s.reply tag 21 .state .nothing)

/-- CalibrateAbort (R166). -/
def State.calibrateAbort (s : State) (tag : Byte) : State :=
  s.unlessRestoring tag 22 (fun s =>
    (s.reply tag 22 .done (.aborted s.calib.current.isSome s.queuedJobs)).abortJobs .request)

/-! ### Score Port Controller (R175 to R177, R179) -/

/-- The first failing field of a profile, in the order of its table (R175, 11.4). DEDUCED, log 62. -/
def profileFailure (f : RawProfile) : Option Nat :=
  if f.keyCount ≠ 88 ∧ f.keyCount ≠ 97 then some 1
  else if f.stations = 0 ∨ 8 < f.stations then some 2
  else if 37 < f.boundary then some 3
  else flagFailure 4 f.autoPermit

/-- The profile that judged fields give. -/
def RawProfile.profile (f : RawProfile) : Profile :=
  { keyCount := f.keyCount, stations := f.stations, boundary := f.boundary, autoPermit := f.autoPermit == 1 }

/-- SetProfile (R175). -/
def State.setProfile (s : State) (tag : Byte) (f : RawProfile) : State :=
  s.unlessStoring tag 23 (fun s =>
    match s.port.profile with
    | some p => s.reply tag 23 .locked (.profile p)
    | none =>
      s.judged tag 23 (profileFailure f) (fun s =>
        State.reply { s with port := { s.port with profile := some (RawProfile.profile f) } } tag 23 .done .nothing))

/-- The place of an option in the table of 11.5. -/
def optionPlace : OptionName → Nat
  | .lateTolerance => 1 | .lookAhead => 2 | .dynamicsScale => 3 | .verify => 4 | .adaptiveTrim => 5
  | .outcomeReports => 6 | .holdCap => 7 | .yieldBase => 8 | .windowWidth => 9 | .statusPeriod => 10

/-- The least and greatest value of an option (11.5); holdCap in seconds. -/
def optionRange : OptionName → Nat × Nat
  | .lateTolerance => (0, 65535)
  | .lookAhead => (10000, 1000000)
  | .dynamicsScale => (250, 1000)
  | .verify => (0, 1)
  | .adaptiveTrim => (0, 1)
  | .outcomeReports => (0, 1)
  | .holdCap => (1, 120)
  | .yieldBase => (500, 50000)
  | .windowWidth => (100, 2000)
  | .statusPeriod => (10, 1000)

/-- A value outside its option's range. -/
def optionFails (x : OptionName × Nat) : Bool :=
  decide (x.2 < (optionRange x.1).1) || decide ((optionRange x.1).2 < x.2)

/-- The place of the first named option, in table order, whose value lies outside its range (R176). -/
def optionsFailure (values : List (OptionName × Nat)) : Option Nat :=
  (allOptions.find? (fun o => values.any (fun x => x.1 == o && optionFails x))).map optionPlace

/-- One option set; holdCap is held in ticks (R176). -/
def Options.set (o : Options) (x : OptionName × Nat) : Options :=
  match x.1 with
  | .lateTolerance => { o with lateTolerance := x.2 }
  | .lookAhead => { o with lookAhead := x.2 }
  | .dynamicsScale => { o with dynamicsScale := x.2 }
  | .verify => { o with verify := x.2 == 1 }
  | .adaptiveTrim => { o with adaptiveTrim := x.2 == 1 }
  | .outcomeReports => { o with outcomeReports := x.2 == 1 }
  | .holdCap => { o with holdCap := x.2 * ticksPerSecond }
  | .yieldBase => { o with yieldBase := x.2 }
  | .windowWidth => { o with windowWidth := x.2 }
  | .statusPeriod => { o with statusPeriod := x.2 }

/-- Every named option set; a running status timer starts afresh when the status period changes (R176, R177). -/
def State.putOptions (s : State) (values : List (OptionName × Nat)) : State :=
  let o := values.foldl Options.set s.port.options
  let s1 := { s with port := { s.port with options := o } }
  if o.statusPeriod ≠ s.port.options.statusPeriod ∧ s.port.timer.isSome then s1.startTimer else s1

/-- SetOptions (R176). -/
def State.setOptions (s : State) (tag : Byte) (values : List (OptionName × Nat)) : State :=
  s.unlessRestoring tag 24 (fun s =>
    match optionsFailure values with
    | some place => s.reply tag 24 .range (.optionRange place s.port.options)
    | none =>
      let s1 := s.putOptions values
      s1.reply tag 24 .done (.options s1.port.options))

/-- ReadStatus (R177): the frame is made, the counters cleared if asked, and the frame offered (DEDUCED, log 21). -/
def State.readStatus (s : State) (tag : Byte) (clear : Nat) : State :=
  if 1 < clear then s.reply tag 25 .range (.field 1)
  else
    let s1 := if clear = 1 then { s with port := { s.port with counters := Vector.replicate 22 0 } } else s
    s1.offer (.status tag (s.statusRecord true))

/-- Restart (R179): answered Done, received frames no longer handed on; if the transmit side discards the Reply the reset
is taken at once. DEDUCED, log 26. -/
def State.takeRestart (s : State) (tag : Byte) : State :=
  s.unlessStoring tag 26 (fun s =>
    if s.queued < 64 then
      State.reply { s with port := { s.port with restart := .replying } } tag 26 .done .nothing
    else s.warmReset .restart)

/-! ### Calibration Store (R183, R184) -/

/-- The first failing field of a save range: a block above 36, the first before the last, then the pair (R183). DEDUCED,
log 24 and log 62. -/
def saveFailure (first last : Nat) : Option Nat :=
  if 36 < first then some 1 else if 36 < last then some 2 else if last < first then some 1 else none

/-- StoreSave (R183). -/
def State.storeSave (s : State) (tag : Byte) (first last : Nat) : State :=
  s.unlessStoring tag 27 (fun s =>
    if s.time.mode ≠ .idle then s.reply tag 27 .state .nothing
    else
      s.judged tag 27 (saveFailure first last) (fun s => (s.reply tag 27 .done .nothing).beginSave first last))

/-- StoreRestore (R184). -/
def State.storeRestore (s : State) (tag : Byte) : State :=
  s.unlessStoring tag 28 (fun s =>
    if s.time.mode ≠ .idle then s.reply tag 28 .state .nothing
    else (s.reply tag 28 .done .nothing).beginRestore .request)

end Sys2Proof.Machine
end

