-- ==== Sys2Proof/Machine/Port.lean ====
section
/-! DEFINITION. The Score Port Controller's traffic (11): received frames handed on (R169, R170, R173), sending (R171,
R179), the status timer (R177); and the acts of the part's own times: a tick (R1), a release end (R126). -/

namespace Sys2Proof.Machine

/-! ### Received frames -/

/-- A request of the transport or a SetMode: it waits for the next cycle start (R4, R173). -/
def Request.timed : Request → Bool
  | .setMode .. => true
  | .transportStart .. => true
  | .transportPause => true
  | .transportResume => true
  | .transportStop => true
  | .setCue .. => true
  | _ => false

/-- A request taken at once by its owner (R173). -/
def State.takeAtOnce (s : State) (tag : Byte) (r : Request) : State :=
  match r with
  | .linkStart => s.linkStart tag
  | .linkStop => s.linkStop tag
  | .drivePermit => s.drivePermit tag
  | .readRoster => s.readRoster tag
  | .clearKeyFault key => s.clearKeyFault tag key
  | .writeKeySense type number first second third => s.writeKeySense tag type number first second third
  | .readKeySense type number => s.readKeySense tag type number
  | .writeDescriptor set voice fields => s.writeDescriptor tag set voice fields
  | .readDescriptor set voice => s.readDescriptor tag set voice
  | .writePage slot page => s.writePage tag slot page
  | .readPage slot => s.readPage tag slot
  | .selectVoicing set => s.selectVoicing tag set
  | .invalidateVoice voice => s.invalidateVoice tag voice
  | .invalidateAll => s.invalidateAll tag
  | .calibrateQueue job => s.calibrateQueue tag job
  | .calibrateAbort => s.calibrateAbort tag
  | .setProfile fields => s.setProfile tag fields
  | .setOptions values => s.setOptions tag values
  | .readStatus clear => s.readStatus tag clear
  | .restart => s.takeRestart tag
  | .storeSave first last => s.storeSave tag first last
  | .storeRestore => s.storeRestore tag
  | .setMode _ => s
  | .transportStart _ => s
  | .transportPause => s
  | .transportResume => s
  | .transportStop => s
  | .setCue _ _ => s

/-- A Request frame's payload judged, and the request answered, taken or left waiting (R173). DESIGN CHOICE, log 12. The reason
Length is one byte of 0 for every request, a WritePage among them (DEDUCED, log 45). -/
def State.takeRequest (s : State) (tag : Byte) (payload : List Byte) : State :=
  match readRequest payload with
  | .unknown code => s.reply tag code .unknown (.code code)
  | .badLength code => s.reply tag code .range (.field 0)
  | .good r =>
    if Request.timed r then s.setTime { s.time with waiting := s.time.waiting ++ [(tag, r)] } else s.takeAtOnce tag r

/-- An Events frame's records, judged against the mode held (R170). -/
def State.takeEvents (s : State) (records : List EventRecord) : State :=
  if s.time.mode = .replay ∨ s.time.mode = .duplex then records.foldl State.takeRecord s
  else s.bumpTimes .intakeOverrun records.length

/-- A frame whose receipt is complete (R169, R170). -/
def State.takeFrame (s : State) (f : Frame) : State :=
  s.heard (fun s =>
    match f with
    | .bad => s.bump .frameErrors
    | .events _ records => s.takeEvents records
    | .request tag payload => s.takeRequest tag payload)

/-- The receive side's bytes replaced. -/
def State.setReceived (s : State) (l : List Byte) : State := { s with port := { s.port with received := l } }

/-- A frame that resets the part in its own event: a Restart whose Reply finds no room (R179). -/
def State.resetsAtOnce (s : State) : Frame → Bool
  | .request _ payload =>
    readRequest payload == .good .restart && s.port.restart == .none && !s.storeBusy && decide (64 ≤ s.queued)
  | _ => false

/-- A complete frame handed on, and the hunt going on in the bytes left to it (R169, R170); behind a reset it begins anew, and what
was received before is lost (R169, R180). -/
def State.handOn (s : State) (f : Frame) (rest : List Byte) : State :=
  let t := (s.setReceived []).takeFrame f
  if s.resetsAtOnce f then t else t.setReceived rest

/-- Every frame whose receipt is complete in the bytes held, judged and taken in order (R169). -/
def State.takeFrames : Nat → State → State
  | 0, s => s
  | fuel + 1, s =>
    match hunt s.port.received with
    | (none, kept) => s.setReceived kept
    | (some body, _) =>
      match completeFrame body with
      | none => s.setReceived (126 :: 165 :: body)
      | some (f, rest) => State.takeFrames fuel (s.handOn f rest)

/-- One byte arriving on the Score Port (R169). -/
def State.receiveByte (s : State) (b : Byte) : State :=
  State.takeFrames (s.port.received.length + 2) (s.setReceived (s.port.received ++ [b]))

/-- Bytes arriving on the Score Port, one after the other (R169). -/
def State.receiveBytes (s : State) (bytes : List Byte) : State := bytes.foldl State.receiveByte s

/-- An Events frame complete with its records: the receive side hunts again (R169, R170; DESIGN CHOICE, log 22). -/
def State.receiveEvents (s : State) (tag : Byte) (records : List EventRecord) : State :=
  (s.setReceived []).takeFrame
    (if records.length = 0 ∨ 30 < records.length then .bad else .events tag records)

/-- A Request frame complete with its payload: the receive side hunts again (R169, R173; DESIGN CHOICE, log 22). -/
def State.receiveRequest (s : State) (tag : Byte) (payload : List Byte) : State :=
  (s.setReceived []).takeFrame
    (if payload.length = 0 ∨ 240 < payload.length then .bad else .request tag payload)

/-! ### Sending (R171, R179) -/

/-- The Done Reply of a Restart. -/
def Upstream.answersRestart : Upstream → Bool
  | .reply _ request result _ => request == 26 && result == .done
  | _ => false

/-- TRANSMIT_COMPLETE: the frame being sent leaves the queue and the next begins (R171); behind a Restart's Reply comes
the reset (R179). -/
def State.transmitDone (s : State) : State :=
  match s.port.line, s.port.queue with
  | some _, f :: rest =>
    let restart := if s.port.restart = .replying ∧ f.answersRestart then .due else s.port.restart
    State.beginSending { s with port := { s.port with queue := rest, line := none, restart := restart } }
  | _, _ => s

/-- RESTART_RESET: the warm reset of a Restart whose Reply has been sent (R179). -/
def State.restartReset (s : State) : State := if s.port.restart = .due then s.warmReset .restart else s

/-! ### Times -/

/-- STATUS_PERIOD_EXPIRY (R171, R177). -/
def State.statusExpiry (s : State) : State :=
  if s.port.timer.isSome then
    State.startTimer (if s.queued < 56 then s.hand (.status 0 (s.statusRecord false)) else s)
  else s

/-- RELEASE_END_EXPIRY of key k (R126): at the tick the release end names, in the cycle in progress, a Releasing key is
decided anew. DESIGN CHOICE, log 36. -/
def State.releaseExpiry (s : State) (k : Nat) : State :=
  match (s.driveOf k).releaseEnd with
  | none => s
  | some t =>
    if (s.driveOf k).state = .releasing ∧ t ≤ s.startTick + 19 then
      State.redecide (s.setTime { s.time with tick := max s.time.tick (t - s.startTick) }) k
    else s

/-- YIELD_WAIT_END of key k (R153). DEDUCED, log 27. -/
def State.yieldExpiry (s : State) (k : Nat) : State := if s.yieldDue k then s.endYield k else s

/-- One tick of the cycle in progress passes; the twentieth is its last (R1, DESIGN CHOICE, log 2). -/
def State.passTick (s : State) : State := s.setTime { s.time with tick := min 19 (s.time.tick + 1) }

end Sys2Proof.Machine
end

