-- ==== Sys2Proof/Machine/ResetCommands.lean ====
section
/-! DEFINITION. The meanings of the commands of one family: the resets (R178, R179). -/

namespace Sys2Proof.Machine

/-- POWER_ON: power is applied: a cold reset (R178, R184). -/
def execPowerOn (s : State) : Host.Outcome State Fault Refusal := .next (s.coldReset .powerOn)

/-- COLD_RESET_SUPPLY_LOW: the part's own supply falls below its threshold: a cold reset (R178, R184). -/
def execColdResetSupplyLow (s : State) : Host.Outcome State Fault Refusal := .next (s.coldReset .supplyLow)

/-- RESET_PIN: the reset pin: a warm reset (R178). -/
def execResetPin (s : State) : Host.Outcome State Fault Refusal := .next (s.warmReset .pin)

/-- RESTART_RESET: the reset of a Restart whose Reply has been sent (R179). -/
def execRestartReset (s : State) : Host.Outcome State Fault Refusal := .next (s.restartReset)

end Sys2Proof.Machine
end

