-- ==== Sys2Proof/Machine/CycleCommands.lean ====
section
/-! DEFINITION. The meanings of the commands of one family: the cycle start and what is taken at cycle starts (R1 to R14, R145, R157). -/

namespace Sys2Proof.Machine

/-- CYCLE_START: a cycle start, its acts taken in the order given (R1, R4, R18; DESIGN CHOICE, log 3). -/
def execCycleStart (order : List StartAction) (s : State) : Host.Outcome State Fault Refusal :=
  .next (s.cycleStart order)

/-- TRANSPORT_START: R5. -/
def execTransportStart (tag : Byte) (preroll : Nat) (s : State) : Host.Outcome State Fault Refusal :=
  .next (s.transportStart tag preroll)

/-- TRANSPORT_PAUSE: R6. -/
def execTransportPause (tag : Byte) (s : State) : Host.Outcome State Fault Refusal := .next (s.transportPause tag)

/-- TRANSPORT_RESUME: R9. -/
def execTransportResume (tag : Byte) (s : State) : Host.Outcome State Fault Refusal :=
  .next (s.transportResume tag)

/-- TRANSPORT_STOP: R10. -/
def execTransportStop (tag : Byte) (s : State) : Host.Outcome State Fault Refusal := .next (s.transportStop tag)

/-- SET_CUE: R12. -/
def execSetCue (tag : Byte) (presence : Nat) (tick : Nat) (s : State) : Host.Outcome State Fault Refusal :=
  .next (s.takeCue tag presence tick)

/-- SET_MODE: R14. -/
def execSetMode (tag : Byte) (mode : Nat) (s : State) : Host.Outcome State Fault Refusal :=
  .next (s.takeMode tag mode)

/-- PAUSE_LINK_LEFT: R8. -/
def execPauseLinkLeft (s : State) : Host.Outcome State Fault Refusal := .next (s.linkLeftPause)

/-- CUE_REACHED: R12. -/
def execCueReached (s : State) : Host.Outcome State Fault Refusal := .next (s.reachCue)

/-- END_TICK: R11. -/
def execEndTick (s : State) : Host.Outcome State Fault Refusal := .next (s.reachEnd)

/-- CLOCK_END: R3. -/
def execClockEnd (s : State) : Host.Outcome State Fault Refusal := .next (s.reachClockEnd)

/-- WINDOW_EXPIRY: R145, R161. -/
def execWindowExpiry (key : Nat) (s : State) : Host.Outcome State Fault Refusal := .next (s.expireWindow key)

/-- JOB_START: R157. -/
def execJobStart (s : State) : Host.Outcome State Fault Refusal := .next (s.startJob)

/-- RECOVERY_LIMIT_EXPIRY: R29. -/
def execRecoveryLimitExpiry (s : State) : Host.Outcome State Fault Refusal := .next (s.expireRecovery)

end Sys2Proof.Machine
end

