-- ==== Sys2Proof/Machine/LinkCommands.lean ====
section
/-! DEFINITION. The meanings of the commands of one family: returns and the requests of the Action Link Controller (R21, R24, R28, R32, R45). -/

namespace Sys2Proof.Machine

/-- RETURN_FRAME: a frame, its delimiter removed, arrives `elapsed` µs after the send (R21). -/
def execReturnFrame (elapsed : Nat) (bytes : List Byte) (s : State) : Host.Outcome State Fault Refusal :=
  .next (s.takeReturn elapsed bytes)

/-- RETURN_EXPIRY: R21, R23. -/
def execReturnExpiry (s : State) : Host.Outcome State Fault Refusal := .next (s.expireReturn)

/-- LINK_START: R24. -/
def execLinkStart (tag : Byte) (s : State) : Host.Outcome State Fault Refusal :=
  .next (s.heard (fun s => s.linkStart tag))

/-- LINK_STOP: R24. -/
def execLinkStop (tag : Byte) (s : State) : Host.Outcome State Fault Refusal :=
  .next (s.heard (fun s => s.linkStop tag))

/-- DRIVE_PERMIT: R28. -/
def execDrivePermit (tag : Byte) (s : State) : Host.Outcome State Fault Refusal :=
  .next (s.heard (fun s => s.drivePermit tag))

/-- READ_ROSTER: R32, R50. -/
def execReadRoster (tag : Byte) (s : State) : Host.Outcome State Fault Refusal :=
  .next (s.heard (fun s => s.readRoster tag))

/-- CLEAR_KEY_FAULT: R45. -/
def execClearKeyFault (tag : Byte) (key : Nat) (s : State) : Host.Outcome State Fault Refusal :=
  .next (s.heard (fun s => s.clearKeyFault tag key))

end Sys2Proof.Machine
end

