-- ==== Sys2Proof/Machine/ReplayCommands.lean ====
section
/-! DEFINITION. The meanings of the commands of one family: admission, walks and the ends of release and yield (R98, R99, R122, R126, R153). -/

namespace Sys2Proof.Machine

/-- RELEASE_END_EXPIRY: R126. -/
def execReleaseEndExpiry (key : Nat) (s : State) : Host.Outcome State Fault Refusal := .next (s.releaseExpiry key)

/-- YIELD_WAIT_END: R153. -/
def execYieldWaitEnd (key : Nat) (s : State) : Host.Outcome State Fault Refusal := .next (s.yieldExpiry key)

/-- ADMIT_RECORD: one test of the intake's head (R122). -/
def execAdmitRecord (s : State) : Host.Outcome State Fault Refusal := .next (s.testHead)

/-- WALK_DESCRIPTOR_READ: R98, and R100 for its second taking; DESIGN CHOICE, log 49. -/
def execWalkDescriptorRead (s : State) : Host.Outcome State Fault Refusal := .next (s.walkRead)

/-- WALK_COMPLETE: R98, R99. -/
def execWalkComplete (s : State) : Host.Outcome State Fault Refusal := .next (s.walkEnd)

end Sys2Proof.Machine
end

