-- ==== Sys2Proof/Machine/PortCommands.lean ====
section
/-! DEFINITION. The meanings of the commands of one family: frames of the Score Port, its sending and its timer (R169 to R171, R173, R177), and the requests of its controller (R175 to R177, R179). -/

namespace Sys2Proof.Machine

/-- EVENTS_FRAME: R170. -/
def execEventsFrame (tag : Byte) (records : List EventRecord) (s : State) : Host.Outcome State Fault Refusal :=
  .next (s.receiveEvents tag records)

/-- FRAME_ERRORS: bytes arrive on the Score Port (R169). -/
def execFrameErrors (bytes : List Byte) (s : State) : Host.Outcome State Fault Refusal :=
  .next (s.receiveBytes bytes)

/-- REQUEST_FRAME: R173. -/
def execRequestFrame (tag : Byte) (payload : List Byte) (s : State) : Host.Outcome State Fault Refusal :=
  .next (s.receiveRequest tag payload)

/-- TRANSMIT_COMPLETE: R171, R179. -/
def execTransmitComplete (s : State) : Host.Outcome State Fault Refusal := .next (s.transmitDone)

/-- STATUS_PERIOD_EXPIRY: R177. -/
def execStatusPeriodExpiry (s : State) : Host.Outcome State Fault Refusal := .next (s.statusExpiry)

/-- SET_PROFILE: R175. -/
def execSetProfile (tag : Byte) (fields : RawProfile) (s : State) : Host.Outcome State Fault Refusal :=
  .next (s.heard (fun s => s.setProfile tag fields))

/-- SET_OPTIONS: R176. -/
def execSetOptions (tag : Byte) (values : List (OptionName × Nat)) (s : State) : Host.Outcome State Fault Refusal :=
  .next (s.heard (fun s => s.setOptions tag values))

/-- READ_STATUS: R177. -/
def execReadStatus (tag : Byte) (clear : Nat) (s : State) : Host.Outcome State Fault Refusal :=
  .next (s.heard (fun s => s.readStatus tag clear))

/-- RESTART: R179. -/
def execRestart (tag : Byte) (s : State) : Host.Outcome State Fault Refusal :=
  .next (s.heard (fun s => s.takeRestart tag))

end Sys2Proof.Machine
end

