-- ==== Sys2Proof/Machine/TableCommands.lean ====
section
/-! DEFINITION. The meanings of the commands of one family: the requests of Table Memory, the Voice Cache and the Calibration Sequencer (R54, R87, R88, R92, R93, R95, R102, R103, R156, R166). -/

namespace Sys2Proof.Machine

/-- WRITE_KEY_SENSE: R54. -/
def execWriteKeySense (tag : Byte) (type : Nat) (number : Nat) (first : Nat) (second : Nat) (third : Nat)
    (s : State) : Host.Outcome State Fault Refusal :=
  .next (s.heard (fun s => s.writeKeySense tag type number first second third))

/-- READ_KEY_SENSE: R54. -/
def execReadKeySense (tag : Byte) (type : Nat) (number : Nat) (s : State) : Host.Outcome State Fault Refusal :=
  .next (s.heard (fun s => s.readKeySense tag type number))

/-- WRITE_DESCRIPTOR: R87. -/
def execWriteDescriptor (tag : Byte) (set : Nat) (voice : Nat) (fields : RawDescriptor)
    (s : State) : Host.Outcome State Fault Refusal :=
  .next (s.heard (fun s => s.writeDescriptor tag set voice fields))

/-- READ_DESCRIPTOR: R88. -/
def execReadDescriptor (tag : Byte) (set : Nat) (voice : Nat) (s : State) : Host.Outcome State Fault Refusal :=
  .next (s.heard (fun s => s.readDescriptor tag set voice))

/-- WRITE_PAGE: R92. -/
def execWritePage (tag : Byte) (slot : Nat) (page : RawPage) (s : State) : Host.Outcome State Fault Refusal :=
  .next (s.heard (fun s => s.writePage tag slot page))

/-- READ_PAGE: R93. -/
def execReadPage (tag : Byte) (slot : Nat) (s : State) : Host.Outcome State Fault Refusal :=
  .next (s.heard (fun s => s.readPage tag slot))

/-- SELECT_VOICING: R95. -/
def execSelectVoicing (tag : Byte) (set : Nat) (s : State) : Host.Outcome State Fault Refusal :=
  .next (s.heard (fun s => s.selectVoicing tag set))

/-- INVALIDATE_VOICE: R102. -/
def execInvalidateVoice (tag : Byte) (voice : Nat) (s : State) : Host.Outcome State Fault Refusal :=
  .next (s.heard (fun s => s.invalidateVoice tag voice))

/-- INVALIDATE_ALL: R103. -/
def execInvalidateAll (tag : Byte) (s : State) : Host.Outcome State Fault Refusal :=
  .next (s.heard (fun s => s.invalidateAll tag))

/-- CALIBRATE_QUEUE: R156. -/
def execCalibrateQueue (tag : Byte) (job : Job) (s : State) : Host.Outcome State Fault Refusal :=
  .next (s.heard (fun s => s.calibrateQueue tag job))

/-- CALIBRATE_ABORT: R166. -/
def execCalibrateAbort (tag : Byte) (s : State) : Host.Outcome State Fault Refusal :=
  .next (s.heard (fun s => s.calibrateAbort tag))

end Sys2Proof.Machine
end

