-- ==== Sys2Proof/Machine/StoreCommands.lean ====
section
/-! DEFINITION. The meanings of the commands of one family: the Calibration Store's requests and operations (R183, R184). -/

namespace Sys2Proof.Machine

/-- STORE_SAVE: R183. -/
def execStoreSave (tag : Byte) (first : Nat) (last : Nat) (s : State) : Host.Outcome State Fault Refusal :=
  .next (s.heard (fun s => s.storeSave tag first last))

/-- STORE_RESTORE: R184. -/
def execStoreRestore (tag : Byte) (s : State) : Host.Outcome State Fault Refusal :=
  .next (s.heard (fun s => s.storeRestore tag))

/-- STORE_ERASE_COMPLETE: R183. -/
def execStoreEraseComplete (s : State) : Host.Outcome State Fault Refusal := .next (s.eraseDone)

/-- STORE_PROGRAM_COMPLETE: R183, DESIGN CHOICE, log 9. -/
def execStoreProgramComplete (medium : Option StoreBlock) (s : State) : Host.Outcome State Fault Refusal :=
  .next (s.programDone medium)

/-- STORE_VERIFY_COMPLETE: R183. -/
def execStoreVerifyComplete (s : State) : Host.Outcome State Fault Refusal := .next (s.verifyDone)

/-- STORE_READ_COMPLETE: R184. -/
def execStoreReadComplete (s : State) : Host.Outcome State Fault Refusal := .next (s.readDone)

end Sys2Proof.Machine
end

