-- ==== Sys2Proof/Machine/Dispatch.lean ====
section
/-! DEFINITION. The meaning of every command: one arm for each constructor of Instr. -/

namespace Sys2Proof.Machine

def exec (i : Instr) (s : State) : Host.Outcome State Fault Refusal :=
  match i with
  | .powerOn => Sys2Proof.Machine.execPowerOn s
  | .coldResetSupplyLow => Sys2Proof.Machine.execColdResetSupplyLow s
  | .resetPin => Sys2Proof.Machine.execResetPin s
  | .restartReset => Sys2Proof.Machine.execRestartReset s
  | .cycleStart order => Sys2Proof.Machine.execCycleStart order s
  | .transportStart tag preroll => Sys2Proof.Machine.execTransportStart tag preroll s
  | .transportPause tag => Sys2Proof.Machine.execTransportPause tag s
  | .transportResume tag => Sys2Proof.Machine.execTransportResume tag s
  | .transportStop tag => Sys2Proof.Machine.execTransportStop tag s
  | .setCue tag presence tick => Sys2Proof.Machine.execSetCue tag presence tick s
  | .setMode tag mode => Sys2Proof.Machine.execSetMode tag mode s
  | .pauseLinkLeft => Sys2Proof.Machine.execPauseLinkLeft s
  | .cueReached => Sys2Proof.Machine.execCueReached s
  | .endTick => Sys2Proof.Machine.execEndTick s
  | .clockEnd => Sys2Proof.Machine.execClockEnd s
  | .releaseEndExpiry key => Sys2Proof.Machine.execReleaseEndExpiry key s
  | .returnFrame elapsed bytes => Sys2Proof.Machine.execReturnFrame elapsed bytes s
  | .returnExpiry => Sys2Proof.Machine.execReturnExpiry s
  | .recoveryLimitExpiry => Sys2Proof.Machine.execRecoveryLimitExpiry s
  | .yieldWaitEnd key => Sys2Proof.Machine.execYieldWaitEnd key s
  | .windowExpiry key => Sys2Proof.Machine.execWindowExpiry key s
  | .jobStart => Sys2Proof.Machine.execJobStart s
  | .admitRecord => Sys2Proof.Machine.execAdmitRecord s
  | .walkDescriptorRead => Sys2Proof.Machine.execWalkDescriptorRead s
  | .walkComplete => Sys2Proof.Machine.execWalkComplete s
  | .eventsFrame tag records => Sys2Proof.Machine.execEventsFrame tag records s
  | .frameErrors bytes => Sys2Proof.Machine.execFrameErrors bytes s
  | .requestFrame tag payload => Sys2Proof.Machine.execRequestFrame tag payload s
  | .transmitComplete => Sys2Proof.Machine.execTransmitComplete s
  | .statusPeriodExpiry => Sys2Proof.Machine.execStatusPeriodExpiry s
  | .linkStart tag => Sys2Proof.Machine.execLinkStart tag s
  | .linkStop tag => Sys2Proof.Machine.execLinkStop tag s
  | .drivePermit tag => Sys2Proof.Machine.execDrivePermit tag s
  | .readRoster tag => Sys2Proof.Machine.execReadRoster tag s
  | .clearKeyFault tag key => Sys2Proof.Machine.execClearKeyFault tag key s
  | .writeKeySense tag type number first second third => Sys2Proof.Machine.execWriteKeySense tag type number first second third s
  | .readKeySense tag type number => Sys2Proof.Machine.execReadKeySense tag type number s
  | .writeDescriptor tag set voice fields => Sys2Proof.Machine.execWriteDescriptor tag set voice fields s
  | .readDescriptor tag set voice => Sys2Proof.Machine.execReadDescriptor tag set voice s
  | .writePage tag slot page => Sys2Proof.Machine.execWritePage tag slot page s
  | .readPage tag slot => Sys2Proof.Machine.execReadPage tag slot s
  | .selectVoicing tag set => Sys2Proof.Machine.execSelectVoicing tag set s
  | .invalidateVoice tag voice => Sys2Proof.Machine.execInvalidateVoice tag voice s
  | .invalidateAll tag => Sys2Proof.Machine.execInvalidateAll tag s
  | .calibrateQueue tag job => Sys2Proof.Machine.execCalibrateQueue tag job s
  | .calibrateAbort tag => Sys2Proof.Machine.execCalibrateAbort tag s
  | .setProfile tag fields => Sys2Proof.Machine.execSetProfile tag fields s
  | .setOptions tag values => Sys2Proof.Machine.execSetOptions tag values s
  | .readStatus tag clear => Sys2Proof.Machine.execReadStatus tag clear s
  | .restart tag => Sys2Proof.Machine.execRestart tag s
  | .storeSave tag first last => Sys2Proof.Machine.execStoreSave tag first last s
  | .storeRestore tag => Sys2Proof.Machine.execStoreRestore tag s
  | .storeEraseComplete => Sys2Proof.Machine.execStoreEraseComplete s
  | .storeProgramComplete medium => Sys2Proof.Machine.execStoreProgramComplete medium s
  | .storeVerifyComplete => Sys2Proof.Machine.execStoreVerifyComplete s
  | .storeReadComplete => Sys2Proof.Machine.execStoreReadComplete s

end Sys2Proof.Machine
end

