-- ==== Sys2Proof/Machine/Station.lean ====
section
/-! DEFINITION. The stations' side of the link protocol (R17, R20, R41, R42). The part holds none of this state and
enforces none of it (03, 3.2); these functions say what a station that obeys the manual makes of a frame. -/

namespace Sys2Proof.Machine

/-! ### A frame on the ring (R17) -/

/-- A section on the ring: still Command, or replaced by its station (02, 2.3). -/
inductive RingSection
  | command (commands : List Command)
  | report (content : SectionReport)
deriving DecidableEq, Repr

/-- A frame between two stations. -/
structure RingFrame where
  cycle : Nat
  state : LinkState
  position : Nat
  echo : Echo
  slow : Byte
  slot : List Byte
  sections : List RingSection
deriving DecidableEq, Repr

/-- The frame as the part sends it: position 0, notice slot empty, every section Command (R18). -/
def CycleFrame.onRing (f : CycleFrame) : RingFrame :=
  { cycle := f.cycle, state := f.state, position := 0, echo := f.echo, slow := f.slow, slot := List.replicate 6 0,
    sections := f.sections.map .command }

/-- The gate code of a gate. -/
def Gate.code : Gate → Nat
  | .kr => 1 | .kd => 2 | .h1 => 3 | .h2 => 4

/-- A crossing's 3 bytes (02, 2.3). -/
def Crossing.bytes (c : Crossing) : List Byte :=
  numBytes 1 c.key ++ numBytes 1 ((c.gate.map Gate.code).getD 0 + if c.back then 128 else 0) ++ numBytes 1 c.fine

/-- A Report section (02, 2.3). -/
def SectionReport.bytes (r : SectionReport) : List Byte :=
  2 :: listBytes Crossing.bytes r.crossings ++ listBytes (numBytes 2) r.pedals ++ [r.slow] ++ flagByte r.lost

/-- A section's bytes. -/
def RingSection.bytes : RingSection → List Byte
  | .command commands => sectionBytes commands
  | .report content => content.bytes

/-- What the check covers. -/
def RingFrame.body (f : RingFrame) : List Byte :=
  numBytes 4 f.cycle ++ numBytes 1 f.state.code ++ numBytes 1 f.position ++ f.echo.bytes ++ [f.slow] ++ f.slot ++
    f.sections.flatMap RingSection.bytes

/-- The frame behind its delimiter, its check recomputed (R17). -/
def RingFrame.bytes (f : RingFrame) : List Byte := f.body ++ crcBytes (crc16 f.body)

/-! ### Writing the notice slot (R41) -/

/-- A notice's six bytes with their check (03, 3.1). -/
def Notice.slot (n : Notice) : List Byte :=
  let l := numBytes 1 n.station ++ numBytes 1 n.kind ++ numBytes 1 n.key ++ numBytes 1 n.gate
  l ++ crcBytes (crc16 l)

/-- A contending station's writing: its notice into an empty slot; into a written one the complement of the check of what
it finds (R41). -/
def contendSlot (n : Notice) (slot : List Byte) : List Byte :=
  if slot.all (fun b => b == 0) then n.slot else slot.take 4 ++ crcBytes (~~~ crc16 (slot.take 4))

/-- A station that found the check good handles the frame: its section replaced, the slot written if it contends, the
position one more (R17). -/
def RingFrame.handled (f : RingFrame) (station : Nat) (content : SectionReport) (notice : Option Notice) : RingFrame :=
  { f with
    position := f.position + 1, sections := f.sections.set (station - 1) (.report content),
    slot := match notice with
      | none => f.slot
      | some n => contendSlot n f.slot }

/-! ### Access to the slot (R42) -/

/-- A notice kind of the class Urgent (03, 3.2). -/
def NoticeKind.urgent : NoticeKind → Bool
  | .coilOvercurrent => true
  | .coilOpen => true
  | .supplyLow => true
  | .overTemperature => true
  | .supplyRestored => false
  | .overTemperatureClear => false
  | .sensorBlinded => false
  | .sensorRestored => false
  | .rejoin => false

/-- A pending notice and its class. -/
structure Pending where
  notice : Notice
  urgent : Bool
deriving DecidableEq, Repr

/-- A station's record of the access protocol (03, 3.2). -/
structure SlotRecord where
  station : Nat
  pending : List Pending
  idles : Nat
  backoff : Nat
  urgentRaised : Bool
  routineRaised : Bool
  wrote : Bool
deriving DecidableEq, Repr

/-- The threshold of a class (03, table of 3.2). -/
def SlotRecord.threshold (r : SlotRecord) (urgent : Bool) : Nat :=
  if urgent then (if r.urgentRaised then 9 else 8) else (if r.routineRaised then 11 else 10)

/-- Steps 1 to 3 of R42 on an echo. -/
def SlotRecord.hear (r : SlotRecord) (e : Echo) : SlotRecord :=
  let r1 :=
    match r.wrote, r.pending with
    | true, p :: rest =>
      if e = Echo.accepted r.station then
        { r with pending := rest, urgentRaised := r.urgentRaised || p.urgent, routineRaised := r.routineRaised || !p.urgent }
      else if e = Echo.collision then { r with backoff := r.station }
      else r
    | _, _ => r
  let r2 := { r1 with wrote := false }
  if e ≠ Echo.idle then { r2 with idles := 0 }
  else if 0 < r2.backoff then { r2 with backoff := r2.backoff - 1 }
  else { r2 with idles := r2.idles + 1 }

/-- Thresholds return to base at the raised threshold's count (R42, 3). -/
def SlotRecord.settle (r : SlotRecord) : SlotRecord :=
  { r with urgentRaised := r.urgentRaised && decide (r.idles < 9), routineRaised := r.routineRaised && decide (r.idles < 11) }

/-- Step 4 of R42: the head notice is written when the backoff is 0 and the count has reached its threshold. -/
def SlotRecord.decide (r : SlotRecord) : SlotRecord × Option Notice :=
  match r.pending with
  | [] => (r, none)
  | p :: _ =>
    if r.backoff = 0 ∧ r.threshold p.urgent ≤ r.idles then ({ r with wrote := true, idles := 0 }, some p.notice)
    else (r, none)

/-- Where a notice stands among the pending ones: a Rejoin first, then Urgent, then Routine (R42). -/
def Pending.rank (p : Pending) : Nat :=
  if noticeKind p.notice.kind = some .rejoin then 0 else if p.urgent then 1 else 2

/-- `x` stands before a new notice `p` (R42). -/
def Pending.before (p x : Pending) : Bool := decide (x.rank ≤ p.rank)

/-- A new notice placed behind every one of its rank or before it, the oldest of a class standing first (R42). -/
def SlotRecord.post (r : SlotRecord) (p : Pending) : SlotRecord :=
  { r with pending := r.pending.takeWhile (Pending.before p) ++
      p :: r.pending.dropWhile (Pending.before p) }

/-- A station after its own restart: counts 0, thresholds base, a Rejoin at the head and its standing notices behind it
(R42). -/
def SlotRecord.restarted (station : Nat) (standing : List Pending) : SlotRecord :=
  standing.foldl SlotRecord.post
    { station := station, idles := 0, backoff := 0, urgentRaised := false, routineRaised := false, wrote := false,
      pending := [{ notice := { station := station, kind := 9, key := 0, gate := 0 }, urgent := false }] }

/-- The echo of a frame handled (R42). -/
def SlotRecord.frame (r : SlotRecord) (e : Echo) : SlotRecord × Option Notice := ((r.hear e).settle).decide

/-! ### Carrying out commands (R19, R20) -/

/-- A station takes a command of a frame by its link state code; `marked` says that the presence map of the ring record
marks it (R19, R20). DESIGN CHOICE, log 29. -/
def stationTakes (state : LinkState) (marked : Bool) (kind : CommandKind) : Bool :=
  match state with
  | .down => false
  | .waking => false
  | .aligning => false
  | .ready => kind == .off
  | .lost => kind == .off
  | .driving => marked || kind == .off

/-- The drive guard: three consecutive cycle periods without a valid frame turn every solenoid off (R20). -/
def guardTrips (periods : Nat) : Bool := decide (3 ≤ periods)

/-- What a frame's state code does to a station's solenoids: WAKING and ALIGNING turn them off (R20). -/
def stateSilences (state : LinkState) : Bool := state == .waking || state == .aligning

/-- The tick, counted from the arrival of the frame of cycle n, at which a command of the frame of cycle n is applied:
two periods of 20 ticks and its fine offset (R20). -/
def applyTick (c : Command) : Nat := 40 + c.fine

/-- A command a station does not disregard by its target: a key within keyCount and its own range, or a pedal it serves
(R19). -/
def stationServes (keyCount firstKey lastKey pedals : Nat) (c : Command) : Bool :=
  if c.kind = .pedalSet then servesPedal pedals c.target
  else decide (1 ≤ c.target) && decide (c.target ≤ keyCount) && decide (firstKey ≤ c.target) && decide (c.target ≤ lastKey)

/-- A solenoid: its level, and for an Attack the tick at which the hold level follows (R20). -/
structure Coil where
  level : Nat
  holdFrom : Option Nat
  holdLevel : Nat
deriving DecidableEq, Repr

/-- An undriven solenoid. -/
def Coil.off : Coil := { level := 0, holdFrom := none, holdLevel := 0 }

/-- What a command applied at a tick makes of its solenoid (R20). -/
def Coil.applied (now : Nat) (c : Command) : Coil :=
  match c.kind with
  | .off => Coil.off
  | .attack => { level := c.level, holdFrom := some (now + c.attack), holdLevel := c.holdLevel }
  | .hold => { level := c.level, holdFrom := none, holdLevel := 0 }
  | .pedalSet => { level := c.level, holdFrom := none, holdLevel := 0 }

/-- The level a solenoid is driven at (R20). -/
def Coil.levelAt (x : Coil) (now : Nat) : Nat :=
  match x.holdFrom with
  | none => x.level
  | some t => if now < t then x.level else x.holdLevel

end Sys2Proof.Machine
end

