-- ==== Sys2Proof/Safety.lean ====
section
/-! DEFINITION. The laws of the part: what the manual says holds of every state. They are the terms in which the
statements about steps are made. -/

namespace Sys2Proof.Machine

/-! ### Bounds (R75, R96, R121, R124, R125, R154, R156, R177) -/

/-- No counter is above 65535 (R177). -/
def State.countersBounded (s : State) : Prop := ∀ i : Fin 22, s.port.counters[i] ≤ 65535

/-- Every key's yield level lies in 0..2 (R154). -/
def State.yieldsBounded (s : State) : Prop := ∀ i : Fin 97, s.duplex.yields[i].level ≤ 2

/-- Every Note List holds at most 4 notes (R125). -/
def State.notesBounded (s : State) : Prop := ∀ i : Fin 97, s.sched.keys[i].notes.length ≤ 4

/-- The Capture Queue holds at most 256 events, in the order of R75. -/
def State.captureLawful (s : State) : Prop :=
  s.capture.events.length ≤ 256 ∧ s.capture.events.Pairwise (fun a b => b.before a = false)

/-- The Voice Cache holds at most 16 entries, no two for one voice, and none for the voice of a walk in flight (R96). -/
def State.cacheLawful (s : State) : Prop :=
  s.voices.entries.length ≤ 16 ∧ s.voices.entries.Pairwise (fun a b => a.voice ≠ b.voice) ∧
    ∀ w, s.voices.walk = some w → ∀ e ∈ s.voices.entries, e.voice ≠ w.voice

/-- The schedule's entries stand in the order of R124. -/
def State.scheduleOrdered (s : State) : Prop := s.sched.entries.Pairwise (fun a b => b.before a = false)

/-- Each id of a note names one note of one key: the entries that carry it are Attacks, Holds and Offs of that key, no two notes
of a key share it, and the next note's id is none of them (R130, R134: an entry belongs to the note it was made with). -/
def State.notesNamed (s : State) : Prop :=
  (∀ e ∈ s.sched.entries, ∀ id, e.note = some id → id < s.sched.nextNote ∧ e.ofKey e.target = true) ∧
    (∀ a ∈ s.sched.entries, ∀ b ∈ s.sched.entries, a.note.isSome = true → a.note = b.note → a.target = b.target) ∧
    ∀ i : Fin 97, (s.sched.keys[i].notes.map Note.id).Nodup ∧ ∀ n ∈ s.sched.keys[i].notes, n.id < s.sched.nextNote

/-- The mode takes Events frames (R15). -/
def Mode.replays (m : Mode) : Bool := m == .replay || m == .duplex

/-- The bounds of the intake (R121), the schedule (R124) and the job queue (R156), with what keeps them: records only in
Replay and Duplex, jobs run only in Calibrate, and a walk in flight for a record that had room (R122). -/
def State.capacityLawful (s : State) : Prop :=
  s.intake.length ≤ 64 ∧ s.sched.entries.length ≤ 512 ∧ s.calib.queue.length ≤ 16 ∧
    (s.intake ≠ [] → s.time.mode.replays = true) ∧ (s.calib.current.isSome = true → s.time.mode = .calibrate) ∧
    (s.voices.walk.isSome = true → ∃ r rest, s.intake = r :: rest ∧ s.sched.entries.length + recordNeeds r.kind ≤ 512)

/-! ### Table Memory and the store (R53, R90, R91, R182, R185) -/

/-- Every descriptor passes the field tests of R87, every page slot is empty or holds a valid page (R91), every Key Sense
entry lies in its ranges (R53). -/
def TableMemory.lawful (m : TableMemory) : Prop :=
  (∀ i : Fin 4, ∀ j : Fin 128, descriptorValid m.sets[i][j] = true) ∧
    (∀ i : Fin 32, ∀ j : Fin 16, m.pages[i][j].all pageValid = true) ∧
    (∀ i : Fin 97, keySenseFailure m.sense.keys[i] = none) ∧ (∀ i : Fin 3, pedalSenseFailure m.sense.pedals[i] = none)

/-- While no take is in progress, and in the modes without drive: nothing is scheduled, expected, walked or struck by a
job. Records are held only in Replay and Duplex, a job is current only in Calibrate, and in Idle the transport is Stopped
(R10, R14, R15, R185). -/
def State.restLawful (s : State) : Prop :=
  (s.time.mode = .idle → s.time.transport = .stopped) ∧
    (s.time.mode.drives = false ∨ s.time.transport = .stopped →
      s.sched.entries = [] ∧ s.duplex.windows = Vector.replicate 97 none ∧ s.voices.walk = none ∧ s.calib.current = none) ∧
    (s.time.mode.replays = false → s.intake = []) ∧ (s.calib.current.isSome = true → s.time.mode = .calibrate)

/-- While a store operation is in flight the mode is Idle (R185). -/
def State.storeLawful (s : State) : Prop := (s.storeBusy = true → s.time.mode = .idle) ∧ s.restLawful

/-- A save in flight treats an unprotected block of its range, under the boundary in force (R182, R183). -/
def State.saveLawful (s : State) : Prop :=
  match s.store.op with
  | .save op => op.boundary = s.boundary ∧ op.block < op.boundary ∧ op.block ≤ op.last ∧ op.last ≤ 36
  | _ => True

/-! ### The clock (R2, R4, R9) -/

/-- Time Base: the link cycle and the tick in their ranges; a take base exactly while Running or Paused, a pause start
exactly while Paused; transport Stopped in Idle (R2, R5, R6, R10, R14). -/
def State.clockLawful (s : State) : Prop :=
  s.time.linkCycle < cycleModulus ∧ s.time.tick < 20 ∧ (s.time.takeBase.isSome = true ↔ s.time.transport ≠ .stopped) ∧
    (s.time.pauseStart.isSome = true ↔ s.time.transport = .paused) ∧
    (s.time.mode = .idle → s.time.transport = .stopped)

/-- A command list that carries nothing but Offs (R18). -/
def onlyOffs (sections : List (List Command)) : Bool := sections.all (fun l => l.all (fun c => c.kind == .off))

/-- The frame last built obeys the law of the link: outside DRIVING it carries Offs alone, and no section holds more than
24 commands (R18, R136). -/
def CycleFrame.lawful (f : CycleFrame) : Prop :=
  (f.state ≠ .driving → onlyOffs f.sections = true) ∧ ∀ l ∈ f.sections, l.length ≤ 24

/-- The frame last built, if any, is lawful. -/
def State.frameLawful (s : State) : Prop := ∀ f, s.link.frameOut = some f → f.lawful

/-! ### What a command can change -/

/-- The blocks of the state that an operation may change. -/
structure Blocks where
  time : Bool := false
  link : Bool := false
  tracker : Bool := false
  capture : Bool := false
  mem : Bool := false
  voices : Bool := false
  intake : Bool := false
  sched : Bool := false
  duplex : Bool := false
  calib : Bool := false
  port : Bool := false
  store : Bool := false
  pending : Bool := false
deriving DecidableEq, Repr

/-- From `s` to `t` no block outside `b` has changed. -/
structure Touches (b : Blocks) (s t : State) : Prop where
  time : b.time = false → t.time = s.time
  link : b.link = false → t.link = s.link
  tracker : b.tracker = false → t.tracker = s.tracker
  capture : b.capture = false → t.capture = s.capture
  mem : b.mem = false → t.mem = s.mem
  voices : b.voices = false → t.voices = s.voices
  intake : b.intake = false → t.intake = s.intake
  sched : b.sched = false → t.sched = s.sched
  duplex : b.duplex = false → t.duplex = s.duplex
  calib : b.calib = false → t.calib = s.calib
  port : b.port = false → t.port = s.port
  store : b.store = false → t.store = s.store
  pending : b.pending = false → t.pending = s.pending

/-- Every block but the queue of commands. -/
def Blocks.whole : Blocks :=
  { time := true, link := true, tracker := true, capture := true, mem := true, voices := true, intake := true,
    sched := true, duplex := true, calib := true, port := true, store := true, pending := false }

/-- The blocks a command can change: those whose state its rules let it write. A frame of requests can ask for anything. -/
def footprint : Instr → Blocks
  | .powerOn | .coldResetSupplyLow | .frameErrors .. | .requestFrame .. => Blocks.whole
  | .resetPin | .restartReset | .restart .. => { Blocks.whole with mem := false }
  | .cycleStart .. => { Blocks.whole with store := false }
  | .transportStart .. => { time := true, tracker := true, capture := true, sched := true, port := true }
  | .transportPause .. | .pauseLinkLeft | .cueReached => { time := true, sched := true, duplex := true, port := true }
  | .transportResume .. => { time := true, sched := true, port := true }
  | .transportStop .. | .setMode .. =>
    { time := true, link := true, capture := true, voices := true, intake := true, sched := true, duplex := true,
      calib := true, port := true }
  | .endTick | .clockEnd =>
    { time := true, capture := true, voices := true, intake := true, sched := true, duplex := true, calib := true,
      port := true }
  | .setCue .. => { time := true, port := true }
  | .releaseEndExpiry .. => { time := true, sched := true }
  | .returnFrame .. =>
    { Blocks.whole with intake := false, store := false }
  | .returnExpiry | .linkStop .. =>
    { time := true, link := true, tracker := true, capture := true, sched := true, duplex := true, calib := true,
      port := true }
  | .recoveryLimitExpiry | .linkStart .. | .clearKeyFault .. => { link := true, sched := true, port := true }
  | .drivePermit .. => { link := true, port := true }
  | .yieldWaitEnd .. => { sched := true, duplex := true }
  | .windowExpiry .. =>
    { mem := true, voices := true, sched := true, duplex := true, calib := true, port := true }
  | .jobStart => { sched := true, calib := true, port := true }
  | .admitRecord => { voices := true, intake := true, sched := true, port := true }
  | .walkDescriptorRead => { voices := true, intake := true, port := true }
  | .walkComplete => { mem := true, voices := true, intake := true, sched := true, port := true }
  | .eventsFrame .. => { intake := true, port := true }
  | .transmitComplete | .statusPeriodExpiry | .readRoster .. | .readKeySense .. | .readDescriptor .. | .readPage ..
  | .setProfile .. | .setOptions .. | .readStatus .. => { port := true }
  | .writeKeySense .. | .writeDescriptor .. | .writePage .. => { mem := true, port := true }
  | .selectVoicing .. | .invalidateVoice .. | .invalidateAll .. => { voices := true, port := true }
  | .calibrateQueue .. => { calib := true, port := true }
  | .calibrateAbort .. => { sched := true, duplex := true, calib := true, port := true }
  | .storeSave .. | .storeVerifyComplete => { port := true, store := true }
  | .storeRestore .. => { voices := true, port := true, store := true }
  | .storeEraseComplete | .storeProgramComplete .. => { store := true }
  | .storeReadComplete => { mem := true, port := true, store := true }

/-! ### The state after a reset (R16, R38, R50, R57, R73, R83, R96, R121, R124 to R126, R154, R155, R168, R176, R180) -/

/-- The Time Base after a reset (R16). -/
def TimeBase.atReset (t : TimeBase) : Prop :=
  t.linkCycle = 0 ∧ t.tick = 0 ∧ t.takeBase = none ∧ t.transport = .stopped ∧ t.preroll = 0 ∧ t.shift = 0 ∧
    t.pauseStart = none ∧ t.cue = none ∧ t.endTick = none ∧ t.mode = .idle ∧ t.waiting = [] ∧ t.linkLeft = .none

/-- The Action Link Controller after a reset (R38, R50). -/
def ActionLink.atReset (l : ActionLink) : Prop :=
  l.state = .down ∧ l.permit = false ∧ (∀ i : Fin 8, l.roster[i] = none) ∧ l.rosterChanged = false ∧ l.returnTime = 0 ∧
    l.valid = 0 ∧ l.missing = 0 ∧ l.expiry = none ∧ l.recovery = none ∧ l.gap = none ∧ l.collection = none ∧
    l.echo = .idle ∧ (∀ i : Fin 8, l.supplyLow[i] = false ∧ l.overTemp[i] = false) ∧
    ∀ i : Fin 97, l.faults[i] = false ∧ l.blinder[i] = none

/-- The capture side after a reset (R57, R73, R83). -/
def State.captureAtReset (s : State) : Prop :=
  (∀ i : Fin 97, s.tracker.keys[i] = { state := .atRest, h1 := none, sounded := false, owner := .performer,
                                        lastStamp := none }) ∧
    (∀ i : Fin 3, s.tracker.pedals[i] = { position := 0, lastEmitted := none }) ∧ s.capture.events = [] ∧
    s.capture.summary = { takeOpen := false, events := 0, first := none, last := none, incomplete := false, overflow := 0,
                          lost := 0, order := 0, brush := 0 }

/-- The replay side after a reset (R85, R121, R124, R126, R154, R155, R168). -/
def State.replayAtReset (s : State) : Prop :=
  s.voices = { activeSet := 0, entries := [], walk := none } ∧ s.intake = [] ∧ s.sched.entries = [] ∧
    (∀ i : Fin 97, s.sched.keys[i] = { state := .idle, notes := [], driven := false, attackEnd := none, lastRearm := none,
                                        rearmBase := none, releaseEnd := none, immediateOff := false }) ∧
    (∀ i : Fin 3, s.sched.pedals[i] = { level := none, rest := false }) ∧ (∀ i : Fin 97, s.duplex.windows[i] = none) ∧
    (∀ i : Fin 97, s.duplex.yields[i] = { requirement := none, rest := 0, level := 0 }) ∧ s.calib.queue = [] ∧
    s.calib.current = none

/-- The Score Port Controller after a reset (R176, R178, R180): the one status frame, and every default of 11.5. -/
def State.portAtReset (s : State) (cause : ResetCause) : Prop :=
  s.port.received = [] ∧ s.port.queue = [.status 0 (s.statusRecord false)] ∧ s.port.line = some 64 ∧
    (∀ i : Fin 22, s.port.counters[i] = 0) ∧ s.port.timer = none ∧ s.port.profile = none ∧
    s.port.options = { lateTolerance := 3000, lookAhead := 150000, dynamicsScale := 1000, verify := false,
                       adaptiveTrim := false, outcomeReports := false, holdCap := 2000000, yieldBase := 2500,
                       windowWidth := 500, statusPeriod := 100 } ∧
    s.port.cause = cause ∧ s.port.restart = .none

/-- What every reset leaves, whatever its kind. -/
def State.atReset (s : State) (cause : ResetCause) : Prop :=
  s.time.atReset ∧ s.link.atReset ∧ s.captureAtReset ∧ s.replayAtReset ∧ s.portAtReset cause

/-- Table Memory cleared (R53, R85). -/
def State.tablesCleared (s : State) : Prop :=
  (∀ set voice, set ≤ 3 → voice ≤ 127 → s.mem.descriptor set voice =
    some { present := false, kind := .key, target := 1, page := 0, trim := 1000, accessed := false, played := false }) ∧
    (∀ slot, slot ≤ 511 → s.mem.page slot = none) ∧
    (∀ i : Fin 97, s.mem.sense.keys[i] = { gap := 2500, residual := 1500, minVelocity := 50 }) ∧
    ∀ i : Fin 3, s.mem.sense.pedals[i] = { rawMin := 0, rawMax := 4095, deadband := 2 }

/-! ### Requests and their rows -/

/-- The row of the table that stands for a request with its tag being taken by its owner. -/
def rowOf (tag : Byte) : Request → Instr
  | .setMode mode => .setMode tag mode
  | .transportStart preroll => .transportStart tag preroll
  | .transportPause => .transportPause tag
  | .transportResume => .transportResume tag
  | .transportStop => .transportStop tag
  | .setCue presence tick => .setCue tag presence tick
  | .linkStart => .linkStart tag
  | .linkStop => .linkStop tag
  | .drivePermit => .drivePermit tag
  | .readRoster => .readRoster tag
  | .clearKeyFault key => .clearKeyFault tag key
  | .writeKeySense type number first second third => .writeKeySense tag type number first second third
  | .readKeySense type number => .readKeySense tag type number
  | .writeDescriptor set voice fields => .writeDescriptor tag set voice fields
  | .readDescriptor set voice => .readDescriptor tag set voice
  | .writePage slot page => .writePage tag slot page
  | .readPage slot => .readPage tag slot
  | .selectVoicing set => .selectVoicing tag set
  | .invalidateVoice voice => .invalidateVoice tag voice
  | .invalidateAll => .invalidateAll tag
  | .calibrateQueue job => .calibrateQueue tag job
  | .calibrateAbort => .calibrateAbort tag
  | .setProfile fields => .setProfile tag fields
  | .setOptions values => .setOptions tag values
  | .readStatus clear => .readStatus tag clear
  | .restart => .restart tag
  | .storeSave first last => .storeSave tag first last
  | .storeRestore => .storeRestore tag

/-- A request that a save in flight refuses with BUSY (the table of R185; SetMode by the codes of the modes other than Idle). -/
def refusedWhileSaving : Request → Bool
  | .writeDescriptor .. | .writePage .. | .writeKeySense .. | .setProfile .. | .restart | .storeSave .. | .storeRestore =>
    true
  | .setMode code => decide (2 ≤ code) && decide (code ≤ 5)
  | _ => false

/-- Key k of the longest keyboard. -/
abbrev Keyed (k : Nat) : Prop := 1 ≤ k ∧ k ≤ 97

/-- No key is driven, and each that was driven in `s` has its immediate Off asked (R6, R10, R138). -/
def Silenced (s t : State) : Prop :=
  ∀ k, Keyed k → (t.driveOf k).driven = false ∧ ((s.driveOf k).driven = true → (t.driveOf k).immediateOff = true)

/-- The Expectation Table is empty. -/
def State.noWindows (s : State) : Prop := ∀ k, s.windowOf k = none

/-! ### The drive of a key (R126, R137, R138) -/

/-- The drive state R126 gives a key that is not in the fault set. -/
def State.unfaultedState (s : State) (k : Nat) : DriveState :=
  if s.waitingYield k then .yielded
  else if (s.driveOf k).driven then .sounding
  else if s.armed k then .armed
  else if (s.driveOf k).releaseEnd.any (fun t => decide (s.now < t)) then .releasing
  else .idle

/-- The drive state R126 gives a key. -/
def State.stateBy126 (s : State) (k : Nat) : DriveState := if s.faulted k then .faulted else s.unfaultedState k

/-- The later of a tick that may be absent and a tick. -/
def atLeast (t : Option Nat) (u : Nat) : Option Nat := some (max (t.getD 0) u)

/-- A key's record once an immediate Off is asked at the earliest dispatchable tick `e` (R138). -/
def KeyDrive.offAsked (d : KeyDrive) (e : Nat) : KeyDrive :=
  if d.driven then
    { d with driven := false, immediateOff := true, releaseEnd := atLeast d.releaseEnd (e + d.lastRearm.getD 0),
             rearmBase := atLeast d.attackEnd e }
  else d

/-! ### Pause and Stop (R6, R10, R139, R140) -/

/-- The note sounds: its attack has been dispatched and its Off has not (R139). -/
def Note.sounds (n : Note) : Bool := n.attackDispatched && !n.offDispatched

/-- A note as a Pause leaves it, at the earliest dispatchable tick `e` (R139). -/
def Note.paused (e : Nat) (n : Note) : Note :=
  if n.sounds then { n with offDispatched := true, off := e, origin := .paused } else n

/-- The Off entry `x`, at its place in the schedule, leaves by a Pause (R139; DEDUCED, log 23): its note sounds, or its key is
driven, its note has left the Note List, and none of the key's Attacks and Holds stands before it or is of its note. -/
def State.pauseTakes (s : State) (x : Entry × Nat) : Prop :=
  Keyed x.1.target ∧ x.1.kind = .off ∧ ∃ id, x.1.note = some id ∧
    ((∃ n ∈ (s.driveOf x.1.target).notes, n.id = id ∧ n.sounds = true) ∨
      ((s.driveOf x.1.target).driven = true ∧ (∀ n ∈ (s.driveOf x.1.target).notes, n.id ≠ id) ∧
        ∀ y ∈ s.sched.entries.zipIdx, y.1.strikes x.1.target = true → x.2 < y.2 ∧ y.1.note ≠ some id))

/-- What the Pause behaviour leaves (R6, R139, R147): every window gone; of the entries the Offs that leave by it gone and every
other kept in its place; every key's notes and drive as R139 and R138 give, its drive state as R126; the pedals and the yield
records as they were, and no other block changed. -/
def TakeHeld (s t : State) : Prop :=
  Silenced s t ∧ t.noWindows ∧
    (∃ kept : List (Entry × Nat), kept.Sublist s.sched.entries.zipIdx ∧
      (∀ x ∈ s.sched.entries.zipIdx, x ∈ kept ↔ ¬s.pauseTakes x) ∧ t.sched.entries = kept.map (fun x => x.1)) ∧
    (∀ k, Keyed k → t.driveOf k =
      { (s.driveOf k).offAsked s.earliest with
        notes := (s.driveOf k).notes.map (Note.paused s.earliest), state := t.stateBy126 k }) ∧
    t.sched.pedals = s.sched.pedals ∧ t.duplex.yields = s.duplex.yields ∧
    Touches { time := true, sched := true, duplex := true, port := true } s t

/-- The replay side holds nothing of a take (R10, R123, R140, R147): every key is Idle but those Faulted or Yielded. -/
def State.takeCleared (s : State) : Prop :=
  s.intake = [] ∧ s.voices.walk = none ∧ s.sched.entries = [] ∧ s.noWindows ∧
    ∀ k, Keyed k → (s.driveOf k).notes = [] ∧ (s.driveOf k).attackEnd = none ∧ (s.driveOf k).rearmBase = none ∧
      (s.driveOf k).releaseEnd = none ∧
      (s.driveOf k).state = if s.faulted k then .faulted else if s.waitingYield k then .yielded else .idle

/-- Each of some frames' worth of events is one frame of 1 to 30 (R77, R82). -/
def packed (frames : List (List CaptureEvent)) : Prop := ∀ l ∈ frames, 1 ≤ l.length ∧ l.length ≤ 30

/-- The flush of R82 behind what the transmit queue `q` holds: every event the Capture Queue of `s` held, in frames, then the
TakeSummary of everything sent, and the take closed. -/
def Flushed (s t : State) (q : List Upstream) (cause : StopCause) : Prop :=
  ∃ (frames : List (List CaptureEvent)) (sm : TakeSummary),
    packed frames ∧ frames.flatten = s.capture.events ∧
      sm = s.capture.events.foldl TakeSummary.sent s.capture.summary ∧ t.capture.events = [] ∧
      t.capture.summary = { sm with takeOpen := false } ∧
      t.port.queue = q ++ frames.map Upstream.capture ++ [.report s.time.linkCycle (.takeSummary sm cause)]

/-- The Time Base as the Stop behaviour leaves it (R10). -/
def TimeBase.stopped (t : TimeBase) : TimeBase :=
  { t with takeBase := none, pauseStart := none, endTick := none, cue := none, shift := 0, preroll := 0,
           transport := .stopped }

/-- What the Stop behaviour leaves elsewhere, for the mode the take was in (R10, R82, R140, R166): each driven key has its
immediate Off asked, and each pedal whose last dispatched level is above 0 its rest. -/
def State.takeEnded (s t : State) : Prop :=
  (s.time.mode.drives = true → t.takeCleared ∧ Silenced s t ∧
      ∀ q, 1 ≤ q → q ≤ 3 → t.pedalDriveOf q =
        { s.pedalDriveOf q with
          rest := (s.pedalDriveOf q).rest || (s.pedalDriveOf q).level.any (fun l => decide (0 < l)) }) ∧
    (s.captureMode = true → t.capture.events = [] ∧ t.capture.summary.takeOpen = false) ∧
    (s.time.mode = .calibrate → t.calib.queue = [] ∧ t.calib.current = none)

/-! ### Returns (R21) -/

/-- The state a valid return of a cycle leaves before it is handed on (R21). -/
def State.returnTaken (s : State) (elapsed : Nat) : State :=
  { s with link := { s.link with returnTime := elapsed, expiry := none, valid := countUp s.link.valid, missing := 0 } }

/-! ### Capture (R66, R68, R76, R77, R82) -/

/-- A Strike or SilentPress of key k is handed to the Capture Queue (R68). -/
def State.captures (s : State) (k : Nat) : Prop :=
  s.capturing = true ∧ (s.time.mode = .duplex → (s.trackerOf k).owner = .performer ∧ s.underReplay k = false)

/-! ### Marks, windows and trims (R89, R144 to R150) -/

/-- The voice an entry came through is marked Played, and nothing else of Table Memory changes; an entry without a voice marks
nothing (R89). -/
def PlayedSet (s t : State) (via : Option Via) : Prop :=
  match via with
  | none => t.mem = s.mem
  | some v =>
    (∀ d, s.mem.descriptor v.set v.voice = some d → t.mem.descriptor v.set v.voice = some { d with played := true }) ∧
      (∀ n x, (n, x) ≠ (v.set, v.voice) → t.mem.descriptor n x = s.mem.descriptor n x) ∧ t.mem.pages = s.mem.pages ∧
      t.mem.sense = s.mem.sense

/-- A voice's trim has become `after`, with adaptive trim on (R90, R150): in its descriptor `d`, and where that changes it, in its
cached copy of the same set and in a walk that holds its descriptor; nothing else of Table Memory and the cache. -/
def TrimAdapted (s t : State) (via : Via) (d : VoiceDescriptor) (after : Nat) : Prop :=
  t.mem.descriptor via.set via.voice = some (if s.port.options.adaptiveTrim then { d with trim := after } else d) ∧
    (∀ n x, (n, x) ≠ (via.set, via.voice) → t.mem.descriptor n x = s.mem.descriptor n x) ∧ t.mem.pages = s.mem.pages ∧
    t.mem.sense = s.mem.sense ∧ t.voices.activeSet = s.voices.activeSet ∧
    (s.port.options.adaptiveTrim = false ∨ after = d.trim → t.voices = s.voices) ∧
    (s.port.options.adaptiveTrim = true → after ≠ d.trim →
      t.voices.entries = s.voices.entries.map (fun e =>
        if e.voice = via.voice ∧ e.set = via.set then { e with trim := after } else e) ∧
      t.voices.walk = s.voices.walk.map (fun x =>
        if x.voice = via.voice ∧ x.set = via.set then
          { x with descriptor := x.descriptor.map (fun d => { d with trim := after }) }
        else x))

/-- The StrikeOutcome record of a window's end (R148): sent while outcome reports are on, its trim fields filled while adaptive
trim is on. -/
def State.outcomeSent (s : State) (result : StrikeResult) (k : Nat) (via : Via) (strike commanded : Nat)
    (measured : Option Nat) (timing : Option Int) (trim : Nat) (step : Int) (after : Nat) : State :=
  if s.port.options.outcomeReports then
    s.report (.strikeOutcome
      { outcome := result, key := k, via := via, strike := strike, commanded := commanded, measured := measured,
        timing := timing, step := if s.port.options.adaptiveTrim then some step else none,
        trimAfter := if s.port.options.adaptiveTrim then some after else none,
        limited := s.port.options.adaptiveTrim && decide ((after : Int) ≠ (trim : Int) + step) })
  else s

/-! ### The roster (R27) -/

/-- How many of some records serve key k in a role other than `but`: for sensing `but` is Driver, for drive it is Scanner. -/
def keyCover (records : List StationRecord) (but : Role) (k : Nat) : Nat :=
  (records.filter (fun r => r.role != but && decide (r.firstKey ≤ k) && decide (k ≤ r.lastKey))).length

/-- The same for pedal q, bit q - 1 of the pedals served. -/
def pedalCover (records : List StationRecord) (but : Role) (q : Nat) : Nat :=
  (records.filter (fun r => r.role != but && r.pedals.testBit (q - 1))).length

/-- Key k is covered as R27 asks: once up to keyCount and not at all above it, for sensing and for drive. -/
def keyCovered (keyCount : Nat) (records : List StationRecord) (k : Nat) : Prop :=
  keyCover records .driver k = (if k ≤ keyCount then 1 else 0) ∧ keyCover records .scanner k = (if k ≤ keyCount then 1 else 0)

/-- Pedal q is covered as R27 asks. -/
def pedalCovered (records : List StationRecord) (q : Nat) : Prop :=
  pedalCover records .driver q = 1 ∧ pedalCover records .scanner q = 1

end Sys2Proof.Machine
end

