-- ==== Sys2Proof/WellFormed.lean ====
section
/-! DEFINITION. Well-formed commands: operands that the frames of the two links can carry (R174, 11.1), keys and blocks
that exist, and an order of a cycle start that names each once-only act at most once. -/

namespace Sys2Proof

/-- A number in one byte. -/
def fitsByte (n : Nat) : Bool := decide (n < 256)
/-- A number in two bytes. -/
def fitsHalf (n : Nat) : Bool := decide (n < 65536)
/-- A number in four bytes. -/
def fitsWord (n : Nat) : Bool := decide (n < 4294967296)

/-- A key of the longest keyboard. -/
def isKey (k : Nat) : Bool := decide (1 ≤ k) && decide (k ≤ 97)

/-- An act is named at most once. -/
def atMostOnce (a : StartAction) (order : List StartAction) : Bool := decide (order.count a ≤ 1)

def EventRecord.wellFormed (r : EventRecord) : Bool := fitsByte r.voice && fitsHalf r.value && fitsWord r.time

def RawDescriptor.wellFormed (f : RawDescriptor) : Bool :=
  fitsByte f.present && fitsByte f.kind && fitsByte f.target && fitsHalf f.page && fitsHalf f.trim && fitsByte f.accessed &&
    fitsByte f.played

def Breakpoint.wellFormed (p : Breakpoint) : Bool := fitsHalf p.input && fitsHalf p.drive && fitsHalf p.time

def Scalars.wellFormed (x : Scalars) : Bool :=
  fitsHalf x.attack && fitsHalf x.hold && fitsWord x.rearm && fitsHalf x.silentLead

/-- A page that fits the payload of one Request frame; another kind code is none of the three. -/
def RawPage.wellFormed : RawPage → Bool
  | .strike points x => decide (points.length ≤ 37) && points.all Breakpoint.wellFormed && x.wellFormed
  | .pedal points => decide (points.length ≤ 39) && points.all Breakpoint.wellFormed
  | .empty => true
  | .other code => fitsByte code && code != 1 && code != 2 && code != 3

def Job.wellFormed (j : Job) : Bool :=
  fitsByte j.key && fitsHalf j.slot && fitsByte j.levels && fitsHalf j.minDrive && fitsHalf j.maxDrive &&
    fitsByte j.repeats && fitsHalf j.spacing

def RawProfile.wellFormed (f : RawProfile) : Bool :=
  fitsByte f.keyCount && fitsByte f.stations && fitsByte f.boundary && fitsByte f.autoPermit

/-- Options named once each and in the order of the table, values in 4 bytes (R174, code 24). -/
def optionsWellFormed (values : List (OptionName × Nat)) : Bool :=
  let names := values.map (fun x => x.1)
  allOptions.filter names.contains == names && values.all (fun x => fitsWord x.2)

/-- A cue as sent: no tick beside presence 0 (R174, code 6). -/
def cueWellFormed (presence tick : Nat) : Bool := fitsByte presence && fitsWord tick && (presence != 0 || tick == 0)

/-- A request whose fields its layout can carry (R174). -/
def Request.wellFormed : Request → Bool
  | .setMode mode => fitsByte mode
  | .transportStart preroll => fitsHalf preroll
  | .transportPause => true
  | .transportResume => true
  | .transportStop => true
  | .setCue presence tick => cueWellFormed presence tick
  | .linkStart => true
  | .linkStop => true
  | .drivePermit => true
  | .readRoster => true
  | .clearKeyFault key => fitsByte key
  | .writeKeySense type number first second third =>
    fitsByte type && fitsByte number && fitsHalf first && fitsHalf second && fitsHalf third
  | .readKeySense type number => fitsByte type && fitsByte number
  | .writeDescriptor set voice fields => fitsByte set && fitsByte voice && fields.wellFormed
  | .readDescriptor set voice => fitsByte set && fitsByte voice
  | .writePage slot page => fitsHalf slot && page.wellFormed
  | .readPage slot => fitsHalf slot
  | .selectVoicing set => fitsByte set
  | .invalidateVoice voice => fitsByte voice
  | .invalidateAll => true
  | .calibrateQueue job => job.wellFormed
  | .calibrateAbort => true
  | .setProfile fields => fields.wellFormed
  | .setOptions values => optionsWellFormed values
  | .readStatus clear => fitsByte clear
  | .restart => true
  | .storeSave first last => fitsByte first && fitsByte last
  | .storeRestore => true

/-- A command whose operands can arrive. -/
def Instr.wellFormed : Instr → Bool
  | .powerOn => true
  | .coldResetSupplyLow => true
  | .resetPin => true
  | .restartReset => true
  | .cycleStart order => atMostOnce .frame order && atMostOnce .release order && atMostOnce .retry order
  | .transportStart _ preroll => (Request.transportStart preroll).wellFormed
  | .transportPause _ => true
  | .transportResume _ => true
  | .transportStop _ => true
  | .setCue _ presence tick => (Request.setCue presence tick).wellFormed
  | .setMode _ mode => (Request.setMode mode).wellFormed
  | .pauseLinkLeft => true
  | .cueReached => true
  | .endTick => true
  | .clockEnd => true
  | .releaseEndExpiry key => isKey key
  | .returnFrame _ _ => true
  | .returnExpiry => true
  | .recoveryLimitExpiry => true
  | .yieldWaitEnd key => isKey key
  | .windowExpiry key => isKey key
  | .jobStart => true
  | .admitRecord => true
  | .walkDescriptorRead => true
  | .walkComplete => true
  | .eventsFrame _ records =>
    decide (1 ≤ records.length) && decide (records.length ≤ 30) && records.all EventRecord.wellFormed
  | .frameErrors _ => true
  | .requestFrame _ payload => decide (1 ≤ payload.length) && decide (payload.length ≤ 240)
  | .transmitComplete => true
  | .statusPeriodExpiry => true
  | .linkStart _ => true
  | .linkStop _ => true
  | .drivePermit _ => true
  | .readRoster _ => true
  | .clearKeyFault _ key => (Request.clearKeyFault key).wellFormed
  | .writeKeySense _ type number first second third =>
    (Request.writeKeySense type number first second third).wellFormed
  | .readKeySense _ type number => (Request.readKeySense type number).wellFormed
  | .writeDescriptor _ set voice fields => (Request.writeDescriptor set voice fields).wellFormed
  | .readDescriptor _ set voice => (Request.readDescriptor set voice).wellFormed
  | .writePage _ slot page => (Request.writePage slot page).wellFormed
  | .readPage _ slot => (Request.readPage slot).wellFormed
  | .selectVoicing _ set => (Request.selectVoicing set).wellFormed
  | .invalidateVoice _ voice => (Request.invalidateVoice voice).wellFormed
  | .invalidateAll _ => true
  | .calibrateQueue _ job => (Request.calibrateQueue job).wellFormed
  | .calibrateAbort _ => true
  | .setProfile _ fields => (Request.setProfile fields).wellFormed
  | .setOptions _ values => (Request.setOptions values).wellFormed
  | .readStatus _ clear => (Request.readStatus clear).wellFormed
  | .restart _ => true
  | .storeSave _ first last => (Request.storeSave first last).wellFormed
  | .storeRestore _ => true
  | .storeEraseComplete => true
  | .storeProgramComplete _ => true
  | .storeVerifyComplete => true
  | .storeReadComplete => true

end Sys2Proof
end

