-- ==== Sys2Proof/Certificates/Slice0/Obligations.lean ====
section
/-! DEFINITION. The statements for the provers. A command's effect is stated as the state it leads to: `exec c s` IS
`.next t` for the t the rules give, or as what the operation it calls leads to. `Touches b s t` says that no block outside b
has changed. -/

open Sys2Proof Sys2Proof.Machine

/-! ### The queue of commands -/

/-- The command at the front is taken: `step` is `exec` of it on the state with the queue's rest.
The model's choice in it: log 1. -/
def Obligations.StepRunsTheFrontCommand : Prop :=
  ∀ (s : State) (c : Instr) (rest : List Instr), s.pending = c :: rest → step s = exec c { s with pending := rest }

/-- Frame and completion of every command: whatever the command and the state, it answers a next state in which no block
outside the command's footprint has changed, and the queue of commands never does. -/
def Obligations.EveryCommandKeepsToItsFootprint : Prop :=
  ∀ (c : Instr) (s : State), ∃ t, exec c s = .next t ∧ Touches (footprint c) s t

/-! ### Resets (R178, R179, R184, R186) -/

/-- A cold reset: every block at its reset values, Table Memory cleared, the automatic restore begun at block 0, and the
cause recorded. A warm reset: the same, but Table Memory kept whole and no store operation; the reset of a Restart comes
once its Reply has been sent, and not before. R186: a reset leaves every non-volatile block as it was, but the block in
progress of a save, which is left part way through its erase or its programming. The model's choice in it: log 26, and
log 53 for the cut erase. -/
def Obligations.ResetsLeaveTheirInitialState : Prop :=
  (∀ s : State,
      (∃ t, exec .powerOn s = .next t ∧ t.atReset .powerOn ∧ t.tablesCleared ∧ t.pending = s.pending ∧
        t.store.op = .restore { block := 0, cause := .automatic, results := [] }) ∧
      ∃ t, exec .coldResetSupplyLow s = .next t ∧ t.atReset .supplyLow ∧ t.tablesCleared ∧ t.pending = s.pending ∧
        t.store.op = .restore { block := 0, cause := .automatic, results := [] }) ∧
  (∀ s : State,
      (∃ t, exec .resetPin s = .next t ∧ t.atReset .pin ∧ t.mem = s.mem ∧ t.store.op = .idle ∧ t.pending = s.pending) ∧
      (s.port.restart = .due →
        ∃ t, exec .restartReset s = .next t ∧ t.atReset .restart ∧ t.mem = s.mem ∧ t.store.op = .idle ∧
          t.pending = s.pending) ∧
      (s.port.restart ≠ .due → exec .restartReset s = .next s)) ∧
  (∀ (c : Instr) (s t : State),
      (c = .powerOn ∨ c = .coldResetSupplyLow ∨ c = .resetPin ∨ (c = .restartReset ∧ s.port.restart = .due)) →
      exec c s = .next t →
      ∀ b, b ≤ 36 → t.storeBlock b =
        match s.store.op with
        | .save op => if b = op.block ∧ op.stage ≠ .verifying then .partly else s.storeBlock b
        | .idle => s.storeBlock b
        | .restore _ => s.storeBlock b)

/-! ### The cycle start (R1, R4, R18, R135 to R137) -/

/-- R1, R4: every cycle start advances the link cycle counter by one modulo 2³², begins the cycle at its first tick and leaves
no request waiting. With the link DOWN, the transport Stopped and no job current, and nothing waiting, that and the job test
becoming due is all. The model's choice in it: log 3 and log 7. -/
def Obligations.CycleStartsCount : Prop :=
  (∀ (order : List StartAction) (s : State), ∃ t, exec (.cycleStart order) s = .next t ∧
      t.time.linkCycle = (s.time.linkCycle + 1) % 4294967296 ∧ t.time.tick = 0 ∧ t.time.waiting = []) ∧
  (∀ s : State, s.link.state = .down → s.link.recovery = none → s.time.transport = .stopped → s.time.waiting = [] →
      s.time.linkLeft = .none → s.calib.current = none →
      exec (.cycleStart []) s = .next
        { s with
          time := { s.time with linkCycle := (s.time.linkCycle + 1) % 4294967296, tick := 0 },
          calib := { s.calib with testDue := true } })

/-- R18: in every state but DOWN the cycle start sends one frame with the new cycle number, the state held, the echo of
the previous return and the ring record's byte; it has eight sections of at most 24 commands, empty in WAKING and
ALIGNING, with Offs alone outside DRIVING; and its return expiry runs. The model's choice in it: log 3. -/
def Obligations.ACycleStartSendsOneFrame : Prop :=
  ∀ s : State, s.link.state ≠ .down → ∃ t f, exec (.cycleStart []) s = .next t ∧ t.link.frameOut = some f ∧
    t.link.expiry = some f.cycle ∧ f.cycle = (s.time.linkCycle + 1) % 4294967296 ∧ f.state = s.link.state ∧
    f.echo = s.link.echo ∧ t.link.echo = .idle ∧ f.slow = s.ringRecord.getD (f.cycle % 16) 0 ∧ f.sections.length = 8 ∧
    (s.link.state = .waking ∨ s.link.state = .aligning → ∀ l ∈ f.sections, l = []) ∧ f.lawful

/-- R135, R136: after the dispatch of a cycle start with no Pause waiting for a link departure, nothing in the schedule stands
before the first tick of the next window, whatever was postponed; and every command sent is an immediate Off, a pedal rest, or
an entry of the schedule, risen to the window where it stood before it, that stands in the window at the command's fine offset
from its first tick. It holds where each note's id names one note of one key, as every step keeps it.
The model's choice in it: log 3, log 8 and log 17. -/
def Obligations.TheDispatchLeavesNothingBehind : Prop :=
  ∀ s t : State, s.link.state = .driving → s.time.transport = .running → s.time.linkLeft = .none → s.time.waiting = [] →
    s.scheduleOrdered → s.notesNamed → exec (.cycleStart []) s = .next t →
    (∀ e ∈ t.sched.entries, t.earliest ≤ e.onset) ∧
      ∀ f w, t.link.frameOut = some f → w = s.advanceCycle.windowStart → ∀ l ∈ f.sections, ∀ c ∈ l, c.fine < 20 ∧
        ((∃ k, c = Item.command w (.offNow k)) ∨ (∃ q, c = Item.command w (.rest q)) ∨
          ∃ e ∈ s.sched.entries, e.onset + s.advanceCycle.catchUpBy e = w + c.fine ∧
            c = Item.command w (.entry 0 (e.later (s.advanceCycle.catchUpBy e))))

/-- R135, R136. In DRIVING with the transport Running the dispatch first raises the entries left behind, then takes the window's
out of the schedule and fills the sections with them; else the frame carries immediate Offs alone, in DRIVING pedal rests too,
and in WAKING and ALIGNING nothing. An entry before the window start rises to it, and those of its target behind it by as much;
entries that move take their notes' ticks along. A station's section is offered its pending immediate Offs, the pending rests
of its pedals, and the window's Offs, Attacks, Holds and PedalSets, and carries the first 24. A PedalSet with a later one of its
pedal in the window is neither sent nor kept. An entry without a place is postponed: it and every later entry of its target
move 20 ticks, and Postponed counts it; where all find a place, all are sent. The effects of the immediate Offs and rests come
first, then those of the entries in their order; a rest of a pedal without a driving station stays pending. What a cycle start
sends is what this leaves; a calibration strike that stood Pending as it began is asked again behind the frame (R158).
The model's choice in it: log 3, log 11, log 17 and log 25. -/
def Obligations.PlacesAreFilledInOrder : Prop :=
  (∀ (shift : Entry → Nat) (k : Nat) (s : State), Keyed k →
      (s.moveEntries shift).sched.entries.Perm (s.sched.entries.map (fun e => e.later (shift e))) ∧
      (s.scheduleOrdered → (s.moveEntries shift).scheduleOrdered) ∧
      (s.moveEntries shift).driveOf k = { s.driveOf k with notes := (s.driveOf k).notes.map (fun n =>
        let strike := ((s.sched.entries.filter (fun e => e.strikes k && e.note == some n.id)).map shift).sum
        let off := ((s.sched.entries.filter (fun e => e.offOf k && e.note == some n.id)).map shift).sum
        { n with onset := n.onset + strike, strike := n.strike.map (· + strike), off := n.off + off }) } ∧
      Touches { sched := true } s (s.moveEntries shift)) ∧
  (∀ s : State,
      (s.link.state = .driving → s.time.transport = .running → ∃ u, u = s.moveEntries s.catchUpBy ∧
        s.takeCommands = u.fillSections (u.sched.entries.filter (fun e => decide (s.windowStart + 19 < e.onset)))
          (u.sched.entries.filter (fun e => decide (e.onset ≤ s.windowStart + 19))).zipIdx) ∧
      ((s.link.state = .ready ∨ s.link.state = .lost ∨ (s.link.state = .driving ∧ s.time.transport ≠ .running)) →
        s.takeCommands = s.fillSections s.sched.entries []) ∧
      ((s.link.state = .waking ∨ s.link.state = .aligning) → s.takeCommands = (s, List.replicate 8 [])) ∧
      (∀ e ∈ s.sched.entries, e.isCommand = false → s.catchUpBy e = s.windowStart - e.onset) ∧
      (∀ before f behind e, s.sched.entries = before ++ f :: behind → (∀ x ∈ before, e.sameTarget x = false) →
        e.sameTarget f = true → s.catchUpBy e = s.windowStart - f.onset) ∧
      (s.link.state ≠ .down → s.time.linkLeft = .none → s.time.waiting = [] → ∃ u v f, u = s.advanceCycle.takeCommands ∧
        f.sections = u.2 ∧
        v = { u.1 with link := { u.1.link with
          frameOut := some f, expiry := some s.advanceCycle.time.linkCycle, echo := .idle } } ∧
        ((∃ c, s.calib.current = some c ∧ c.state = .pending) →
          exec (.cycleStart []) s = .next (State.captureRelease v.retryStrike)) ∧
        ((∀ c, s.calib.current = some c → c.state ≠ .pending) →
          exec (.cycleStart []) s = .next v.captureRelease))) ∧
  (∀ (window : List (Entry × Nat)) (b : Nat) (s : State),
      s.placed window b = (s.offered window b).take 24 ∧
      s.offered window b =
        (allKeys.filter (fun k => (s.driveOf k).immediateOff && s.driverOf k == some b)).map Item.offNow ++
        (if s.link.state = .driving then
          (allPedals.filter (fun q => (s.pedalDriveOf q).rest && s.pedalDriverOf q == some b)).map Item.rest else []) ++
        [EntryKind.off, .attack, .hold, .pedalSet].flatMap (fun kind =>
          (window.filter (fun x => x.1.kind == kind && s.stationFor x.1 == some b)).map (fun x => .entry x.2 x.1)) ∧
      ∀ x, outdone window x = true ↔ x.1.kind = .pedalSet ∧ ∃ y ∈ window, y.1.kind = .pedalSet ∧
        y.1.target = x.1.target ∧ x.2 < y.2) ∧
  (∀ (es left : List Entry) (window commands unplaced : List (Entry × Nat)) (s u v : State), window = es.zipIdx →
      commands = window.filter (fun x => x.1.isCommand && !outdone window x) →
      u = allKeys.foldl State.dropOff (commands.foldl State.dropRest s) →
      unplaced = commands.filter (fun x => allStations.all (fun b => !(u.placed commands b).contains (.entry x.2 x.1))) →
      v = State.bumpTimes (State.moveEntries
          (u.setEntries ((commands.filter (heldBack unplaced)).map (fun x => x.1) ++ left))
          (fun e => if unplaced.any (fun y => e.sameTarget y.1) then 20 else 0)) .postponed unplaced.length →
      (s.count .postponed + unplaced.length ≤ 65535 → v.count .postponed = s.count .postponed + unplaced.length) ∧
      (∀ items : List (List Item), items = allStations.map (fun b => (u.placed commands b).filter (fun i =>
          match i with
          | .entry n e => !heldBack unplaced (e, n)
          | _ => true)) →
        s.fillSections left window =
          (((window.filter (fun x => !x.1.isCommand || (commands.contains x && !heldBack unplaced x))).map
              (fun x => x.1)).foldl State.sent (items.flatten.foldl State.itemSent v),
            items.map (fun l => l.map (Item.command s.windowStart)))) ∧
      ((∀ b, (u.offered commands b).length ≤ 24) → (∀ x ∈ commands, ∃ b ∈ allStations, u.stationFor x.1 = some b) →
        s.fillSections left window =
          (((window.filter (fun x => !outdone window x)).map (fun x => x.1)).foldl State.sent
              ((allStations.flatMap (u.offered commands)).foldl State.itemSent (u.setEntries left)),
            allStations.map (fun b => (u.offered commands b).map (Item.command s.windowStart)))))

/-- R137, R138, R140, R143, R89: the effects of what a dispatch sends. An Attack or Hold makes its key driven, with its attack end
and last R, marks its note's attack dispatched and its voice Played; an Attack with a voice opens its key's Monitor window over
S - W..S + W in Duplex, or in Replay with verify on, where the key can be seen, a Monitor window still open being Superseded (what an
open Sequencer window gives is not stated: R143 rules it out); one without a voice is handed to the Calibration Sequencer. An Off ends the drive: its note's Off dispatched, the release end and
rearm base no earlier than before, a Provisional origin Capped and counted. A PedalSet sets its pedal's last level and marks
Played; a Marker is reported; an End gives the end tick. An immediate Off and a pedal rest that were placed wait no more; an Off
that waited takes a release end and a rearm base that are there no earlier than its window, and leaves absent ones absent.
The model's choice in it: log 61 for these; and log 8, by which the window takes S and V2 from the entry where R143 takes the S that
the note holds, and an entry names its note by a number. -/
def Obligations.DispatchedCommandsTakeEffect : Prop :=
  (∀ (e : Entry) (k : Nat) (d : KeyDrive) (s t : State), Keyed k → e.target = k → s.driveOf k = d → t = s.sent e →
      (e.kind = .attack ∨ e.kind = .hold →
        t.driveOf k = { d with
          driven := true, attackEnd := some (e.onset + e.attack), lastRearm := some e.rearm,
          notes := d.notes.map (fun n => if e.note = some n.id then { n with attackDispatched := true } else n),
          state := if s.faulted k then .faulted else if s.waitingYield k then .yielded else .sounding } ∧
        (∀ j, j ≠ k → t.driveOf j = s.driveOf j) ∧ t.sched.entries = s.sched.entries ∧
        t.sched.pedals = s.sched.pedals ∧ PlayedSet s t e.via) ∧
      (e.kind = .hold → Touches { mem := true, sched := true } s t) ∧
      (∀ v, e.kind = .attack → e.via = some v →
        (s.verifies = true ↔ s.time.mode = .duplex ∨ (s.time.mode = .replay ∧ s.port.options.verify = true)) ∧
        (∀ j, j ≠ k → t.windowOf j = s.windowOf j) ∧ t.duplex.yields = s.duplex.yields ∧ t.calib = s.calib ∧
        (s.verifies = true → (s.trackerOf k).state ≠ .blind → s.sensed k = true →
          t.windowOf k = some
            { holder := .monitor e.velocity v, strike := e.strike, start := (e.strike : Int) - s.port.options.windowWidth,
              stop := e.strike + s.port.options.windowWidth,
              close := (e.strike + s.port.options.windowWidth) / 20 + 1 } ∧
          (∀ w commanded old, s.windowOf k = some w → w.holder = .monitor commanded old →
            t.port = (if s.port.options.outcomeReports then s.report (.strikeOutcome
              { outcome := .superseded, key := k, via := old, strike := w.strike, commanded := commanded,
                measured := none, timing := none, step := none, trimAfter := none, limited := false }) else s).port) ∧
          (s.windowOf k = none → t.port = s.port)) ∧
        (s.verifies = false ∨ (s.trackerOf k).state = .blind ∨ s.sensed k = false →
          t.windowOf k = s.windowOf k ∧ t.port = s.port)) ∧
      (e.kind = .attack → e.via = none → ∃ u, t = u.calibrationDispatched k e.onset ∧
        Touches { sched := true } s u) ∧
      (e.kind = .off → ∀ release rearm, release = atLeast d.releaseEnd (e.onset + e.rearm) →
        rearm = atLeast d.attackEnd e.onset →
        t = State.bumpIf (s.setDrive k { d with
          driven := false, releaseEnd := release, rearmBase := rearm,
          notes := d.notes.map (fun n => if e.note = some n.id then
            { n with offDispatched := true, origin := if n.origin = .provisional then .capped else n.origin } else n),
          state := if s.faulted k then .faulted else if s.waitingYield k then .yielded else if s.armed k then .armed
            else if release.any (fun r => decide (s.now < r)) then .releasing else .idle })
          (d.notes.any (fun n => e.note == some n.id && n.origin == .provisional)) .holdCapped) ∧
      (d.immediateOff = true → ∀ release rearm,
        release = d.releaseEnd.map (fun r => max r (s.windowStart + d.lastRearm.getD 0)) →
        rearm = d.rearmBase.map (fun r => max r s.windowStart) →
        s.itemSent (.offNow k) = s.setDrive k { d with
          immediateOff := false, releaseEnd := release, rearmBase := rearm,
          state := if s.faulted k then .faulted else if s.waitingYield k then .yielded else if d.driven then .sounding
            else if s.armed k then .armed
            else if release.any (fun r => decide (s.now < r)) then .releasing else .idle })) ∧
  (∀ (e : Entry) (q : Nat) (s t : State), 1 ≤ q → q ≤ 3 → t = s.sent e → e.target = q →
      (e.kind = .pedalSet → t.pedalDriveOf q = { s.pedalDriveOf q with level := some e.level } ∧
        (∀ p, p ≠ q → t.pedalDriveOf p = s.pedalDriveOf p) ∧ t.sched.entries = s.sched.entries ∧
        t.sched.keys = s.sched.keys ∧ PlayedSet s t e.via ∧ Touches { mem := true, sched := true } s t) ∧
      s.itemSent (.rest q) = s.setPedalDrive q { level := some 0, rest := false }) ∧
  (∀ (e : Entry) (s : State),
      (e.kind = .marker → s.sent e = s.report (.marker e.marker e.onset)) ∧
      (e.kind = .endOfReplay → s.sent e = { s with time := { s.time with endTick := some e.onset } }))

/-! ### Transport and modes (R5 to R14) -/

/-- TransportStart begins a take (R5, R57, R73, R79, R126): take clock 0 at this cycle, the preroll recorded, the tracker's
take fields and the pedals' levels cleared, a summary opened in Capture and Duplex, and the start report. -/
def Obligations.TransportStartBeginsATake : Prop :=
  ∀ (tag : Byte) (preroll : Nat) (s : State), s.restoring = false → s.time.transport = .stopped → s.time.mode ≠ .idle →
    (s.time.mode ≠ .capture → s.link.state = .driving) →
    ∃ t, exec (.transportStart tag preroll) s = .next t ∧
      t.time = { s.time with takeBase := some s.time.linkCycle, shift := 0, preroll := preroll, pauseStart := none,
                             endTick := none, transport := .running } ∧
      t.takeCycle = 0 ∧
      (∀ k, Keyed k → t.trackerOf k = { s.trackerOf k with sounded := false, lastStamp := none }) ∧
      (∀ q, 1 ≤ q ∧ q ≤ 3 → t.pedalOf q = { s.pedalOf q with lastEmitted := none } ∧
        t.pedalDriveOf q = { s.pedalDriveOf q with level := none }) ∧
      t.sched.entries = s.sched.entries ∧ t.sched.keys = s.sched.keys ∧ t.capture.events = s.capture.events ∧
      t.capture.summary =
        (if s.captureMode then { takeOpen := true, events := 0, first := none, last := none, incomplete := false,
                                 overflow := 0, lost := 0, order := 0, brush := 0 }
         else s.capture.summary) ∧
      t.port = (s.reply tag 2 .done (.started preroll s.time.linkCycle)).port ∧
      Touches { time := true, tracker := true, capture := true, sched := true, port := true } s t

/-- TransportResume (R9, R139): every entry, the end tick and the replay shift move later by the length of the pause, and
the Resumed report carries both. The model's choice in it: log 11. -/
def Obligations.TransportResumeMovesTheSchedule : Prop :=
  ∀ (tag : Byte) (p : Nat) (s : State), s.restoring = false → s.time.transport = .paused → s.time.pauseStart = some p →
    (s.time.mode.drives = true → s.link.state = .driving) →
    ∃ t, exec (.transportResume tag) s = .next t ∧
      t.time = { s.time with shift := s.time.shift + (s.startTick - p), pauseStart := none, transport := .running,
                             endTick := s.time.endTick.map (· + (s.startTick - p)) } ∧
      t.sched.entries = s.sched.entries.map (Entry.later (s.startTick - p)) ∧
      (∀ k, Keyed k → t.driveOf k =
        { s.driveOf k with notes := (s.driveOf k).notes.map (Note.resumed (s.startTick - p)) }) ∧
      t.sched.pedals = s.sched.pedals ∧
      t.port = ((s.reply tag 4 .done .nothing).report
        (.resumed (s.startTick - p) (s.time.shift + (s.startTick - p)))).port ∧
      Touches { time := true, sched := true, port := true } s t

/-- Where the transport requests are refused, each leaves everything but its Reply (R5, R6, R9, R10, R185). SetCue (R12): no
tick removes the cue; a tick replaces it, unless a take runs and the tick's take cycle has come.
The model's choice in it: log 32. -/
def Obligations.TransportRequestsAndCuesAreJudged : Prop :=
  (∀ (tag : Byte) (preroll : Nat) (s : State),
      (s.restoring = true →
        exec (.transportStart tag preroll) s = .next (s.reply tag 2 .busy .nothing) ∧
        exec (.transportPause tag) s = .next (s.reply tag 3 .busy .nothing) ∧
        exec (.transportResume tag) s = .next (s.reply tag 4 .busy .nothing) ∧
        exec (.transportStop tag) s = .next (s.reply tag 5 .busy .nothing)) ∧
      (s.restoring = false →
        ((s.time.transport ≠ .stopped ∨ s.time.mode = .idle ∨ (s.time.mode ≠ .capture ∧ s.link.state ≠ .driving)) →
          exec (.transportStart tag preroll) s = .next (s.reply tag 2 .state .nothing)) ∧
        ((s.time.transport ≠ .running ∨ s.time.mode = .calibrate) →
          exec (.transportPause tag) s = .next (s.reply tag 3 .state .nothing)) ∧
        ((s.time.transport ≠ .paused ∨ (s.time.mode.drives = true ∧ s.link.state ≠ .driving)) →
          exec (.transportResume tag) s = .next (s.reply tag 4 .state .nothing)) ∧
        (s.time.transport = .stopped → exec (.transportStop tag) s = .next (s.reply tag 5 .done .nothing)))) ∧
  (∀ (tag : Byte) (tick : Nat) (s : State), s.restoring = false →
      exec (.setCue tag 0 0) s = .next (State.reply { s with time := { s.time with cue := none } } tag 6 .done .nothing) ∧
      exec (.setCue tag 1 tick) s =
        (if s.time.transport ≠ .stopped ∧ tick / 20 ≤ s.takeCycle then .next (s.reply tag 6 .range (.field 2))
         else .next (State.reply { s with time := { s.time with cue := some tick } } tag 6 .done .nothing)))

/-- SetMode (R14, R177). Out of Idle the mode is entered and the status timer starts, and nothing else changes; between two
modes other than Idle it is refused with STATE; the mode held is answered Done. To Idle: a take in progress ends as at a
Stop, the status timer stops, the intake of Replay and Duplex is emptied, the jobs of Calibrate are aborted; the Done Reply is
handed last. The model's choice in it: log 11 and log 31. -/
def Obligations.SetModeEntersAndLeaves : Prop :=
  (∀ (tag : Byte) (m : Mode) (s : State), s.restoring = false → s.saving = false → m ≠ .idle →
      (s.time.mode = .idle → exec (.setMode tag m.code) s = .next (State.reply
        { s with time := { s.time with mode := m }, port := { s.port with timer := some s.port.options.statusPeriod } }
        tag 1 .done .nothing)) ∧
      (s.time.mode ≠ .idle → s.time.mode ≠ m → exec (.setMode tag m.code) s = .next (s.reply tag 1 .state .nothing)) ∧
      exec (.setMode tag s.time.mode.code) s = .next (s.reply tag 1 .done .nothing)) ∧
  (∀ (tag : Byte) (s : State), s.restoring = false → s.time.mode ≠ .idle →
      ∃ t, exec (.setMode tag 1) s = .next t ∧
        t.time = { (if s.time.transport = .stopped then s.time else s.time.stopped) with mode := .idle } ∧
        t.port.timer = none ∧ (s.time.transport ≠ .stopped → s.takeEnded t) ∧
        (s.time.mode = .replay ∨ s.time.mode = .duplex → t.intake = [] ∧ t.voices.walk = none) ∧
        (s.time.mode = .calibrate → t.calib.queue = [] ∧ t.calib.current = none) ∧
        t.link = { s.link with gap := s.link.gap.map (fun g => { g with stopped := true }) } ∧
        t.port.options = s.port.options ∧ t.port.profile = s.port.profile ∧
        ∃ u, t.port = (State.reply u tag 1 .done .nothing).port ∧ s.port.queue <+: u.port.queue ∧
          (s.time.transport ≠ .stopped → s.captureMode = true → Flushed s u s.port.queue .modeIdle))

/-- TransportPause (R6, R139, R147), and the two Pauses that no request asks for (R8, R12), each at the first tick of the cycle:
it holds the take and hands its own report, behind the Reply of a request. PAUSE_LINK_LEFT: the link having left DRIVING pauses
a running take in every mode; with the transport not Running the departure is only forgotten. CUE_REACHED: a cue reached while
Running in Replay or Duplex pauses the take; reached while Paused, or in another mode, it only becomes absent.
The model's choice in it: log 1, log 11, log 23 and log 32. -/
def Obligations.PausesHoldTheTake : Prop :=
  (∀ (tag : Byte) (s : State), s.restoring = false → s.time.transport = .running → s.time.mode ≠ .calibrate →
    ∃ t, exec (.transportPause tag) s = .next t ∧
      t.time = { s.time with transport := .paused, pauseStart := some s.startTick } ∧ TakeHeld s t ∧
      t.port = ((s.reply tag 3 .done .nothing).report (.paused s.startTick .request)).port) ∧
  (∀ s : State,
    (s.time.linkLeft = .due → s.time.transport = .running →
      ∃ t, exec .pauseLinkLeft s = .next t ∧
        t.time = { s.time with linkLeft := .none, transport := .paused, pauseStart := some s.startTick } ∧ TakeHeld s t ∧
        t.port = (s.report (.paused s.startTick .linkLeft)).port) ∧
    (s.time.linkLeft = .due → s.time.transport ≠ .running →
      exec .pauseLinkLeft s = .next { s with time := { s.time with linkLeft := .none } }) ∧
    (s.time.linkLeft ≠ .due → exec .pauseLinkLeft s = .next s) ∧
    (∀ cue, s.time.cue = some cue → s.time.transport = .running → (s.time.mode = .replay ∨ s.time.mode = .duplex) →
      cue / 20 ≤ s.takeCycle →
      ∃ t, exec .cueReached s = .next t ∧
        t.time = { s.time with cue := none, transport := .paused, pauseStart := some s.startTick } ∧ TakeHeld s t ∧
        t.port = (s.report (.cueReached cue s.startTick)).port) ∧
    (∀ cue, s.time.cue = some cue → s.time.transport ≠ .stopped → cue / 20 ≤ s.takeCycle →
      (s.time.transport = .paused ∨ (s.time.mode ≠ .replay ∧ s.time.mode ≠ .duplex)) →
      exec .cueReached s = .next { s with time := { s.time with cue := none } }) ∧
    ((∀ cue, s.time.cue = some cue → s.time.transport = .stopped ∨ s.takeCycle < cue / 20) →
      exec .cueReached s = .next s))

/-- The three Stops (R3, R10, R11, R82, R140): TransportStop in Running and Paused, the end tick of a running take, and the end of
the take clock. The take clock stands at 0, the mode's own blocks are cleared, every key is Idle but those Faulted or Yielded,
and a rest waits for each pedal held above 0. TransportStop is answered Done first, and marks an open link gap; at the end
tick the ReplayComplete report is handed first; in Capture and Duplex each Stop then hands the queue's events and the
TakeSummary. The model's choice in it: log 1, log 11 and log 31, and log 59 for the space field of the Reply on a free line. -/
def Obligations.StopsEndTheTake : Prop :=
  (∀ (tag : Byte) (r s : State), s.restoring = false → s.time.transport ≠ .stopped → r = s.reply tag 5 .done .nothing →
    ∃ t, exec (.transportStop tag) s = .next t ∧ t.time = s.time.stopped ∧ t.now = 0 ∧ s.takeEnded t ∧
      t.link = { s.link with gap := s.link.gap.map (fun g => { g with stopped := true }) } ∧
      r.port.queue <+: t.port.queue ∧ (s.time.mode = .replay → t.port = r.port) ∧
      (s.captureMode = true → Flushed s t r.port.queue .request) ∧
      Touches (footprint (.transportStop tag)) s t) ∧
  (∀ s : State,
    (∀ e, s.time.endTick = some e → s.time.transport = .running → e / 20 ≤ s.takeCycle →
      ∃ t, exec .endTick s = .next t ∧ t.time = s.time.stopped ∧ s.takeEnded t ∧
        (s.report (.replayComplete e)).port.queue <+: t.port.queue ∧
        (s.captureMode = true → Flushed s t (s.report (.replayComplete e)).port.queue .endReached)) ∧
    ((∀ e, s.time.endTick = some e → s.time.transport ≠ .running ∨ s.takeCycle < e / 20) → exec .endTick s = .next s) ∧
    (s.time.transport ≠ .stopped → 214748364 ≤ s.takeCycle →
      ∃ t, exec .clockEnd s = .next t ∧ t.time = s.time.stopped ∧ s.takeEnded t ∧
        (s.captureMode = true → Flushed s t s.port.queue .clockEnd)) ∧
    (s.time.transport = .stopped ∨ s.takeCycle < 214748364 → exec .clockEnd s = .next s))

/-! ### Jobs, releases and yields (R126, R153, R157) -/

/-- JOB_START (R157, R158, R134): at the first tick of a cycle whose test is still to be made, in Calibrate, DRIVING and a running
take, the job at the head becomes current and its first strike is admitted at the earliest tick, with its Attack at the
job's least drive and its Off one attack duration later. A test that finds a job current, no job, or a condition failing
is over for this cycle; where no test is due nothing changes. R158: a first strike that finds no room stands Pending, and is not
asked again at that cycle start, whatever its frame makes free. The model's choice in it: log 7. -/
def Obligations.AJobStartsWithItsFirstStrike : Prop :=
  (∀ (j : Job) (rest : List Job) (s : State), Keyed j.key → s.calib.queue = j :: rest → s.calib.current = none →
      s.calib.testDue = true → s.time.tick = 0 → s.time.mode = .calibrate → s.link.state = .driving →
      s.time.transport = .running → (s.driverOf j.key).any s.isHot = false → s.refusal j.key = none →
      2 ≤ s.freeEntries → (s.driveOf j.key).notes = [] → (s.driveOf j.key).rearmBase = none →
      ∃ t c, exec .jobStart s = .next t ∧ t.calib = { queue := j :: rest, current := some c, testDue := false } ∧
        c.job = j ∧ c.state = .admitted ∧ c.level = 0 ∧ c.strike = 1 ∧ c.samples = [] ∧ c.planned = s.earliest ∧
        c.scalars = s.jobScalars j.slot ∧
        (∃ a ∈ t.sched.entries, a.kind = .attack ∧ a.target = j.key ∧ a.onset = s.earliest ∧ a.level = j.minDrive ∧
          a.via = none) ∧
        (∃ o ∈ t.sched.entries, o.kind = .off ∧ o.target = j.key ∧
          o.onset = s.earliest + ticksUp (s.jobScalars j.slot).attack) ∧
        t.duplex = s.duplex ∧ t.port = s.port) ∧
  (∀ s : State,
      (s.calib.testDue = true → s.time.tick = 0 →
        (s.calib.current ≠ none ∨ s.calib.queue = [] ∨ s.time.mode ≠ .calibrate ∨ s.link.state ≠ .driving ∨
          s.time.transport ≠ .running) →
        exec .jobStart s = .next { s with calib := { s.calib with testDue := false } }) ∧
      (s.calib.testDue = false ∨ s.time.tick ≠ 0 → exec .jobStart s = .next s)) ∧
  (∀ (c : CurrentJob) (s : State), s.calib.current = none → s.time.linkLeft = .none → s.time.waiting = [] →
      s.advanceCycle.startJob.calib.current = some c → c.state = .pending →
      ∃ t, exec (.cycleStart [.jobStart]) s = .next t ∧ t.calib.current = some c)

/-- RELEASE_END_EXPIRY (R126): at the tick its release end names, a Releasing key becomes Idle; a key in any other state keeps
it. YIELD_WAIT_END (R153): when the rest count has reached the requirement the wait ends, the level is kept and the key is
no longer Yielded. The model's choice in it: log 27 and log 36. -/
def Obligations.ReleaseAndYieldEnds : Prop :=
  (∀ (k r : Nat) (s : State), Keyed k → (s.driveOf k).releaseEnd = some r →
      ((s.driveOf k).state = .releasing → s.time.takeBase ≠ none → r ≤ s.startTick + 19 → s.faulted k = false →
        s.waitingYield k = false → (s.driveOf k).driven = false → s.armed k = false →
        exec (.releaseEndExpiry k) s = .next (State.setDrive
          { s with time := { s.time with tick := max s.time.tick (r - s.startTick) } } k { s.driveOf k with state := .idle })) ∧
      ((s.driveOf k).state ≠ .releasing ∨ s.startTick + 19 < r → exec (.releaseEndExpiry k) s = .next s)) ∧
  (∀ (k y : Nat) (s : State), Keyed k → (s.yieldOf k).requirement = some y →
      (y ≤ (s.yieldOf k).rest → ∃ t, exec (.yieldWaitEnd k) s = .next t ∧
        t.yieldOf k = { requirement := none, rest := 0, level := (s.yieldOf k).level } ∧ (t.driveOf k).state ≠ .yielded ∧
        (∀ j, j ≠ k → t.yieldOf j = s.yieldOf j ∧ t.driveOf j = s.driveOf j) ∧ t.duplex.windows = s.duplex.windows ∧
        t.sched.entries = s.sched.entries ∧ Touches { sched := true, duplex := true } s t) ∧
      ((s.yieldOf k).rest < y → exec (.yieldWaitEnd k) s = .next s))

/-- Contention (R152, R141) gives the key to the pianist: its window, its entries and its notes are gone, a driven key gets its
immediate Off, the key is Yielded, and it waits yieldBase times 2 to its level, which rises to at most 2. A coil notice
(R44) for a key not yet in the set faults it in the same way, ends its yield wait and keeps its level (R154); its rest count
becomes 0 (the model's choice: log 52). For a key in the set nothing changes. Every other key is untouched: its entries, its
record, its window, its yield record and its fault. -/
def Obligations.WithdrawalsEmptyTheKey : Prop :=
  (∀ (k : Nat) (s : State), Keyed k → s.faulted k = false →
      (s.contend k).windowOf k = none ∧
        (s.contend k).yieldOf k = { requirement := some (s.port.options.yieldBase * 2 ^ (s.yieldOf k).level), rest := 0,
                                    level := min ((s.yieldOf k).level + 1) 2 } ∧
        (s.contend k).sched.entries = s.sched.entries.filter (fun e => !e.ofKey k) ∧ ((s.contend k).driveOf k).notes = [] ∧
        ((s.contend k).driveOf k).state = .yielded ∧ ((s.contend k).driveOf k).driven = false ∧
        ((s.driveOf k).driven = true → ((s.contend k).driveOf k).immediateOff = true) ∧
        (s.contend k).count .contention = countUp (s.count .contention) ∧
        ∀ j, j ≠ k → (s.contend k).driveOf j = s.driveOf j ∧ (s.contend k).yieldOf j = s.yieldOf j ∧
          (s.contend k).windowOf j = s.windowOf j ∧ (s.contend k).faulted j = s.faulted j) ∧
  (∀ (k : Nat) (s : State), Keyed k →
      (s.faulted k = false →
        (s.coilFault k).2 = .applied ∧ (s.coilFault k).1.faulted k = true ∧
        ((s.coilFault k).1.driveOf k).state = .faulted ∧ ((s.coilFault k).1.driveOf k).notes = [] ∧
        ((s.coilFault k).1.driveOf k).driven = false ∧
        ((s.driveOf k).driven = true → ((s.coilFault k).1.driveOf k).immediateOff = true) ∧
        (s.coilFault k).1.sched.entries = s.sched.entries.filter (fun e => !e.ofKey k) ∧
        (s.coilFault k).1.windowOf k = none ∧
        (s.coilFault k).1.yieldOf k = { requirement := none, rest := 0, level := (s.yieldOf k).level } ∧
        ∀ j, j ≠ k → (s.coilFault k).1.faulted j = s.faulted j ∧ (s.coilFault k).1.yieldOf j = s.yieldOf j ∧
          (s.coilFault k).1.driveOf j = s.driveOf j ∧ (s.coilFault k).1.windowOf j = s.windowOf j) ∧
      (s.faulted k = true → s.coilFault k = (s, .noChange)))

/-! ### The Action Link (R21 to R37) -/

/-- R21: a frame that arrives when no expiry runs, or once it has run out, is discarded; an expiry that is not running cannot run
out. A valid return in time is recorded with its time (R25: in WAKING it counts toward the sixteen that lead to ALIGNING,
and nothing else changes before the sixteenth) and is handed on by the link state (R22): the notice slot, then in READY
and DRIVING the missing sections and the hand-over to the Capture Tracker, then the slow bytes; in LOST the sixteenth
ends the loss. An ordinary return, with no notice, every section there and no multiframe complete, gives the hand-over
alone. R23, R25: a missing return, by expiry or by a frame that fails its tests, changes the counts, the echo (R40) and the
multiframe; in WAKING and LOST, and before the third in ALIGNING, that is all; in READY and DRIVING the lost cycle is then handed
over; the third in a row in these three takes the link to LOST. The model's choice in it: log 4, log 10, log 50 and log 54. -/
def Obligations.ReturnsAreJudged : Prop :=
  (∀ (elapsed : Nat) (bytes : List Byte) (s : State),
      (s.link.expiry = none ∨ 160 ≤ elapsed → exec (.returnFrame elapsed bytes) s = .next s) ∧
      (s.link.expiry = none → exec .returnExpiry s = .next s)) ∧
  (∀ (c elapsed : Nat) (bytes : List Byte) (s : State), s.link.expiry = some c → elapsed < 160 →
      returnGood c bytes = true →
      (∃ t, exec (.returnFrame elapsed bytes) s = .next t ∧ t.link.returnTime = elapsed ∧ t.link.expiry = none) ∧
      (s.link.state = .waking → s.link.valid < 15 → exec (.returnFrame elapsed bytes) s = .next
        { s with link := { s.link with returnTime := elapsed, expiry := none, valid := s.link.valid + 1, missing := 0,
                                       echo := .idle } }) ∧
      (s.link.state = .waking → s.link.valid = 15 → ∃ t, exec (.returnFrame elapsed bytes) s = .next t ∧
        t.link.state = .aligning ∧ t.link.valid = 0 ∧ t.link.roster = s.link.roster) ∧
      (s.link.state = .aligning → exec (.returnFrame elapsed bytes) s = .next
        (((s.returnTaken elapsed).takeSlot c (readReturn bytes).slot).slowChannel c (readReturn bytes))) ∧
      (s.link.state = .ready ∨ s.link.state = .driving → exec (.returnFrame elapsed bytes) s = .next
        (((allStations.foldl (fun s b => s.countSection (readReturn bytes).sections b)
          ((s.returnTaken elapsed).takeSlot c (readReturn bytes).slot)).handOver c (readReturn bytes).sections).slowChannel c
            (readReturn bytes))) ∧
      (s.link.state = .lost →
        ∃ u, u = ((s.returnTaken elapsed).takeSlot c (readReturn bytes).slot).slowChannel c (readReturn bytes) ∧
          exec (.returnFrame elapsed bytes) s = .next (if 16 ≤ u.link.valid then u.recover else u)) ∧
      (s.link.state = .ready ∨ s.link.state = .driving → judgeSlot (readReturn bytes).slot = .empty → c % 16 ≠ 15 →
        (∀ b e, s.stationOf b = some e → e.missing = 0 ∧ (sectionOf (readReturn bytes).sections b).isSome = true) →
        exec (.returnFrame elapsed bytes) s = .next (State.collect (State.handOver
          { s with link := { s.link with returnTime := elapsed, expiry := none, valid := countUp s.link.valid, missing := 0,
                                         echo := .idle } } c (readReturn bytes).sections) c (readReturn bytes)))) ∧
  (∀ (c elapsed : Nat) (bytes : List Byte) (s u : State), s.link.expiry = some c → s.link.missing < 65535 →
      u = { s with link := { s.link with
        expiry := none, valid := 0, missing := s.link.missing + 1, collection := none,
        echo := if s.link.state = .waking ∨ s.link.state = .down then .idle else .collision,
        firstMissing := if s.link.missing = 0 then c else s.link.firstMissing } } →
      (s.link.state = .waking ∨ s.link.state = .lost → exec .returnExpiry s = .next u) ∧
      (s.link.state = .aligning → s.link.missing < 2 → exec .returnExpiry s = .next u) ∧
      (s.link.state = .aligning → 2 ≤ s.link.missing → exec .returnExpiry s = .next (u.enterLink .lost .missing)) ∧
      (s.link.state = .ready ∨ s.link.state = .driving → s.link.missing < 2 →
        exec .returnExpiry s = .next (u.handOverLost c)) ∧
      (s.link.state = .ready ∨ s.link.state = .driving → 2 ≤ s.link.missing →
        exec .returnExpiry s = .next ((u.handOverLost c).enterLink .lost .missing)) ∧
      (elapsed < 160 → returnGood c bytes = false →
        exec (.returnFrame elapsed bytes) s = exec .returnExpiry s))

/-- R29, R36, R37, R72: the third consecutive missing return in DRIVING takes the link to LOST: the loss is counted, the
recovery limit starts, a gap opens at the first missing cycle, every depression is closed, every window is gone, and a
running take will pause at the next cycle start. RECOVERY_LIMIT_EXPIRY (R29, R25): in LOST, 500 cycle starts after its
entry, the link enters WAKING with the roster cleared and the echo of the last return still to go out (R39); otherwise
nothing changes. The model's choice in it: log 1. -/
def Obligations.TheLinkIsLostAndWakes : Prop :=
  (∀ (c : Nat) (s : State), s.link.expiry = some c → s.link.state = .driving → s.link.missing = 2 → s.link.gap = none →
      ∃ t, exec .returnExpiry s = .next t ∧ t.link.state = .lost ∧
        t.link.recovery = some { cycles := 0, source := .driving } ∧ t.link.valid = 0 ∧ t.link.missing = 0 ∧
        t.link.gap = some { firstMissing := s.link.firstMissing, stopped := false } ∧
        t.count .linkLosses = countUp (s.count .linkLosses) ∧ t.noWindows ∧ t.calib.current = none ∧ t.calib.queue = [] ∧
        (∀ k, Keyed k → (t.trackerOf k).state = .atRest ∨ (t.trackerOf k).state = .blind) ∧
        t.time.linkLeft = (if s.time.transport = .running then .armed else s.time.linkLeft) ∧ t.link.roster = s.link.roster) ∧
  (∀ s : State,
      (∀ r, s.link.state = .lost → s.link.recovery = some r → 500 ≤ r.cycles →
        ∃ t, exec .recoveryLimitExpiry s = .next t ∧ t.link.state = .waking ∧ t.link.recovery = none ∧
          (∀ b, t.stationOf b = none) ∧ t.link.valid = 0 ∧ t.link.missing = 0 ∧
          t.link.permit = s.link.permit ∧ t.link.echo = s.link.echo ∧
          t.link.gap = s.link.gap ∧ t.sched.entries = s.sched.entries ∧
          (∀ k, Keyed k → t.driveOf k = { s.driveOf k with immediateOff := false })) ∧
      ((s.link.state ≠ .lost ∨ ∀ r, s.link.recovery = some r → r.cycles < 500) → exec .recoveryLimitExpiry s = .next s))

/-- R26, R31: the slow bytes of each valid return outside WAKING join the multiframe being collected, which begins with a cycle
divisible by 16; the return of a cycle 15 modulo 16 completes it, and where all sixteen are there the roster check is made on it in
ALIGNING, and its records are taken in the other states; a station's record is read from its sixteen bytes in order.
The roster check of R27: its three tests in their order and the lowest key or pedal it names; in ALIGNING a failing check
keeps the state and the roster and reports a reason that differs from the last, a passing one makes the records the roster
and enters READY, or DRIVING as R28 gives. R29: the sixteenth valid return in LOST leads to ALIGNING when LOST was entered
from it, the roster is changed or empty, and else to READY or DRIVING; there the gap of R37 closes, with its LinkGap event
while a take captures. The model's choice in it: log 24. -/
def Obligations.RosterChecksAndRecovery : Prop :=
  (∀ (cycle : Nat) (x : Return) (s : State), ∃ l, l = (s.collect cycle x).link.collection ∧
      s.collect cycle x = { s with link := { s.link with collection := l } } ∧
      (cycle % 16 ≠ 0 → s.link.collection = none → l = none) ∧
      (cycle % 16 = 0 → ∃ m, l = some m ∧ m.positions = [x.position] ∧
        ∀ b, 1 ≤ b → b ≤ 8 → nth m.bytes b [] = ((sectionOf x.sections b).map (fun y => y.slow)).toList) ∧
      (∀ m, cycle % 16 ≠ 0 → s.link.collection = some m → ∃ n, l = some n ∧ n.positions = x.position :: m.positions ∧
        ∀ b, 1 ≤ b → b ≤ 8 →
          nth n.bytes b [] = ((sectionOf x.sections b).map (fun y => y.slow)).toList ++ nth m.bytes b []) ∧
      (∀ m u, cycle % 16 = 15 → l = some m → m.positions.length = 16 →
        u = { s with link := { s.link with collection := none } } →
        (s.link.state = .aligning → s.slowChannel cycle x = u.rosterCheck m) ∧
        (s.link.state ≠ .aligning → s.slowChannel cycle x = u.takeRecords m)) ∧
      ((cycle % 16 ≠ 15 ∨ ∀ m, l = some m → m.positions.length ≠ 16) → s.slowChannel cycle x = s.collect cycle x)) ∧
  (∀ (m : Collection) (b : Nat) (r : StationRecord),
      (b, r) ∈ m.records ↔ 1 ≤ b ∧ b ≤ 8 ∧ readRecord (nth m.bytes b []).reverse = some r) ∧
  (∀ (n keyCount : Nat) (positions : List Nat) (records : List StationRecord),
      (rosterFailure n keyCount positions records = none ↔ (∀ p ∈ positions, p = n) ∧ records.length = n ∧
        (∀ k, Keyed k → keyCovered keyCount records k) ∧ ∀ q, 1 ≤ q → q ≤ 3 → pedalCovered records q) ∧
      (rosterFailure n keyCount positions records = some (.count, none) ↔
        ¬((∀ p ∈ positions, p = n) ∧ records.length = n)) ∧
      (∀ k, rosterFailure n keyCount positions records = some (.keys, some k) ↔ (∀ p ∈ positions, p = n) ∧
        records.length = n ∧ Keyed k ∧ ¬keyCovered keyCount records k ∧
        ∀ j, Keyed j → j < k → keyCovered keyCount records j) ∧
      (∀ q, rosterFailure n keyCount positions records = some (.pedals, some q) ↔ (∀ p ∈ positions, p = n) ∧
        records.length = n ∧ (∀ k, Keyed k → keyCovered keyCount records k) ∧ 1 ≤ q ∧ q ≤ 3 ∧ ¬pedalCovered records q ∧
        ∀ j, 1 ≤ j → j < q → pedalCovered records j)) ∧
  (∀ (c : Collection) (s : State), s.link.state = .aligning →
      (∀ reason lowest, rosterFailure ((s.port.profile.map Profile.stations).getD 0) s.keyCount c.positions
          (c.records.map (fun r => r.2)) = some (reason, lowest) →
        s.rosterCheck c =
          if s.link.lastReason = some reason then s
          else State.report { s with link := { s.link with lastReason := some reason } }
            (.rosterFault reason (c.positions.headD 0) c.records.length lowest)) ∧
      (rosterFailure ((s.port.profile.map Profile.stations).getD 0) s.keyCount c.positions
          (c.records.map (fun r => r.2)) = none →
        (s.rosterCheck c).link.state =
          (if s.port.profile.any Profile.autoPermit = true ∨ s.link.permit = true then .driving else .ready) ∧
        (s.rosterCheck c).link.permit = false ∧ (s.rosterCheck c).link.rosterChanged = false ∧
        ∀ b, 1 ≤ b → b ≤ 8 → (s.rosterCheck c).stationOf b = (c.records.lookup b).map (fun r =>
          { present := true, role := r.role, firstKey := r.firstKey, lastKey := r.lastKey, pedals := r.pedals,
            temperature := if -20 ≤ r.temperature ∧ r.temperature ≤ 125 then r.temperature else 25,
            measured := decide (-20 ≤ r.temperature ∧ r.temperature ≤ 125), alpha := r.alpha, arrival := r.arrival,
            latency := r.latency, missing := 0 }))) ∧
  (∀ (c elapsed : Nat) (bytes : List Byte) (x : Recovery) (s : State), s.link.expiry = some c → elapsed < 160 →
      returnGood c bytes = true → s.link.state = .lost → s.link.valid = 15 → s.link.recovery = some x →
      judgeSlot (readReturn bytes).slot = .empty → c % 16 ≠ 15 →
      ∃ t, exec (.returnFrame elapsed bytes) s = .next t ∧ t.link.recovery = none ∧ t.link.roster = s.link.roster ∧
        ((x.source = .aligning ∨ s.link.rosterChanged = true ∨ ∀ b, s.stationOf b = none) →
          t.link.state = .aligning ∧ t.link.gap = s.link.gap ∧ t.capture = s.capture) ∧
        (x.source ≠ .aligning → s.link.rosterChanged = false → (∃ b, s.stationOf b ≠ none) →
          t.link.state =
            (if s.port.profile.any Profile.autoPermit = true ∨ s.link.permit = true then .driving else .ready) ∧
          t.link.permit = false ∧ t.link.gap = none ∧
          (∀ g first, s.link.gap = some g → s.capturing = true → g.stopped = false →
            first = (if s.takeCycle < (s.time.linkCycle + 4294967296 - g.firstMissing) % 4294967296 then 0
                     else s.takeCycleOf g.firstMissing) →
            t.capture = (s.takeEvent { kind := .linkGap, voice := 0, stamp := 20 * first,
                                       value := min 65535 (s.takeCycle - first + 1) }).capture) ∧
          ((s.capturing = false ∨ ∀ g, s.link.gap = some g → g.stopped = true) → t.capture = s.capture)))

/-- R33: at a valid return in READY or DRIVING a section clears its station's count of missing sections and a missing one adds to
it; the eighth makes the entry Absent, and its keys and pedals lose drive (no Attack, Hold or PedalSet left, a driven key
released), its keys their windows and their open depressions, the take its completeness, and a job on one of its keys ends.
R31, R34: an agreeing record brings its entry up to date, an Absent one becoming Present; a record that differs or has no
entry leads READY and DRIVING to ALIGNING and marks the roster changed in LOST; a record outside the station record table
is discarded. The model's choice in it: log 33, log 34 and log 44. -/
def Obligations.StationsComeAndGo : Prop :=
  (∀ (sections : Vector (Option SectionReport) 8) (b : Nat) (e : RosterEntry) (s : State), s.stationOf b = some e →
      ((sectionOf sections b).isSome = true → s.countSection sections b = s.setStation b { e with missing := 0 }) ∧
      (sectionOf sections b = none → e.present = false → s.countSection sections b = s) ∧
      (sectionOf sections b = none → e.present = true → e.missing < 7 →
        s.countSection sections b = s.setStation b { e with missing := e.missing + 1 }) ∧
      (sectionOf sections b = none → e.present = true → 7 ≤ e.missing →
        ∃ t, t = s.countSection sections b ∧ t.stationOf b = some { e with present := false, missing := 8 } ∧
          (∀ a, a ≠ b → t.stationOf a = s.stationOf a) ∧
          (∀ k, Keyed k → e.hasKey k = true → t.windowOf k = none) ∧
          (e.role ≠ .scanner →
            (∀ x ∈ t.sched.entries, (Keyed x.target ∨ x.kind = .pedalSet) → e.drivesEntry x = false) ∧
            ∀ k, Keyed k → e.hasKey k = true → (t.driveOf k).driven = false ∧
              ((s.driveOf k).driven = true → (t.driveOf k).immediateOff = true)) ∧
          (e.role ≠ .driver →
            (∀ k, Keyed k → e.hasKey k = true → (t.trackerOf k).state = .atRest ∨ (t.trackerOf k).state = .blind) ∧
            (s.capturing = true → s.capture.summary.takeOpen = true → t.capture.summary.incomplete = true)) ∧
          ∀ c, s.calib.current = some c → e.hasKey c.job.key = true → t.calib.current = none)) ∧
  (∀ (b : Nat) (r : StationRecord) (e : RosterEntry) (s : State), s.stationOf b = some e →
      ((e.role ≠ r.role ∨ e.firstKey ≠ r.firstKey ∨ e.lastKey ≠ r.lastKey ∨ e.pedals ≠ r.pedals) →
        s.updateStation (b, r) = s) ∧
      (e.role = r.role → e.firstKey = r.firstKey → e.lastKey = r.lastKey → e.pedals = r.pedals →
        s.updateStation (b, r) = s.setStation b
          { e with
            present := true, missing := if e.present then e.missing else 0, alpha := r.alpha, arrival := r.arrival,
            latency := r.latency,
            temperature := if -20 ≤ r.temperature ∧ r.temperature ≤ 125 then r.temperature else e.temperature,
            measured := e.measured || decide (-20 ≤ r.temperature ∧ r.temperature ≤ 125) })) ∧
  (∀ (c : Collection) (s : State),
      (∀ x ∈ c.wholeRecords, x ∈ c.records ∧ x.2.pedals < 8) ∧
      ((∀ x ∈ c.wholeRecords, ∃ e, s.stationOf x.1 = some e ∧ e.agrees x.2 = true) →
        s.takeRecords c = c.wholeRecords.foldl State.updateStation s) ∧
      ((∃ x ∈ c.wholeRecords, ∀ e, s.stationOf x.1 = some e → e.agrees x.2 = false) →
        ((s.link.state = .ready ∨ s.link.state = .driving) → (s.takeRecords c).link.state = .aligning ∧
          (s.takeRecords c).link.gap = some (s.link.gap.getD { firstMissing := s.time.linkCycle, stopped := false })) ∧
        (s.link.state = .driving → (s.takeRecords c).noWindows ∧ (s.takeRecords c).calib.queue = [] ∧
          (s.takeRecords c).calib.current = none) ∧
        (s.link.state = .lost →
          (s.takeRecords c).link.state = .lost ∧ (s.takeRecords c).link.rosterChanged = true)))

/-- LinkStart (R24, R25): from DOWN, with a profile, the link wakes with no roster; without a profile it is refused with
STATE; in any other state it is answered Done. LinkStop (R24, R36, R37): the link is DOWN at once, with the permit cleared,
no expiry and the roster kept; from READY or DRIVING a gap is opened at the cycle in progress; in DOWN it is answered
Done. DrivePermit in every link state (R28). The model's choice in it: log 11. -/
def Obligations.LinkRequests : Prop :=
  (∀ (tag : Byte) (s : State), s.port.restart = .none → s.restoring = false →
      (s.link.state = .down → s.port.profile ≠ none →
        ∃ t, exec (.linkStart tag) s = .next t ∧ t.link.state = .waking ∧ (∀ b, t.stationOf b = none) ∧
          t.link.rosterChanged = false ∧ t.link.valid = 0 ∧ t.link.missing = 0 ∧ t.link.echo = .idle ∧
          t.port = ((s.reply tag 7 .done .nothing).report (.linkState .waking .down s.time.linkCycle .request)).port ∧
          Touches { link := true, sched := true, port := true } s t) ∧
      (s.link.state = .down → s.port.profile = none →
        exec (.linkStart tag) s = .next (s.reply tag 7 .state .nothing)) ∧
      (s.link.state ≠ .down → exec (.linkStart tag) s = .next (s.reply tag 7 .done .nothing))) ∧
  (∀ (tag : Byte) (s : State), s.port.restart = .none → s.restoring = false →
      (s.link.state ≠ .down → ∃ t, exec (.linkStop tag) s = .next t ∧ t.link.state = .down ∧ t.link.permit = false ∧
        t.link.expiry = none ∧ t.link.echo = .idle ∧ t.link.valid = 0 ∧ t.link.missing = 0 ∧
        t.link.roster = s.link.roster ∧
        t.link.gap = (if (s.link.state = .ready ∨ s.link.state = .driving) ∧ s.link.gap = none
                      then some { firstMissing := s.time.linkCycle, stopped := false } else s.link.gap) ∧
        (s.link.state = .driving → t.noWindows ∧ t.calib.queue = [] ∧ t.calib.current = none)) ∧
      (s.link.state = .down → exec (.linkStop tag) s = .next (s.reply tag 8 .done .nothing))) ∧
  (∀ (tag : Byte) (s : State), s.port.restart = .none → s.restoring = false →
      (s.link.state = .down → exec (.drivePermit tag) s = .next (s.reply tag 9 .state .nothing)) ∧
      (s.link.state = .waking ∨ s.link.state = .aligning ∨ s.link.state = .lost →
        exec (.drivePermit tag) s = .next
          (State.reply { s with link := { s.link with permit := true } } tag 9 .done .nothing)) ∧
      (s.link.state = .ready →
        ∃ t, exec (.drivePermit tag) s = .next t ∧
          t.link = { s.link with state := .driving, permit := false, valid := 0, missing := 0, recovery := none } ∧
          t.port = ((s.reply tag 9 .done .nothing).report
            (.linkState .driving .ready s.time.linkCycle .request)).port ∧
          Touches { link := true, port := true } s t) ∧
      (s.link.state = .driving → exec (.drivePermit tag) s = .next (s.reply tag 9 .done .nothing)))

/-- ReadRoster, ReadKeySense, ReadDescriptor and ReadPage: each answers from the state held, or is refused with RANGE, or with
BUSY while a restore is in flight, and changes nothing but the transmit side. A save in flight does not refuse them
(R32, R50, R54, R88, R93). Which of a set and a voice both out of range is named, TableWritesRefuseBadFields says. -/
def Obligations.ReadsChangeNothing : Prop :=
  (∀ (tag : Byte) (set voice type number : Nat) (s : State), s.port.restart = .none →
      exec (.readRoster tag) s = .next (if s.restoring then s.reply tag 10 .busy .nothing else
        s.reply tag 10 .done (.roster s.link.roster.toList s.link.state s.link.permit s.link.rosterChanged
          (allStations.map (fun b => (s.supplyIsLow b, s.isHot b))) (allKeys.filter s.faulted))) ∧
      exec (.readKeySense tag type number) s = .next (if s.restoring then s.reply tag 13 .busy .nothing else
        if type = 1 then
          if 1 ≤ number ∧ number ≤ 97 then s.reply tag 13 .done (.keySense (s.keySense number))
          else s.reply tag 13 .range (.field 2)
        else if type = 2 then
          if 1 ≤ number ∧ number ≤ 3 then s.reply tag 13 .done (.pedalSense (s.pedalSense number))
          else s.reply tag 13 .range (.field 2)
        else s.reply tag 13 .range (.field 1)) ∧
      (set ≤ 3 ∨ voice ≤ 127 →
        exec (.readDescriptor tag set voice) s = .next (if s.restoring then s.reply tag 15 .busy .nothing else
          if 3 < set then s.reply tag 15 .range (.field 1)
          else if 127 < voice then s.reply tag 15 .range (.field 2)
          else s.reply tag 15 .done (.descriptor ((s.mem.descriptor set voice).getD clearedDescriptor)))) ∧
      (3 < set → 127 < voice → ∃ place, (place = 1 ∨ place = 2) ∧
        exec (.readDescriptor tag set voice) s = .next (if s.restoring then s.reply tag 15 .busy .nothing else
          s.reply tag 15 .range (.field place)))) ∧
  (∀ (tag : Byte) (slot : Nat) (s : State), s.port.restart = .none →
      exec (.readPage tag slot) s = .next (if s.restoring then s.reply tag 17 .busy .nothing
        else if 511 < slot then s.reply tag 17 .range (.field 1)
        else s.reply tag 17 .done (.page (s.mem.page slot))))

/-! ### Station notices (R39, R43 to R49) -/

/-- R39, R43: a returned slot sets the echo, and a notice is acted on and reported; one of no kind, of no key or of no gate is
Ignored. SupplyLow, SupplyRestored (R47), OverTemperature, OverTemperatureClear (R48): the station's condition is set or
cleared, NoChange where it stands; on SupplyLow a driving station's keys and pedals lose drive and their windows, on
OverTemperature its entries' levels are lowered to 768 and Saturated counts each one lowered. SensorBlinded, SensorRestored
(R46, R70, R71): the tracker goes Blind, its depression closed and its window removed, and comes back to AtRest. Rejoin
(R49): the station's conditions and the trackers it blinded are cleared. The model's choice in it: log 11 and log 30. -/
def Obligations.NoticesSetConditions : Prop :=
  (∀ (cycle : Nat) (slot : List Byte) (n : Notice) (s : State),
      (judgeSlot slot = .empty → s.takeSlot cycle slot = { s with link := { s.link with echo := .idle } }) ∧
      (judgeSlot slot = .spoiled → s.takeSlot cycle slot = { s with link := { s.link with echo := .collision } }) ∧
      (judgeSlot slot = .notice n → s.takeSlot cycle slot =
        State.acceptNotice { s with link := { s.link with echo := .accepted n.station } } cycle n)) ∧
  (∀ (cycle : Nat) (n : Notice) (s : State),
      ((n.kind = 0 ∨ 9 < n.kind ∨
          ((n.kind = 1 ∨ n.kind = 2 ∨ n.kind = 7 ∨ n.kind = 8) ∧ (n.key = 0 ∨ s.keyCount < n.key)) ∨
          (n.kind = 7 ∧ (n.gate = 0 ∨ 4 < n.gate))) →
        s.acceptNotice cycle n = s.report (.noticeAccepted n.station n.kind n.key n.gate cycle .ignored)) ∧
      (∀ d : State × NoticeEffect,
        (((n.kind = 1 ∨ n.kind = 2) ∧ 1 ≤ n.key ∧ n.key ≤ s.keyCount ∧ d = s.coilFault n.key) ∨
          (n.kind = 3 ∧ d = s.supplyFalls n.station) ∨ (n.kind = 4 ∧ d = s.heats n.station) ∨
          (n.kind = 5 ∧ d = s.supplyReturns n.station) ∨ (n.kind = 6 ∧ d = s.cools n.station) ∨
          (n.kind = 7 ∧ 1 ≤ n.key ∧ n.key ≤ s.keyCount ∧ 1 ≤ n.gate ∧ n.gate ≤ 4 ∧
            d = s.sensorBlinded n.station n.key) ∨
          (n.kind = 8 ∧ 1 ≤ n.key ∧ n.key ≤ s.keyCount ∧ d = s.sensorRestored n.key) ∨
          (n.kind = 9 ∧ d = s.rejoins n.station)) →
        s.acceptNotice cycle n = d.1.report (.noticeAccepted n.station n.kind n.key n.gate cycle d.2))) ∧
  (∀ (b : Nat) (s t : State), 1 ≤ b → b ≤ 8 →
      (s.supplyIsLow b = true → s.supplyFalls b = (s, .noChange) ∧
        s.supplyReturns b = (s.setSupplyLow b false, .applied)) ∧
      (s.supplyIsLow b = false → s.supplyReturns b = (s, .noChange) ∧ (s.supplyFalls b).2 = .applied ∧
        ((∀ e, s.stationOf b = some e → e.role = .scanner) → (s.supplyFalls b).1 = s.setSupplyLow b true) ∧
        (∀ e, s.stationOf b = some e → e.role ≠ .scanner → t = (s.supplyFalls b).1 → t.supplyIsLow b = true ∧
          (∀ x ∈ t.sched.entries, (Keyed x.target ∨ x.kind = .pedalSet) → e.drivesEntry x = false) ∧
          (∀ k, Keyed k → e.hasKey k = true → t.windowOf k = none ∧ (t.driveOf k).driven = false ∧
            ((s.driveOf k).driven = true → (t.driveOf k).immediateOff = true)) ∧
          t.tracker = s.tracker ∧ t.link.roster = s.link.roster)) ∧
      (s.isHot b = true → s.cools b = (s.setOverTemp b false, .applied) ∧
        (s.calib.current = none → s.heats b = (s, .noChange))) ∧
      (s.isHot b = false → s.cools b = (s, .noChange) ∧ (s.heats b).2 = .applied ∧ (s.heats b).1.isHot b = true ∧
        (s.calib.current = none →
          ((∀ e, s.stationOf b = some e → e.role = .scanner) → (s.heats b).1 = s.setOverTemp b true) ∧
          (∀ e, s.stationOf b = some e → e.role ≠ .scanner →
            (s.heats b).1.sched.entries = s.sched.entries.map (fun x =>
              if e.drivesEntry x then { x with level := min x.level 768, holdLevel := min x.holdLevel 768 } else x) ∧
            (s.count .saturated + s.sched.entries.length ≤ 65535 → (s.heats b).1.count .saturated = s.count .saturated +
              (s.sched.entries.filter
                (fun x => e.drivesEntry x && (decide (768 < x.level) || decide (768 < x.holdLevel)))).length)))) ∧
      (∀ c, s.calib.current = some c → s.driverOf c.job.key = some b →
        ((∃ l ∈ jobLevels c.job, 768 < l) ∨ 768 < c.scalars.hold) → (s.heats b).1.calib.current = none)) ∧
  (∀ (b k : Nat) (s t : State), Keyed k → t = (s.sensorBlinded b k).1 →
      t.blinderOf k = some b ∧ (t.trackerOf k).state = .blind ∧ t.windowOf k = none ∧
      (∀ j, j ≠ k → t.trackerOf j = s.trackerOf j ∧ t.windowOf j = s.windowOf j) ∧
      ((s.trackerOf k).state = .blind → (s.sensorBlinded b k).2 = .noChange ∧ t.tracker = s.tracker ∧
        t.capture = s.capture) ∧
      ((s.trackerOf k).state ≠ .blind → (s.sensorBlinded b k).2 = .applied ∧
        ((s.trackerOf k).state ≠ .atRest → (s.trackerOf k).sounded = true → s.capturing = true →
          t.capture = (s.takeEvent
            { kind := .release, voice := k, value := 0,
              stamp := max s.startTick (((s.trackerOf k).lastStamp.map (· + 1)).getD 0) }).capture) ∧
        ((s.trackerOf k).sounded = false → t.capture = s.capture)) ∧
      (s.sensorRestored k =
        if (s.trackerOf k).state = .blind then
          ((s.setTracker k { state := .atRest, h1 := none, sounded := false, owner := .performer,
                             lastStamp := (s.trackerOf k).lastStamp }).setBlinder k none, .applied)
        else (s, .noChange))) ∧
  (∀ (b : Nat) (s t : State), 1 ≤ b → b ≤ 8 → t = (s.rejoins b).1 →
      t.supplyIsLow b = false ∧ t.isHot b = false ∧ t.link.roster = s.link.roster ∧ t.link.faults = s.link.faults ∧
      ((s.rejoins b).2 = .applied ↔ s.supplyIsLow b = true ∨ s.isHot b = true ∨ ∃ k, Keyed k ∧ s.blinderOf k = some b) ∧
      ∀ k, Keyed k →
        (s.blinderOf k = some b → t.blinderOf k = none ∧ t.trackerOf k =
          if (s.trackerOf k).state = .blind then
            { state := .atRest, h1 := none, sounded := false, owner := .performer,
              lastStamp := (s.trackerOf k).lastStamp }
          else s.trackerOf k) ∧
        (s.blinderOf k ≠ some b → t.blinderOf k = s.blinderOf k ∧ t.trackerOf k = s.trackerOf k))

/-- ClearKeyFault (R45, R126): a named key leaves the set and its drive state is decided anew: Idle, or Releasing while its
release end lies ahead, unless it is waiting, driven or Armed; a key above keyCount is refused; key 0 names all, and every
key of the set is decided anew in the same way. No entry comes back by it, and nothing else of a key's record changes. -/
def Obligations.ClearKeyFaultEmptiesTheSet : Prop :=
  ∀ (tag : Byte) (k : Nat) (s : State), s.port.restart = .none → s.restoring = false →
    (1 ≤ k → k ≤ s.keyCount → k ≤ 97 → ∃ t, exec (.clearKeyFault tag k) s = .next t ∧ t.faulted k = false ∧
      (∀ j, j ≠ k → t.faulted j = s.faulted j ∧ t.driveOf j = s.driveOf j) ∧
      (s.faulted k = false → t = s.reply tag 11 .done .nothing) ∧
      (s.faulted k = true → t.driveOf k = { s.driveOf k with state := s.unfaultedState k }) ∧
      t.sched.entries = s.sched.entries ∧ Touches { link := true, sched := true, port := true } s t) ∧
    (s.keyCount < k → exec (.clearKeyFault tag k) s = .next (s.reply tag 11 .range (.field 1))) ∧
    ∃ t, exec (.clearKeyFault tag 0) s = .next t ∧ (∀ j, t.faulted j = false) ∧ t.sched.entries = s.sched.entries ∧
      ∀ j, Keyed j → t.driveOf j =
        if s.faulted j then { s.driveOf j with state := s.unfaultedState j } else s.driveOf j

/-! ### The Capture Tracker (R51 to R74) -/

/-- R51: a crossing of a Blind key is discarded; one of no key, from a Driver or outside its entry's range counts SensorOrder;
every other is taken. R58 to R65, R67: what each gate's crossing makes of its key's record and of no other; a KR out of an
Armed key in Duplex is contention first; a crossing with no row changes nothing. R63, R64, R68: the SilentPress of a KD
down and the Release of a KR in are handed to the Capture Queue with their raised stamps, or not at all. R61: a rising stroke
older than 65,535 µs is abandoned before a crossing and at the end of a hand-over.
The model's choice in it: log 48. -/
def Obligations.CrossingsMoveTheRecord : Prop :=
  (∀ (cycle : Nat) (e : RosterEntry) (x : Crossing) (s : State),
      (1 ≤ x.key → x.key ≤ s.keyCount → (s.trackerOf x.key).state = .blind → s.judgeCrossing cycle e x = s) ∧
      ((x.key = 0 ∨ s.keyCount < x.key ∨
          ((s.trackerOf x.key).state ≠ .blind ∧ (e.role = .driver ∨ x.key < e.firstKey ∨ e.lastKey < x.key))) →
        s.judgeCrossing cycle e x = s.trackerCount .sensorOrder) ∧
      (1 ≤ x.key → x.key ≤ s.keyCount → (s.trackerOf x.key).state ≠ .blind → e.role ≠ .driver → e.firstKey ≤ x.key →
        x.key ≤ e.lastKey → s.judgeCrossing cycle e x = s.takeCrossing cycle x) ∧
      (∀ j, j ≠ x.key → (s.takeCrossing cycle x).trackerOf j = s.trackerOf j)) ∧
  (∀ (cycle k f stamp : Nat) (r : TrackerRecord) (s : State), Keyed k → s.trackerOf k = r →
      stamp = (s.takeCycleOf cycle * 200 + f) / 10 →
      (r.state = .atRest → ¬(s.taking = true ∧ s.time.mode = .duplex ∧ s.stateOf k = .armed) →
        s.takeCrossing cycle { key := k, gate := some .kr, back := false, fine := f } = s.setTracker k
          { r with state := .down, h1 := none, sounded := false,
                   owner := if s.stateOf k = .sounding ∨ s.stateOf k = .releasing then .replay else .performer }) ∧
      (r.state ≠ .rising → s.taking = true → s.time.mode = .duplex → s.stateOf k = .armed →
        s.takeCrossing cycle { key := k, gate := some .kr, back := false, fine := f } =
          if r.state = .atRest then
            (s.contend k).setTracker k { r with state := .down, h1 := none, sounded := false, owner := .performer }
          else s.contend k) ∧
      (r.state ≠ .atRest → r.state ≠ .blind → r.sounded = false →
        s.takeCrossing cycle { key := k, gate := some .kr, back := true, fine := f } =
          s.setTracker k { r with state := .atRest, h1 := none, owner := .performer }) ∧
      (r.state ≠ .atRest → r.state ≠ .blind → r.sounded = true → ∃ t e, e = max stamp ((r.lastStamp.map (· + 1)).getD 0) ∧
        s.takeCrossing cycle { key := k, gate := some .kr, back := true, fine := f } = t ∧
        t.trackerOf k = { state := .atRest, h1 := none, sounded := false, owner := .performer,
                          lastStamp := if s.capturing then some e else r.lastStamp } ∧
        t.capture = (if s.capturing then
          s.takeEvent { kind := .release, voice := k, stamp := e, value := 0 } else s).capture) ∧
      (r.state = .down →
        (s.captures k → ∃ t e, e = max stamp (r.lastStamp.getD 0) ∧
          s.takeCrossing cycle { key := k, gate := some .kd, back := false, fine := f } = t ∧
          t.trackerOf k = { r with state := .silentHeld, sounded := true, lastStamp := some e } ∧
          t.capture = (s.takeEvent { kind := .silentPress, voice := k, stamp := e, value := 0 }).capture) ∧
        (¬s.captures k → s.takeCrossing cycle { key := k, gate := some .kd, back := false, fine := f } =
          s.setTracker k { r with state := .silentHeld })) ∧
      (r.state = .down ∨ r.state = .checked →
        s.takeCrossing cycle { key := k, gate := some .h1, back := false, fine := f } =
          s.setTracker k { r with state := .rising, h1 := some { cycle := cycle, fine := f } }) ∧
      (r.state = .struck → s.takeCrossing cycle { key := k, gate := some .h1, back := true, fine := f } =
        s.setTracker k { r with state := .checked }) ∧
      (r.state = .down ∨ r.state = .atRest → s.takeCrossing cycle { key := k, gate := some .h2, back := false, fine := f } =
        s.trackerCount .sensorOrder)) ∧
  (∀ (cycle k f : Nat) (gate : Option Gate) (back : Bool) (r : TrackerRecord) (s : State), Keyed k → s.trackerOf k = r →
      (∀ h, r.h1 = some h → r.state = .rising → interval h { cycle := cycle, fine := f } ≤ 65535) →
      ((gate = none ∨ (gate = some .kd ∧ back = true) ∨ (gate = some .h2 ∧ back = true) ∨
          (gate = some .kr ∧ back = false ∧ r.state ≠ .atRest ∧
            ¬(s.taking = true ∧ s.time.mode = .duplex ∧ s.stateOf k = .armed)) ∨
          (gate = some .kr ∧ back = true ∧ r.state = .atRest) ∨ (gate = some .kd ∧ back = false ∧ r.state ≠ .down) ∨
          (gate = some .h1 ∧ back = false ∧ r.state ≠ .down ∧ r.state ≠ .checked) ∨
          (gate = some .h1 ∧ back = true ∧ r.state ≠ .struck) ∨
          (gate = some .h2 ∧ back = false ∧ (r.state = .struck ∨ r.state = .checked ∨ r.state = .silentHeld))) →
        s.takeCrossing cycle { key := k, gate := gate, back := back, fine := f } = s)) ∧
  (∀ (cycle k : Nat) (x : Crossing) (h : Instant) (s : State), Keyed k → (s.trackerOf k).state = .rising →
      (s.trackerOf k).h1 = some h →
      (65535 < interval h { cycle := cycle, fine := x.fine } → x.key = k → s.takeCrossing cycle x =
        State.takeCrossing (s.setTracker k { s.trackerOf k with state := .down, h1 := none }) cycle x) ∧
      (65535 < interval h { cycle := cycle, fine := 199 } →
        (s.abandonAll cycle).trackerOf k = { s.trackerOf k with state := .down, h1 := none }) ∧
      (interval h { cycle := cycle, fine := 199 } ≤ 65535 → (s.abandonAll cycle).trackerOf k = s.trackerOf k))

/-- R52, R55, R56, R60: an H2 up ends a rising stroke: with no time between the gates it counts SensorOrder; else the velocity is
the gap over the interval rounded half up, at most 9999 with Clamped counted; below the key's least velocity it counts
Brush; else a Strike is determined at the hammer's arrival. R66, R68: the Strike goes to the holder of a window that spans
its stamp; else, of a Sounding key in Duplex, it is contention and is captured as the performer's; else, of a driven key in
Replay with verify on, it counts Stray; else it is captured where R68 allows, its stamp raised to the key's last.
While the transport is Stopped nothing is handed on. -/
def Obligations.StrokesBecomeStrikes : Prop :=
  (∀ (cycle k f : Nat) (h : Instant) (t : Int) (s : State), Keyed k → (s.trackerOf k).state = .rising →
      (s.trackerOf k).h1 = some h →
      t = (((cycle + 4294967296 - h.cycle) % 4294967296 * 200 : Nat) : Int) + f - h.fine → t ≤ 65535 →
      (t ≤ 0 → s.takeCrossing cycle { key := k, gate := some .h2, back := false, fine := f } =
        (s.setTracker k { s.trackerOf k with state := .down, h1 := none }).trackerCount .sensorOrder) ∧
      (∀ (n raw v : Nat) (u : State), t = n → 1 ≤ n → raw = (2 * (s.keySense k).gap * 1000 + n) / (2 * n) →
        v = min raw 9999 →
        u = (s.setTracker k { s.trackerOf k with state := .struck, h1 := none }).bumpIf (decide (9999 < raw)) .clamped →
        (v < (s.keySense k).minVelocity →
          s.takeCrossing cycle { key := k, gate := some .h2, back := false, fine := f } = u.trackerCount .brush) ∧
        (∀ strike, (s.keySense k).minVelocity ≤ v →
          strike = s.takeCycleOf cycle * 200 + f + min 8000 ((s.keySense k).residual * 1000 / v) →
          s.takeCrossing cycle { key := k, gate := some .h2, back := false, fine := f } =
            u.routeStrike k v (strike / 10) strike))) ∧
  (∀ (k v stamp strike : Nat) (s : State), Keyed k →
      (s.time.transport = .stopped → s.routeStrike k v stamp strike = s) ∧
      (s.time.transport ≠ .stopped →
        (∀ w commanded via, s.windowOf k = some w → w.start ≤ stamp → stamp ≤ w.stop →
          (w.holder = .monitor commanded via → s.routeStrike k v stamp strike = s.verify k w commanded via v stamp) ∧
          (w.holder = .sequencer → s.routeStrike k v stamp strike = s.measure k v strike)) ∧
        ((∀ w, s.windowOf k = some w → (stamp : Int) < w.start ∨ w.stop < stamp) →
          (s.time.mode = .duplex → s.stateOf k = .sounding → ∃ t e, s.routeStrike k v stamp strike = t ∧
            e = max stamp ((s.trackerOf k).lastStamp.getD 0) ∧
            t.trackerOf k = { s.trackerOf k with owner := .performer, sounded := true, lastStamp := some e } ∧
            t.capture = (s.takeEvent { kind := .strike, voice := k, stamp := e, value := v }).capture ∧
            t.sched = (s.contend k).sched ∧ t.duplex = (s.contend k).duplex) ∧
          (s.time.mode = .replay → s.port.options.verify = true → s.stateOf k = .sounding ∨ s.stateOf k = .releasing →
            s.routeStrike k v stamp strike = s.bump .stray) ∧
          (s.captures k → ∃ t e, s.routeStrike k v stamp strike = t ∧ e = max stamp ((s.trackerOf k).lastStamp.getD 0) ∧
            t.trackerOf k = { s.trackerOf k with sounded := true, lastStamp := some e } ∧
            t.capture = (s.takeEvent { kind := .strike, voice := k, stamp := e, value := v }).capture ∧
            t.sched = s.sched ∧ t.duplex = s.duplex) ∧
          (¬s.captures k → ¬(s.time.mode = .duplex ∧ s.stateOf k = .sounding) →
            ¬(s.time.mode = .replay ∧ s.port.options.verify = true ∧
              (s.stateOf k = .sounding ∨ s.stateOf k = .releasing)) →
            s.routeStrike k v stamp strike = s))))

/-- R22, R51: a hand-over takes the crossings of each Present station's section, stations in ascending number and each section's
crossings in the order listed, by the tests of R51; then the lost flags: CrossingsLost counts each sensing station whose section is
missing or has its flag set (R69); then the raw positions of each sensing station's pedals; then the abandonment check of every
Rising key (R61); at its close the rest counts (R153): of a waiting key whose sensing station is there without its flag the count
goes up by one where its record is AtRest, and ends the wait at the requirement, and goes to 0 where it is not. A lost cycle counts
CrossingsLost for each sensing station and makes the check alone. While a take captures each loss marks it Incomplete.
R73: a raw reading gives a position of 0 at or below the raw minimum, 255 at or above the raw maximum, and between them the
floored proportion, at most 254; it becomes the pedal's position whatever is captured. R74: a position unlike the last
emitted by the deadband, or at an end and unlike it, or the first of the take, is handed to the Capture Queue as the
pedal's identity voice at the cycle's first tick while a take captures, in Duplex only of a pedal the part does not drive,
and becomes the last emitted. The model's choice in it: log 18, log 41 and log 42. -/
def Obligations.HandOversAreTakenInOrder : Prop :=
  (∀ (cycle : Nat) (sections : Vector (Option SectionReport) 8) (stations sensing : List (Nat × RosterEntry))
      (s a b c d t : State),
    stations = allStations.filterMap (fun n => ((s.stationOf n).filter (fun e => e.present)).map (fun e => (n, e))) →
    sensing = stations.filter (fun x => x.2.role != .driver) →
    a = stations.foldl (fun u x => (((sectionOf sections x.1).map (fun y => y.crossings)).getD []).foldl
      (fun u y => u.judgeCrossing cycle x.2 y) u) s →
    b = (sensing.filter (fun x => (sectionOf sections x.1).all (fun y => y.lost))).foldl
      (fun u _ => u.trackerCount .crossingsLost) a →
    c = sensing.foldl (fun u x => ((allPedals.filter x.2.hasPedal).zip
      (((sectionOf sections x.1).map (fun y => y.pedals)).getD [])).foldl (fun u p => u.takePedal cycle p.1 p.2) u) b →
    d = c.abandonAll cycle → t = s.handOver cycle sections →
    Touches { sched := true, duplex := true } d t ∧ t.sched.entries = d.sched.entries ∧ t.sched.pedals = d.sched.pedals ∧
      t.duplex.windows = d.duplex.windows ∧
      (∀ (k : Nat) (seen : Prop), Keyed k → (seen ↔ ∃ n e x, d.sensorOf k = some n ∧ d.stationOf n = some e ∧
          e.present = true ∧ sectionOf sections n = some x ∧ x.lost = false) →
        ((d.yieldOf k).requirement = none ∨ ¬seen → t.yieldOf k = d.yieldOf k ∧ t.driveOf k = d.driveOf k) ∧
        (∀ y, (d.yieldOf k).requirement = some y → 1 ≤ y → seen →
          ((d.trackerOf k).state ≠ .atRest → t.yieldOf k = { d.yieldOf k with rest := 0 } ∧ t.driveOf k = d.driveOf k) ∧
          ((d.trackerOf k).state = .atRest → (d.yieldOf k).rest + 1 < y →
            t.yieldOf k = { d.yieldOf k with rest := (d.yieldOf k).rest + 1 } ∧ t.driveOf k = d.driveOf k) ∧
          ((d.trackerOf k).state = .atRest → y ≤ (d.yieldOf k).rest + 1 →
            t.yieldOf k = { requirement := none, rest := 0, level := (d.yieldOf k).level } ∧
            t.driveOf k = { d.driveOf k with state := t.stateBy126 k }))) ∧
      s.handOverLost cycle = State.abandonAll (sensing.foldl (fun u _ => u.trackerCount .crossingsLost) s) cycle) ∧
  (∀ (cycle k : Nat) (s t : State), t = s.trackerCount .crossingsLost →
      t.count .crossingsLost = countUp (s.count .crossingsLost) ∧ (∀ n, n ≠ .crossingsLost → t.count n = s.count n) ∧
      t.capture.events = s.capture.events ∧
      t.capture.summary = (if s.capturing = true ∧ s.capture.summary.takeOpen = true then
        { s.capture.summary with lost := countUp s.capture.summary.lost, incomplete := true } else s.capture.summary) ∧
      Touches { capture := true, port := true } s t ∧ Touches { tracker := true } s (s.abandonAll cycle) ∧
      (s.abandonAll cycle).tracker.pedals = s.tracker.pedals ∧
      ((s.trackerOf k).state ≠ .rising ∨ (s.trackerOf k).h1 = none →
        (s.abandonAll cycle).trackerOf k = s.trackerOf k)) ∧
  (∀ (cycle q raw p : Nat) (e : PedalSense) (s : State), 1 ≤ q → q ≤ 3 → s.pedalSense q = e → e.rawMin < e.rawMax →
      p = pedalPosition e raw →
      (raw ≤ e.rawMin → p = 0) ∧ (e.rawMax ≤ raw → p = 255) ∧
      (e.rawMin < raw → raw < e.rawMax → p = (raw - e.rawMin) * 255 / (e.rawMax - e.rawMin) ∧ p ≤ 254) ∧
      (∀ moved : Prop, (moved ↔ ∀ l, (s.pedalOf q).lastEmitted = some l →
          l + e.deadband ≤ p ∨ p + e.deadband ≤ l ∨ ((p = 0 ∨ p = 255) ∧ p ≠ l)) →
        (moved → s.capturing = true → (s.time.mode = .duplex → ∀ l, (s.pedalDriveOf q).level = some l → l = 0) →
          ∃ t, s.takePedal cycle q raw = t ∧ t.pedalOf q = { position := p, lastEmitted := some p } ∧
            (∀ r, r ≠ q → t.pedalOf r = s.pedalOf r) ∧ t.tracker.keys = s.tracker.keys ∧
            t.capture = (s.takeEvent { kind := .pedal, voice := 119 + q, stamp := 20 * s.takeCycleOf cycle,
                                       value := p }).capture) ∧
        (¬(moved ∧ s.capturing = true ∧
            (s.time.mode = .duplex → ∀ l, (s.pedalDriveOf q).level = some l → l = 0)) →
          s.takePedal cycle q raw = s.setPedal q { s.pedalOf q with position := p })))

/-! ### The Capture Queue (R76, R77, R80 to R82) -/

/-- R76, R80: an event is inserted in the queue's order; at 256 a Pedal event takes the place of the last one of its voice, and
every other event is dropped, counted and marks the take. R77, R81: at a cycle start of a take the settled events leave
from the head, in frames of 1 to 30, until all are sent or the transmit queue holds 48 frames; where it holds 48 or more already
nothing leaves, and the release never fills it beyond 48 (R171); nothing is counted. While Stopped none leave. R82: the flush
sends every event in frames of 1 to 30 and then one TakeSummary of everything sent, and closes the take. The model's choice in it:
log 26 and log 59. -/
def Obligations.TheCaptureQueueHoldsAndSends : Prop :=
  (∀ (e : CaptureEvent) (s : State),
      (s.capture.events.length < 256 → (s.takeEvent e).capture.events = insertEvent e s.capture.events ∧
        (e.kind ≠ .linkGap → (s.takeEvent e).capture.summary = s.capture.summary) ∧
        (e.kind = .linkGap → s.capture.summary.takeOpen = true →
          (s.takeEvent e).capture.summary = { s.capture.summary with incomplete := true })) ∧
      (256 ≤ s.capture.events.length →
        (e.kind = .pedal → (∃ x ∈ s.capture.events, x.kind = .pedal ∧ x.voice = e.voice) →
          ∃ before x behind, s.capture.events = before ++ x :: behind ∧ x.kind = .pedal ∧ x.voice = e.voice ∧
            (∀ y ∈ behind, ¬(y.kind = .pedal ∧ y.voice = e.voice)) ∧
            s.takeEvent e = s.setEvents (insertEvent e (before ++ behind))) ∧
        (e.kind ≠ .pedal ∨ (∀ x ∈ s.capture.events, ¬(x.kind = .pedal ∧ x.voice = e.voice)) →
          (s.takeEvent e).capture.events = s.capture.events ∧
          (s.takeEvent e).count .captureOverflow = countUp (s.count .captureOverflow) ∧
          (s.capture.summary.takeOpen = true → (s.takeEvent e).capture.summary =
            { s.capture.summary with overflow := countUp s.capture.summary.overflow, incomplete := true })))) ∧
  (∀ s : State,
      (s.time.transport = .stopped → s.captureRelease = s) ∧
      (48 ≤ s.queued → s.captureRelease = s) ∧
      s.captureRelease.queued ≤ max 48 s.queued ∧
      (s.time.transport ≠ .stopped →
        ∃ frames, packed frames ∧
          frames.flatten <+: s.capture.events.takeWhile (fun e => decide (e.stamp + 50 ≤ 20 * s.takeCycle)) ∧
          s.captureRelease.capture.events = s.capture.events.drop frames.flatten.length ∧
          s.captureRelease.capture.summary = frames.flatten.foldl TakeSummary.sent s.capture.summary ∧
          s.captureRelease.port = { s.port with
            queue := s.port.queue ++ frames.map Upstream.capture,
            line := if frames ≠ [] ∧ s.port.line = none ∧ s.port.restart ≠ .due then some (64 - s.intake.length)
              else s.port.line } ∧
          (frames.flatten = s.capture.events.takeWhile (fun e => decide (e.stamp + 50 ≤ 20 * s.takeCycle)) ∨
            48 ≤ s.captureRelease.queued) ∧
          Touches { capture := true, port := true } s s.captureRelease) ∧
      (s.link.state = .down → s.link.recovery = none → s.time.waiting = [] → s.time.linkLeft = .none →
        s.calib.current = none → exec (.cycleStart []) s = .next (State.captureRelease
          { s with
            time := { s.time with linkCycle := (s.time.linkCycle + 1) % 4294967296, tick := 0 },
            calib := { s.calib with testDue := true } }))) ∧
  (∀ (cause : StopCause) (s : State), Flushed s (s.flush cause) s.port.queue cause ∧
      Touches { capture := true, port := true } s (s.flush cause))

/-! ### Table Memory, the Voice Cache and the jobs' queue (R54, R87, R92, R95, R102, R103, R156, R166) -/

/-- The three writes of Table Memory, judged good: the entry named, a key's, a pedal's, a descriptor or a page slot (an empty
page among them), takes every supplied field, and nothing else of the state changes but the transmit side (R54, R87, R92).
While a store operation is in flight each is refused with BUSY (R185). -/
def Obligations.TableWritesReplaceOneEntry : Prop :=
  ∀ (tag : Byte) (set voice slot number a b c : Nat) (f : RawDescriptor) (p : Page) (s : State), s.port.restart = .none →
    (s.storeBusy = true →
      (∀ type, exec (.writeKeySense tag type number a b c) s = .next (s.reply tag 12 .busy .nothing)) ∧
      exec (.writeDescriptor tag set voice f) s = .next (s.reply tag 14 .busy .nothing) ∧
      (∀ raw, exec (.writePage tag slot raw) s = .next (s.reply tag 16 .busy .nothing))) ∧
    (s.storeBusy = false →
      (1 ≤ number → number ≤ 97 → 1000 ≤ a → a ≤ 5000 → 500 ≤ b → b ≤ 5000 → 10 ≤ c → c ≤ 500 →
        ∃ t, exec (.writeKeySense tag 1 number a b c) s = .next t ∧
          t.keySense number = { gap := a, residual := b, minVelocity := c } ∧
          (∀ j, j ≠ number → t.keySense j = s.keySense j) ∧ t.mem.sense.pedals = s.mem.sense.pedals ∧
          t.mem.sets = s.mem.sets ∧ t.mem.pages = s.mem.pages ∧ t.port = (s.reply tag 12 .done .nothing).port ∧
          Touches { mem := true, port := true } s t) ∧
      (1 ≤ number → number ≤ 3 → a < b → b ≤ 4095 → 1 ≤ c → c ≤ 16 →
        ∃ t, exec (.writeKeySense tag 2 number a b c) s = .next t ∧
          t.pedalSense number = { rawMin := a, rawMax := b, deadband := c } ∧
          (∀ j, j ≠ number → t.pedalSense j = s.pedalSense j) ∧ t.mem.sense.keys = s.mem.sense.keys ∧
          t.mem.sets = s.mem.sets ∧ t.mem.pages = s.mem.pages ∧ t.port = (s.reply tag 12 .done .nothing).port ∧
          Touches { mem := true, port := true } s t) ∧
      (set ≤ 3 → voice ≤ 127 → descriptorFailure set voice f = none →
        ∃ t, exec (.writeDescriptor tag set voice f) s = .next t ∧
          t.mem.descriptor set voice = some (RawDescriptor.descriptor f) ∧
          (∀ n v, (n, v) ≠ (set, voice) → t.mem.descriptor n v = s.mem.descriptor n v) ∧
          t.mem.pages = s.mem.pages ∧ t.mem.sense = s.mem.sense ∧ t.voices = s.voices ∧
          t.port = (s.reply tag 14 .done .nothing).port ∧
          Touches { mem := true, port := true } s t) ∧
      (slot ≤ 511 → pageValid p = true →
        ∃ t, exec (.writePage tag slot (match p with | .strike l x => .strike l x | .pedal l => .pedal l)) s = .next t ∧
          t.mem.page slot = some p ∧ (∀ n, n ≠ slot → t.mem.page n = s.mem.page n) ∧ t.mem.sets = s.mem.sets ∧
          t.mem.sense = s.mem.sense ∧ t.voices = s.voices ∧ t.port = (s.reply tag 16 .done .nothing).port ∧
          Touches { mem := true, port := true } s t) ∧
      (slot ≤ 511 →
        ∃ t, exec (.writePage tag slot .empty) s = .next t ∧ t.mem.page slot = none ∧
          (∀ n, n ≠ slot → t.mem.page n = s.mem.page n) ∧ t.mem.sets = s.mem.sets ∧ t.mem.sense = s.mem.sense ∧
          t.voices = s.voices ∧ t.port = (s.reply tag 16 .done .nothing).port ∧
          Touches { mem := true, port := true } s t))

/-- Every RANGE refusal of the three writes, with the place it names, and nothing else changed (R54, R87, R91, R92, R174): of a
WriteKeySense the type, the number, and each field of a key or pedal entry; of a WriteDescriptor the set, the voice, the
kind, the target by its kind, the page, the trim, and the codes of the flags; of a WritePage the slot, a kind that is none of
the three, and the page's count, breakpoints and scalars. A breakpoint fails by its velocity or position (4), its drive (5) or its
flight or lead (6), by the ranges of R91 or against the breakpoint before it: inputs rise, drives do not fall, flights do not rise,
leads stand in any order. The first failure is named, by ascending index and within a breakpoint in that order, with the index as
the second byte, and 255 there where the failing field is no breakpoint's. A page that fails nothing is valid. A ReadDescriptor
whose set and voice are both out of range names the set. The model's choice in it: log 24 and log 62. -/
def Obligations.TableWritesRefuseBadFields : Prop :=
  (∀ (tag : Byte) (type number a b c : Nat) (s : State), s.port.restart = .none → s.storeBusy = false →
      ∀ refused : Nat → Prop,
        (∀ p, refused p ↔ exec (.writeKeySense tag type number a b c) s = .next (s.reply tag 12 .range (.field p))) →
        (type ≠ 1 → type ≠ 2 → refused 1) ∧
        (type = 1 → number = 0 ∨ 97 < number → refused 2) ∧ (type = 2 → number = 0 ∨ 3 < number → refused 2) ∧
        (type = 1 → 1 ≤ number → number ≤ 97 →
          (a < 1000 ∨ 5000 < a → refused 3) ∧
          (1000 ≤ a → a ≤ 5000 → (b < 500 ∨ 5000 < b → refused 4) ∧
            (500 ≤ b → b ≤ 5000 → c < 10 ∨ 500 < c → refused 5))) ∧
        (type = 2 → 1 ≤ number → number ≤ 3 →
          (4095 < a → refused 3) ∧
          (a ≤ 4095 → (4095 < b → refused 4) ∧
            (b ≤ 4095 → (c = 0 ∨ 16 < c → refused 5) ∧ (1 ≤ c → c ≤ 16 → b ≤ a → refused 3))))) ∧
  (∀ (tag : Byte) (set voice : Nat) (f : RawDescriptor) (s : State), s.port.restart = .none → s.storeBusy = false →
      ∀ (refused : Nat → Prop) (top : Nat),
        (∀ p, refused p ↔ exec (.writeDescriptor tag set voice f) s = .next (s.reply tag 14 .range (.field p))) →
        top = (if f.kind = 1 then 97 else 3) →
        (3 < set → refused 1) ∧
        (set ≤ 3 → (127 < voice → refused 2) ∧
          (voice ≤ 127 → (f.kind = 0 ∨ 3 < f.kind → refused 4) ∧
            (1 ≤ f.kind → f.kind ≤ 3 → (f.target = 0 ∨ top < f.target → refused 5) ∧
              (1 ≤ f.target → f.target ≤ top → (511 < f.page → refused 6) ∧
                (f.page ≤ 511 → (f.trim < 500 ∨ 1500 < f.trim → refused 7) ∧
                  (500 ≤ f.trim → f.trim ≤ 1500 → (1 < f.present → refused 3) ∧
                    (f.present ≤ 1 → (1 < f.accessed → refused 8) ∧
                      (f.accessed ≤ 1 → 1 < f.played → refused 9))))))))) ∧
  (∀ (tag : Byte) (set voice : Nat) (s : State), s.port.restart = .none → s.restoring = false → 3 < set → 127 < voice →
      exec (.readDescriptor tag set voice) s = .next (s.reply tag 15 .range (.field 1))) ∧
  (∀ (tag : Byte) (slot : Nat) (raw : RawPage) (p : Page) (s : State), s.port.restart = .none → s.storeBusy = false →
      ∀ refused : Nat → Nat → Prop,
        (∀ f i, refused f i ↔ exec (.writePage tag slot raw) s = .next (s.reply tag 16 .range (.pageField f i))) →
        (511 < slot → refused 1 255) ∧
        (slot ≤ 511 → (∀ code, raw = .other code → refused 2 255) ∧
          (raw = (match p with | .strike l x => .strike l x | .pedal l => .pedal l) →
            (∀ f i, pageFailure p = some (f, i) → refused f i) ∧
            (∀ l x, p = .strike l x → l.length < 2 ∨ 16 < l.length → refused 3 255) ∧
            (∀ l, p = .pedal l → l.length < 2 ∨ 16 < l.length → refused 3 255) ∧
            (∀ (l : List Breakpoint) (least most : Breakpoint) (fails : Nat → Nat → Prop), 2 ≤ l.length → l.length ≤ 16 →
              ((∃ x, p = .strike l x) ∧ least = ⟨1, 1, 500⟩ ∧ most = ⟨9999, 1023, 60000⟩ ∨
                p = .pedal l ∧ least = ⟨0, 0, 0⟩ ∧ most = ⟨255, 1023, 60000⟩) →
              (∀ i f, fails i f ↔ ∃ q, l[i]? = some q ∧
                (f = 4 ∧ (q.input < least.input ∨ most.input < q.input ∨
                    ∃ j a, i = j + 1 ∧ l[j]? = some a ∧ q.input ≤ a.input) ∨
                 f = 5 ∧ (q.drive < least.drive ∨ most.drive < q.drive ∨
                    ∃ j a, i = j + 1 ∧ l[j]? = some a ∧ q.drive < a.drive) ∨
                 f = 6 ∧ (q.time < least.time ∨ most.time < q.time ∨
                    ∃ j a x, p = .strike l x ∧ i = j + 1 ∧ l[j]? = some a ∧ a.time < q.time))) →
              (∀ i f, fails i f → (∀ j g, fails j g → i < j ∨ (i = j ∧ f ≤ g)) → refused f i) ∧
              ((∀ i f, ¬fails i f) → (p = .pedal l → pageValid p = true) ∧
                (∀ x, p = .strike l x →
                  (x.attack < 2000 ∨ 40000 < x.attack → refused 7 255) ∧
                  (2000 ≤ x.attack → x.attack ≤ 40000 → (x.hold = 0 ∨ 1023 < x.hold → refused 8 255) ∧
                    (1 ≤ x.hold → x.hold ≤ 1023 → (x.rearm < 10000 ∨ 200000 < x.rearm → refused 9 255) ∧
                      (10000 ≤ x.rearm → x.rearm ≤ 200000 → (60000 < x.silentLead → refused 10 255) ∧
                        (x.silentLead ≤ 60000 → pageValid p = true))))))))))

/-- R95: SelectVoicing of a set 0..3 empties the cache and cancels a walk, even of the set already active. R102:
InvalidateVoice removes the voice's entry, if there is one, the others keeping their order, cancels a walk for it, and says
whether an entry was removed. R103: InvalidateAll removes every entry, cancels a walk, and says how many; the active set
stands. Each is refused with BUSY during a restore and with RANGE past its range, and changes nothing else. -/
def Obligations.CacheRequests : Prop :=
  (∀ (tag : Byte) (set : Nat) (s : State), s.port.restart = .none →
      exec (.selectVoicing tag set) s = .next (if s.restoring then s.reply tag 18 .busy .nothing
        else if 3 < set then s.reply tag 18 .range (.field 1)
        else State.reply { s with voices := { activeSet := set, entries := [], walk := none } } tag 18 .done .nothing)) ∧
  (∀ (tag : Byte) (voice : Nat) (s : State), s.port.restart = .none →
      exec (.invalidateVoice tag voice) s = .next (if s.restoring then s.reply tag 19 .busy .nothing
        else if 127 < voice then s.reply tag 19 .range (.field 1)
        else State.reply
          { s with voices := { activeSet := s.voices.activeSet,
                               entries := s.voices.entries.filter (fun e => e.voice != voice),
                               walk := s.voices.walk.filter (fun w => w.voice != voice) } }
          tag 19 .done (.removed (s.voices.entries.any (fun e => e.voice == voice))))) ∧
  (∀ (tag : Byte) (s : State), s.port.restart = .none →
      exec (.invalidateAll tag) s = .next (if s.restoring then s.reply tag 20 .busy .nothing
        else State.reply { s with voices := { activeSet := s.voices.activeSet, entries := [], walk := none } } tag 20 .done
          (.removedCount s.voices.entries.length)))

/-- R156: CalibrateQueue's tests in their order: a restore, the mode, the fields, the room of 16; then the job is appended behind
the last and the Reply carries the number held. CalibrateAbort (R166, R164): no job is left; an admitted strike's Attack, its Off
(also where an unavailability has detached it) and its note leave the schedule, and nothing else does; a measuring strike's
window is gone; with no job at all only the Reply goes out. The model's choice in it: log 24. -/
def Obligations.CalibrationRequests : Prop :=
  (∀ (tag : Byte) (j : Job) (s : State), s.port.restart = .none →
      exec (.calibrateQueue tag j) s = .next (if s.restoring then s.reply tag 21 .busy .nothing
        else if s.time.mode ≠ .idle ∧ s.time.mode ≠ .calibrate then s.reply tag 21 .state .nothing
        else if s.keyCount < j.key ∨ j.key = 0 then s.reply tag 21 .range (.field 1)
        else if 511 < j.slot then s.reply tag 21 .range (.field 2)
        else if ¬(4 ≤ j.levels ∧ j.levels ≤ 16) then s.reply tag 21 .range (.field 3)
        else if ¬(1 ≤ j.minDrive ∧ j.minDrive ≤ 1023 ∧ j.minDrive < j.maxDrive) then s.reply tag 21 .range (.field 4)
        else if 1023 < j.maxDrive then s.reply tag 21 .range (.field 5)
        else if ¬(1 ≤ j.repeats ∧ j.repeats ≤ 4) then s.reply tag 21 .range (.field 6)
        else if ¬(250 ≤ j.spacing ∧ j.spacing ≤ 2000) then s.reply tag 21 .range (.field 7)
        else if 16 ≤ s.calib.queue.length then s.reply tag 21 .busy .nothing
        else State.reply { s with calib := { s.calib with queue := s.calib.queue ++ [j] } } tag 21 .done
          (.jobs (s.calib.queue.length + 1)))) ∧
  (∀ (tag : Byte) (s : State), s.port.restart = .none → s.restoring = false →
      (∃ t, exec (.calibrateAbort tag) s = .next t ∧ t.calib.queue = [] ∧ t.calib.current = none ∧
        (∀ c k, s.calib.current = some c → c.state = .admitted → c.job.key = k → Keyed k →
          (∀ e, e ∈ t.sched.entries ↔ e ∈ s.sched.entries ∧ e.calibrationAttack k = false ∧
            (e.offOf k = true → e.note ≠ none ∧
              ∀ a ∈ s.sched.entries, a.calibrationAttack k = true → a.note ≠ e.note)) ∧
          (∀ n, n ∈ (t.driveOf k).notes ↔ n ∈ (s.driveOf k).notes ∧
            ∀ a ∈ s.sched.entries, a.calibrationAttack k = true → a.note ≠ some n.id) ∧
          (∀ j, j ≠ k → t.driveOf j = s.driveOf j) ∧ t.duplex = s.duplex) ∧
        (∀ c, s.calib.current = some c → c.state = .measuring → t.windowOf c.job.key = none ∧
          t.sched.entries = s.sched.entries) ∧
        Touches { sched := true, duplex := true, calib := true, port := true } s t) ∧
      (s.calib.current = none → s.calib.queue = [] →
        exec (.calibrateAbort tag) s = .next (s.reply tag 22 .done (.aborted false 0))))

/-! ### The Score Port Controller's own requests (R175 to R177, R179) -/

/-- R175: SetProfile is judged in its order and written once per reset. R176: SetOptions takes every named option in one event,
or, naming the first one outside its range in the order of the table, none at all; it answers with every option as held.
ReadStatus (R177) is answered in every state by a Status frame with its tag, in place of a Reply, and with clear every
counter is 0 behind it; another clear code is refused. A SetOptions that changes the status period starts the running status
timer afresh. Restart (R179) with room for its Reply is answered Done and stops the handing on of frames; where the full transmit
queue discards its Reply the warm reset is taken at once; it is refused while a store operation is in flight.
The model's choice in it: log 21, log 26 and, for the order of a profile's fields, log 62. -/
def Obligations.PortRequests : Prop :=
  (∀ (tag : Byte) (f : RawProfile) (s : State), s.port.restart = .none →
      (s.storeBusy = true → exec (.setProfile tag f) s = .next (s.reply tag 23 .busy .nothing)) ∧
      (∀ p, s.storeBusy = false → s.port.profile = some p →
        exec (.setProfile tag f) s = .next (s.reply tag 23 .locked (.profile p))) ∧
      (s.storeBusy = false → s.port.profile = none → (f.keyCount = 88 ∨ f.keyCount = 97) → 1 ≤ f.stations →
        f.stations ≤ 8 → f.boundary ≤ 37 → f.autoPermit ≤ 1 →
        exec (.setProfile tag f) s = .next (State.reply
          { s with port := { s.port with profile := some { keyCount := f.keyCount, stations := f.stations,
                                                            boundary := f.boundary, autoPermit := f.autoPermit == 1 } } }
          tag 23 .done .nothing)) ∧
      (s.storeBusy = false → s.port.profile = none → f.keyCount ≠ 88 → f.keyCount ≠ 97 →
        exec (.setProfile tag f) s = .next (s.reply tag 23 .range (.field 1))) ∧
      (s.storeBusy = false → s.port.profile = none → (f.keyCount = 88 ∨ f.keyCount = 97) →
        (f.stations = 0 ∨ 8 < f.stations → exec (.setProfile tag f) s = .next (s.reply tag 23 .range (.field 2))) ∧
        (1 ≤ f.stations → f.stations ≤ 8 →
          (37 < f.boundary → exec (.setProfile tag f) s = .next (s.reply tag 23 .range (.field 3))) ∧
          (f.boundary ≤ 37 → 1 < f.autoPermit →
            exec (.setProfile tag f) s = .next (s.reply tag 23 .range (.field 4)))))) ∧
  (∀ (tag : Byte) (values : List (OptionName × Nat)) (s : State), s.port.restart = .none → s.restoring = false →
      ((∀ x ∈ values, (optionRange x.1).1 ≤ x.2 ∧ x.2 ≤ (optionRange x.1).2) →
        ∃ t, exec (.setOptions tag values) s = .next t ∧ t.port.options = values.foldl Options.set s.port.options ∧
          t.port.profile = s.port.profile ∧
          t.port.timer = (if t.port.options.statusPeriod ≠ s.port.options.statusPeriod ∧ s.port.timer ≠ none
            then some t.port.options.statusPeriod else s.port.timer) ∧
          t.port.queue = (State.reply { s with port := { s.port with options := t.port.options } } tag 24 .done
            (.options t.port.options)).port.queue) ∧
      (∀ x ∈ values, (x.2 < (optionRange x.1).1 ∨ (optionRange x.1).2 < x.2) →
        (∀ y ∈ values, (y.2 < (optionRange y.1).1 ∨ (optionRange y.1).2 < y.2) → optionPlace x.1 ≤ optionPlace y.1) →
        exec (.setOptions tag values) s = .next (s.reply tag 24 .range (.optionRange (optionPlace x.1) s.port.options)))) ∧
  (∀ (tag : Byte) (s : State), s.port.restart = .none →
      exec (.readStatus tag 0) s = .next (s.offer (.status tag (s.statusRecord true))) ∧
      (∀ clear, 1 < clear → exec (.readStatus tag clear) s = .next (s.reply tag 25 .range (.field 1))) ∧
      (s.queued < 64 → ∃ t, exec (.readStatus tag 1) s = .next t ∧ (∀ c, t.count c = 0) ∧
        t.port.queue = s.port.queue ++ [.status tag (s.statusRecord true)] ∧ Touches { port := true } s t) ∧
      (s.storeBusy = true → exec (.restart tag) s = .next (s.reply tag 26 .busy .nothing)) ∧
      (s.storeBusy = false → s.queued < 64 → exec (.restart tag) s = .next (State.reply
        { s with port := { s.port with restart := .replying } } tag 26 .done .nothing)) ∧
      (s.storeBusy = false → 64 ≤ s.queued → ∃ t, exec (.restart tag) s = .next t ∧ t.atReset .restart ∧ t.mem = s.mem ∧
        t.store.op = .idle ∧ t.pending = s.pending))

/-! ### The Calibration Store (R181 to R186) -/

/-- R183, R184: StoreSave and StoreRestore are judged BUSY, then STATE, then RANGE (a block above 36, the first above the last),
and are then taken: a save begins with the erase of its first unprotected block, or ends at once, every block Protected; a
restore empties the Voice Cache and begins with block 0. The table of R185: while a restore is in flight every request but
ReadStatus is answered BUSY and changes nothing else; while a save is in flight the requests the table names are, SetMode
among them for the four modes other than Idle. The model's choice in it: log 24 and log 62 for the place a bad range names. -/
def Obligations.StoreRequests : Prop :=
  (∀ (tag : Byte) (first last : Nat) (s : State), s.port.restart = .none →
      (s.storeBusy = true → exec (.storeSave tag first last) s = .next (s.reply tag 27 .busy .nothing) ∧
        exec (.storeRestore tag) s = .next (s.reply tag 28 .busy .nothing)) ∧
      (s.storeBusy = false → s.time.mode ≠ .idle →
        exec (.storeSave tag first last) s = .next (s.reply tag 27 .state .nothing) ∧
        exec (.storeRestore tag) s = .next (s.reply tag 28 .state .nothing)) ∧
      (s.storeBusy = false → s.time.mode = .idle →
        (36 < first → exec (.storeSave tag first last) s = .next (s.reply tag 27 .range (.field 1))) ∧
        (first ≤ 36 → 36 < last → exec (.storeSave tag first last) s = .next (s.reply tag 27 .range (.field 2))) ∧
        (first ≤ 36 → last < first → exec (.storeSave tag first last) s = .next (s.reply tag 27 .range (.field 1)))) ∧
      (s.storeBusy = false → s.time.mode = .idle → first ≤ last → last ≤ 36 → first < s.boundary →
        ∃ t op, exec (.storeSave tag first last) s = .next t ∧ t.store = { s.store with op := .save op } ∧
          op.stage = .erasing ∧ op.block = first ∧ op.first = first ∧ op.last = last ∧ op.boundary = s.boundary ∧
          op.results = [] ∧ t.port = (s.reply tag 27 .done .nothing).port ∧ t.mem = s.mem) ∧
      (s.storeBusy = false → s.time.mode = .idle → first ≤ last → last ≤ 36 → s.boundary ≤ first →
        ∃ t, exec (.storeSave tag first last) s = .next t ∧ t.store = { s.store with op := .idle } ∧
          t.port = ((s.reply tag 27 .done .nothing).report
            (.saveDone first last (List.replicate (last + 1 - first) .guarded))).port) ∧
      (s.storeBusy = false → s.time.mode = .idle →
        ∃ t, exec (.storeRestore tag) s = .next t ∧
          t.store = { s.store with op := .restore { block := 0, cause := .request, results := [] } } ∧
          t.voices = { s.voices with entries := [], walk := none } ∧ t.mem = s.mem)) ∧
  (∀ (tag : Byte) (r : Request) (s : State), s.port.restart = .none →
      (s.restoring = true → (∀ clear, r ≠ .readStatus clear) →
        exec (rowOf tag r) s = .next (s.reply tag (Request.code r) .busy .nothing)) ∧
      (s.saving = true → refusedWhileSaving r = true →
        exec (rowOf tag r) s = .next (s.reply tag (Request.code r) .busy .nothing)))

/-- R183: the stages of a save for one block. The erase leaves it without content and takes what will be written from
Table Memory with its check; the programming writes it, or leaves what the medium took; the verification judges
what the block holds and goes on to the next unprotected block, or ends with StoreDone, protected blocks Guarded. Each
stage's command does nothing outside its stage. The model's choice in it: log 1 and log 9. -/
def Obligations.TheStagesOfASave : Prop :=
  ∀ (op : SaveOp) (medium : Option StoreBlock) (s : State), s.store.op = .save op → op.block ≤ 36 →
    (op.stage = .erasing → ∃ t w, exec .storeEraseComplete s = .next t ∧ t.storeBlock op.block = .erased ∧
      t.store.op = .save { op with stage := .programming, written := w } ∧
      (∀ c, s.mem.block op.block = some c → w = .programmed c (crc16 (Config.contentBytes c))) ∧
      ∀ b, b ≠ op.block → t.storeBlock b = s.storeBlock b) ∧
    (op.stage = .programming → ∃ t, exec (.storeProgramComplete medium) s = .next t ∧
      t.storeBlock op.block = medium.getD op.written ∧ t.store.op = .save { op with stage := .verifying } ∧
      ∀ b, b ≠ op.block → t.storeBlock b = s.storeBlock b) ∧
    (op.stage = .verifying → op.block = op.last → ∃ t, exec .storeVerifyComplete s = .next t ∧
      t.store = { s.store with op := .idle } ∧
      t.port = (s.report (.saveDone op.first op.last
        (op.results ++ [if s.storeBlock op.block = op.written then .saved else .failed]))).port) ∧
    (op.stage = .verifying → op.block < op.last → op.block + 1 < op.boundary →
      exec .storeVerifyComplete s = .next (s.setOp (.save
        { op with
          stage := .erasing, block := op.block + 1,
          results := op.results ++ [if s.storeBlock op.block = op.written then .saved else .failed] }))) ∧
    (op.stage = .verifying → op.block < op.last → op.boundary ≤ op.block + 1 → ∃ t,
      exec .storeVerifyComplete s = .next t ∧ t.store = { s.store with op := .idle } ∧
      t.port = (s.report (.saveDone op.first op.last
        (op.results ++ [if s.storeBlock op.block = op.written then .saved else .failed] ++
          List.replicate (op.last - op.block) .guarded))).port) ∧
    (op.stage ≠ .erasing → exec .storeEraseComplete s = .next s) ∧
    (op.stage ≠ .programming → exec (.storeProgramComplete medium) s = .next s) ∧
    (op.stage ≠ .verifying → exec .storeVerifyComplete s = .next s)

/-- R184, R181: each read of a restore loads a good block whole, gives a bad one its treatment, and goes on to the next;
after block 36 the state is Idle and StoreDone carries the results. With no restore in flight nothing changes.
The model's choice in it: log 1. -/
def Obligations.ARestoreLoadsBlockByBlock : Prop :=
  (∀ (op : RestoreOp) (s : State), s.store.op = .restore op → op.block ≤ 36 →
      ∃ t, exec .storeReadComplete s = .next t ∧ t.store.blocks = s.store.blocks ∧
        (∀ c, goodContent op.block (s.storeBlock op.block) = some c → t.mem.block op.block = some c) ∧
        (goodContent op.block (s.storeBlock op.block) = none → t.mem.block op.block = some (badContent op.block)) ∧
        (∀ b, b ≠ op.block → t.mem.block b = s.mem.block b) ∧
        t.store.op = (if op.block < 36 then
          .restore { op with block := op.block + 1, results := op.results ++
            [if (goodContent op.block (s.storeBlock op.block)).isSome then .loaded else .bad] }
          else .idle) ∧
        t.port = (if op.block < 36 then s.port else (s.report (.restoreDone op.cause (op.results ++
          [if (goodContent op.block (s.storeBlock op.block)).isSome then .loaded else .bad]))).port)) ∧
  (∀ s : State, s.restoring = false → exec .storeReadComplete s = .next s)

/-- R182: while the protect boundary is in force no block numbered at or above it is erased or programmed, by any command. R185:
while a store save or restore is in flight, Table Memory is changed only by the restore itself (or by the cold reset that ends
it). -/
def Obligations.StoreOperationsKeepTheirBounds : Prop :=
  (∀ (c : Instr) (s t : State), s.saveLawful → exec c s = .next t → ∀ b, s.boundary ≤ b → t.storeBlock b = s.storeBlock b) ∧
  (∀ (c : Instr) (s t : State), s.storeLawful → s.storeBusy = true → exec c s = .next t →
    c ≠ .storeReadComplete → c ≠ .powerOn → c ≠ .coldResetSupplyLow → t.mem = s.mem)

/-! ### Replay: intake, walks and admission (R86, R97 to R99, R121, R122, R127 to R133) -/

/-- ADMIT_RECORD, the cases without a computation (R122, R86, R97, R133): a record whose conditions fail waits; a Marker and an
End leave for the schedule at their due tick raised to E; voice 0 and a voice above 127 are dropped with VoiceAbsent; a voice
with no entry starts a walk in the active set and stays at the head; a record of a cached voice leaves the intake and proceeds with
its entry, moved to the front, as one behind a walk does. The model's choice in it: log 1. -/
def Obligations.TheHeadOfTheIntakeIsTested : Prop :=
  ∀ (r : EventRecord) (rest : List EventRecord) (s : State), s.intake = r :: rest →
    ((s.time.transport ≠ .running ∨ s.voices.walk ≠ none ∨
        s.now + s.port.options.lookAhead < r.time + s.time.preroll + s.time.shift ∨ s.freeEntries < recordNeeds r.kind) →
      exec .admitRecord s = .next s) ∧
    (s.time.transport = .running → s.voices.walk = none →
      r.time + s.time.preroll + s.time.shift ≤ s.now + s.port.options.lookAhead → recordNeeds r.kind ≤ s.freeEntries →
      (r.kind = .marker ∨ r.kind = .endOfReplay → ∃ t e, exec .admitRecord s = .next t ∧ t.intake = rest ∧
        (r.kind = .marker → e.kind = .marker ∧ e.marker = r.value) ∧ (r.kind = .endOfReplay → e.kind = .endOfReplay) ∧
        e.onset = max (r.time + s.time.preroll + s.time.shift) s.earliest ∧
        t.sched.entries = insertEntry e s.sched.entries ∧ Touches { intake := true, sched := true } s t) ∧
      (r.kind ≠ .marker → r.kind ≠ .endOfReplay → (r.voice = 0 ∨ 127 < r.voice) →
        exec .admitRecord s = .next (State.bump { s with intake := rest } .voiceAbsent)) ∧
      (r.kind ≠ .marker → r.kind ≠ .endOfReplay → 1 ≤ r.voice → r.voice ≤ 127 → s.voices.find r.voice = none →
        exec .admitRecord s = .next { s with voices := { s.voices with
          walk := some { voice := r.voice, set := s.voices.activeSet, descriptor := none, page := none } } }) ∧
      (∀ e, r.kind ≠ .marker → r.kind ≠ .endOfReplay → 1 ≤ r.voice → r.voice ≤ 127 → s.voices.find r.voice = some e →
        exec .admitRecord s = .next (State.proceed
          { s with
            intake := rest,
            voices := { s.voices with entries := e :: s.voices.entries.filter (fun x => x.voice != e.voice) } } r e)))

/-- R128, R129: what a new note with onset O and rearm interval R moves. With P the last note whose Off has not been dispatched, and
F the later of P's attack end and E: O before F + R is deferred to it, P's Off moves to F and Deferred counts; else an Off of P
later than O - R moves to it; either way its origin is Advanced. With no such note and a rearm base, O before the base + R is
deferred to it and counted. So the onset stands at least R behind F, or behind the rearm base. R131: an Off that is moved takes
its entry and its note's Off tick along, and moves nothing else. The model's choice in it: log 39. -/
def Obligations.NotesAreSpaced : Prop :=
  (∀ (k onset rearm : Nat) (s : State), Keyed k →
      (∀ before p after floor, (s.driveOf k).notes = before ++ p :: after → p.offDispatched = false →
        (∀ n ∈ after, n.offDispatched = true) → floor = max (p.onset + p.attack) s.earliest →
        (onset < floor + rearm → s.spaceNote k onset rearm =
          ((s.moveOff k p.id floor .advanced).bump .deferred, floor + rearm - onset)) ∧
        (floor + rearm ≤ onset → onset < p.off + rearm → s.spaceNote k onset rearm =
          (s.moveOff k p.id (onset - rearm) .advanced, 0)) ∧
        (floor + rearm ≤ onset → p.off + rearm ≤ onset → s.spaceNote k onset rearm = (s, 0)) ∧
        floor + rearm ≤ onset + (s.spaceNote k onset rearm).2) ∧
      ((∀ n ∈ (s.driveOf k).notes, n.offDispatched = true) →
        (∀ base, (s.driveOf k).rearmBase = some base →
          (onset < base + rearm → s.spaceNote k onset rearm = (s.bump .deferred, base + rearm - onset)) ∧
          (base + rearm ≤ onset → s.spaceNote k onset rearm = (s, 0)) ∧
          base + rearm ≤ onset + (s.spaceNote k onset rearm).2) ∧
        ((s.driveOf k).rearmBase = none → s.spaceNote k onset rearm = (s, 0)))) ∧
  (∀ (k id tick : Nat) (origin : OffOrigin) (s : State), Keyed k →
      (s.moveOff k id tick origin).driveOf k = { s.driveOf k with notes := (s.driveOf k).notes.map (fun n =>
        if n.id = id then { n with off := tick, origin := origin } else n) } ∧
      (∀ j, j ≠ k → (s.moveOff k id tick origin).driveOf j = s.driveOf j) ∧
      (s.moveOff k id tick origin).sched.entries.Perm (s.sched.entries.map (fun e =>
        if e.offOf k && e.note == some id then { e with onset := tick } else e)) ∧
      (s.scheduleOrdered → (s.moveOff k id tick origin).scheduleOrdered) ∧
      (s.moveOff k id tick origin).sched.pedals = s.sched.pedals ∧
      Touches { sched := true } s (s.moveOff k id tick origin))

/-- A Strike or SilentPress through a cached voice of kind Key, for a key that no test of R127 refuses (R97, R107, R113, R115,
R127 to R130): the record leaves the intake, its entry moves to the front, and the computation's counts are made. A Stale one
leaves no note. Any other becomes one note at the end of the key's list of at most 4: at its computed onset deferred as R128 and
R129 give, with its Attack or Hold and its provisional Off at onset + holdCap, the key's detached Offs gone; the key is Sounding
where it is driven, else Armed. A SilentPress has the page's hold level trimmed, derated and limited, the onset its silent lead
gives, attack duration 0 and no strike tick. A Strike (R108 to R114): the velocity scaled by the dynamics scale, at least 1, and
limited to the page's, Clamped where that changed it; drive and flight read between the two breakpoints of the greatest index whose
velocity is not above it and which is not the last; the attack level from the drive, trimmed, at least 1, derated and limited, the
hold level likewise; the lead from the flight, and by it the onset, the strike tick and the lateness; attack duration and rearm
interval rounded up to ticks. The model's choice in it: log 8. -/
def Obligations.StrikesAndSilentPressesBecomeNotes : Prop :=
  (∀ (r : EventRecord) (rest : List EventRecord) (e : CacheEntry) (points : List Breakpoint) (sc : Scalars) (k : Nat)
      (c : Computation) (v : State × Nat) (s : State),
    s.intake = r :: rest → s.admissible r = true → 1 ≤ r.voice → r.voice ≤ 127 → s.voices.find r.voice = some e →
    e.kind = .key → e.page = .strike points sc → e.target = k → Keyed k → s.refusal k = none →
    s.waitingYield k = false →
    ((r.kind = .strike ∧ c = computeStrike points sc e.trim r.value (s.feed (s.driverOf k)) (s.clocking r.time)) ∨
      (r.kind = .silentPress ∧ c = computeSilent sc e.trim (s.feed (s.driverOf k)) (s.clocking r.time))) →
    v = s.spaceNote k c.onset c.rearm →
    ∃ t, exec .admitRecord s = .next t ∧ t.intake = rest ∧ Touches (footprint .admitRecord) s t ∧
      t.voices = { s.voices with entries := e :: s.voices.entries.filter (fun x => x.voice != e.voice) } ∧
      t.sched.pedals = s.sched.pedals ∧ (∀ j, j ≠ k → t.driveOf j = s.driveOf j) ∧
      t.count .clamped = (if c.clamped then countUp (s.count .clamped) else s.count .clamped) ∧
      t.count .saturated = (if c.saturatedLevel && c.saturatedHold then countUp (countUp (s.count .saturated))
        else if c.saturatedLevel || c.saturatedHold then countUp (s.count .saturated) else s.count .saturated) ∧
      t.count .late = (if c.outcome = .late then countUp (s.count .late) else s.count .late) ∧
      t.count .stale = (if c.outcome = .stale then countUp (s.count .stale) else s.count .stale) ∧
      (c.outcome = .stale → t.sched = s.sched ∧ t.count .deferred = s.count .deferred) ∧
      (c.outcome ≠ .stale → ∃ n a o,
        t.count .deferred = (if v.2 = 0 then s.count .deferred else countUp (s.count .deferred)) ∧
        (t.driveOf k).notes =
          (if (v.1.driveOf k).notes.length < 4 then (v.1.driveOf k).notes else (v.1.driveOf k).notes.drop 1) ++ [n] ∧
        (t.driveOf k).state = (if (s.driveOf k).driven then .sounding else .armed) ∧
        n.onset = c.onset + v.2 ∧ n.attack = c.attack ∧ n.rearm = c.rearm ∧ n.strike = c.strike.map (· + v.2) ∧
        n.off = n.onset + s.port.options.holdCap ∧ n.origin = .provisional ∧ n.owed = true ∧
        n.attackDispatched = false ∧ n.offDispatched = false ∧ n.via = some ⟨e.voice, e.set⟩ ∧
        n.velocity = some c.velocity ∧ a.kind = (if r.kind = .strike then .attack else .hold) ∧ a.target = k ∧
        a.onset = n.onset ∧ a.level = c.level ∧ a.holdLevel = c.holdLevel ∧ a.attack = c.attack ∧ a.rearm = c.rearm ∧
        a.via = n.via ∧ a.note = some n.id ∧ a.strike = n.strike.getD 0 ∧ a.velocity = c.velocity ∧
        o.kind = .off ∧ o.target = k ∧ o.onset = n.off ∧ o.rearm = c.rearm ∧ o.note = some n.id ∧
        t.sched.entries = insertEntry o (insertEntry a
          (v.1.sched.entries.filter (fun x => !(x.offOf k && x.note == none)))))) ∧
  (∀ (sc : Scalars) (trim lead level : Nat) (f : Feed) (c : Clocking),
    lead = (sc.silentLead + f.arrival + f.latency + 9) / 10 →
    level = max 1 (sc.hold * trim / 1000) * (1000 + f.alpha * (f.temperature - 25).toNat) / 1000 →
    (computeSilent sc trim f c).level = min level (if f.hot then 768 else 1023) ∧
    (computeSilent sc trim f c).saturatedLevel = decide ((if f.hot then 768 else 1023) < level) ∧
    (computeSilent sc trim f c).saturatedHold = false ∧ (computeSilent sc trim f c).clamped = false ∧
    (computeSilent sc trim f c).strike = none ∧ (computeSilent sc trim f c).attack = 0 ∧
    (computeSilent sc trim f c).rearm = (sc.rearm + 9) / 10 ∧ (computeSilent sc trim f c).velocity = 0 ∧
    (c.earliest + lead ≤ c.due → (computeSilent sc trim f c).outcome = .computed ∧
      (computeSilent sc trim f c).onset = c.due - lead) ∧
    (c.due < c.earliest + lead → (computeSilent sc trim f c).onset = c.earliest ∧
      (computeSilent sc trim f c).outcome = if c.earliest + lead ≤ c.due + c.tolerance then .late else .stale)) ∧
  (∀ (points : List Breakpoint) (sc : Scalars) (trim value v1 v2 i span d drive flight level hold top lead : Nat)
      (first last a b : Breakpoint) (f : Feed) (c : Clocking) (x : Computation),
    pageValid (.strike points sc) = true → points.head? = some first → points.getLast? = some last →
    v1 = max 1 (value * c.scale / 1000) →
    v2 = (if v1 < first.input then first.input else if last.input < v1 then last.input else v1) →
    points[i]? = some a → points[i + 1]? = some b → a.input ≤ v2 →
    (∀ j q, points[j]? = some q → q.input ≤ v2 → j + 2 ≤ points.length → j ≤ i) →
    span = b.input - a.input → d = v2 - a.input →
    drive = (2 * (a.drive * (span - d) + b.drive * d) + span) / (2 * span) →
    flight = (2 * (a.time * (span - d) + b.time * d) + span) / (2 * span) →
    level = max 1 (drive * trim / 1000) * (1000 + f.alpha * (f.temperature - 25).toNat) / 1000 →
    hold = max 1 (sc.hold * trim / 1000) * (1000 + f.alpha * (f.temperature - 25).toNat) / 1000 →
    top = (if f.hot then 768 else 1023) → lead = (flight + f.arrival + f.latency + 9) / 10 →
    x = computeStrike points sc trim value f c →
    x.velocity = v2 ∧ x.clamped = decide (v1 ≠ v2) ∧ x.level = min level top ∧ x.saturatedLevel = decide (top < level) ∧
    x.holdLevel = min hold top ∧ x.saturatedHold = decide (top < hold) ∧ x.attack = (sc.attack + 9) / 10 ∧
    x.rearm = (sc.rearm + 9) / 10 ∧
    (c.earliest + lead ≤ c.due → x.outcome = .computed ∧ x.onset = c.due - lead ∧ x.strike = some c.due) ∧
    (c.due < c.earliest + lead → c.earliest + lead ≤ c.due + c.tolerance →
      x.outcome = .late ∧ x.onset = c.earliest ∧ x.strike = some (c.earliest + lead)) ∧
    (c.due + c.tolerance < c.earliest + lead → x.outcome = .stale))

/-- The other records through a cached voice (R116 to R118, R120, R127, R131, R132), each of which leaves the intake. A Strike or
SilentPress is dropped by the first test of R127 that fails, which is counted. A record whose entry is of the other kind counts
VoiceAbsent. A Release takes the key's oldest note still owed: none counts Orphan; the note is owed no more, and where its Off
waits and the key has a driving station, an Off tick of R116 earlier than its own moves the Off, with origin Stream. A Pedal
record becomes one PedalSet, its position limited, inverted and read from the page, its level trimmed without a floor, derated and
limited, its onset raised to E as Late; with no station available to drive its pedal it is discarded uncounted. -/
def Obligations.ReleasesPedalsAndDropsAtAdmission : Prop :=
  ∀ (r : EventRecord) (rest : List EventRecord) (e : CacheEntry) (s u : State), s.intake = r :: rest →
    s.admissible r = true → 1 ≤ r.voice → r.voice ≤ 127 → s.voices.find r.voice = some e →
    u = { s with
      intake := rest,
      voices := { s.voices with entries := e :: s.voices.entries.filter (fun x => x.voice != e.voice) } } →
    (∀ points sc k, r.kind = .strike ∨ r.kind = .silentPress → e.kind = .key → e.page = .strike points sc → e.target = k →
      (s.faulted k = true → exec .admitRecord s = .next (u.bump .keyFault)) ∧
      (s.faulted k = false →
        ((s.driverOf k = none ∨ ∃ b, s.driverOf k = some b ∧
            (s.supplyIsLow b = true ∨ ∀ x, s.stationOf b = some x → x.present = false)) →
          exec .admitRecord s = .next (u.bump .keyUnavailable)) ∧
        (∀ b x, s.driverOf k = some b → s.supplyIsLow b = false → s.stationOf b = some x → x.present = true →
          (s.driveOf k).state = .yielded → exec .admitRecord s = .next (u.bump .yielded)))) ∧
    ((((r.kind = .strike ∨ r.kind = .silentPress ∨ r.kind = .release) ∧ e.kind ≠ .key) ∨
        (r.kind = .pedal ∧ e.kind = .key)) → exec .admitRecord s = .next (u.bump .voiceAbsent)) ∧
    (∀ k, r.kind = .release → e.kind = .key → e.target = k → Keyed k →
      ((∀ n ∈ (s.driveOf k).notes, n.owed = false) → exec .admitRecord s = .next (u.bump .orphan)) ∧
      (∀ before n after, (s.driveOf k).notes = before ++ n :: after → (∀ m ∈ before, m.owed = false) → n.owed = true →
        ∃ t, exec .admitRecord s = .next t ∧ t.intake = rest ∧ t.voices = u.voices ∧ t.port = s.port ∧
          (∀ j, j ≠ k → t.driveOf j = s.driveOf j) ∧ t.sched.pedals = s.sched.pedals ∧
          Touches { voices := true, intake := true, sched := true } s t ∧
          (n.offDispatched = true ∨ s.driverOf k = none → t.sched.entries = s.sched.entries ∧
            t.driveOf k = { s.driveOf k with notes := (s.driveOf k).notes.map (fun m =>
              if m.id = n.id then { m with owed := false } else m) }) ∧
          (∀ b x tick, n.offDispatched = false → s.driverOf k = some b → s.stationOf b = some x →
            tick = max (max (r.time + s.time.preroll + s.time.shift - (x.arrival + x.latency + 9) / 10)
              (n.onset + n.attack)) s.earliest →
            (n.off ≤ tick → t.sched.entries = s.sched.entries ∧
              t.driveOf k = { s.driveOf k with notes := (s.driveOf k).notes.map (fun m =>
                if m.id = n.id then { m with owed := false } else m) }) ∧
            (tick < n.off →
              t.sched.entries.Perm (s.sched.entries.map (fun y =>
                if y.offOf k && y.note == some n.id then { y with onset := tick } else y)) ∧
              (s.scheduleOrdered → t.scheduleOrdered) ∧
              t.driveOf k = { s.driveOf k with notes := (s.driveOf k).notes.map (fun m =>
                if m.id = n.id then { m with owed := false, off := tick, origin := .stream } else m) })))) ∧
    (∀ points q, r.kind = .pedal → e.kind ≠ .key → e.page = .pedal points → e.target = q →
      ((s.pedalDriverOf q = none ∨ ∃ b, s.pedalDriverOf q = some b ∧
          (s.supplyIsLow b = true ∨ ∀ x, s.stationOf b = some x → x.present = false)) → exec .admitRecord s = .next u) ∧
      (∀ b x first last value position read level lead due, s.pedalDriverOf q = some b → s.supplyIsLow b = false →
        s.stationOf b = some x → x.present = true → (points.head?.map Breakpoint.input).getD 0 = first →
        (points.getLast?.map Breakpoint.input).getD 0 = last → first ≤ last →
        value = (if e.kind = .invertedPedal then 255 - min r.value 255 else min r.value 255) →
        position = max first (min value last) → read = readCurve points position →
        level = read.1 * e.trim / 1000 * (1000 + x.alpha * (x.temperature - 25).toNat) / 1000 →
        lead = (read.2 + x.arrival + x.latency + 9) / 10 → due = r.time + s.time.preroll + s.time.shift →
        ∃ t p, exec .admitRecord s = .next t ∧ t.intake = rest ∧ t.voices = u.voices ∧ p.kind = .pedalSet ∧ p.target = q ∧
          p.level = min level (if s.isHot b then 768 else 1023) ∧ p.onset = max (due - lead) s.earliest ∧
          p.via = some ⟨e.voice, e.set⟩ ∧ p.note = none ∧ t.sched = { s.sched with
            entries := insertEntry p s.sched.entries } ∧
          t.count .clamped =
            (if 255 < r.value ∨ position ≠ value then countUp (s.count .clamped) else s.count .clamped) ∧
          t.count .saturated =
            (if (if s.isHot b then 768 else 1023) < level then countUp (s.count .saturated) else s.count .saturated) ∧
          t.count .late = (if due < s.earliest + lead then countUp (s.count .late) else s.count .late) ∧
          (∀ n, n ≠ .clamped → n ≠ .saturated → n ≠ .late → t.count n = s.count n) ∧
          Touches (footprint .admitRecord) s t))

/-- WALK_DESCRIPTOR_READ and WALK_COMPLETE (R98 to R100): a present descriptor is held by the walk; WALK_DESCRIPTOR_READ
taken again is the page read by itself, and holds the slot's content of that moment; a descriptor not present, a key above
keyCount, an empty slot or a page of the other kind ends the walk with VoiceAbsent and drops its record. The page judged is the
one held, or the slot as it stands. A suiting page enters the cache at the front, the last of 16 entries leaving, the descriptor
takes its Accessed mark (R89), and the record leaves the intake and proceeds with the new entry in the same event, on the state the
fill leaves. With no walk in flight nothing changes. The model's choice in it: log 1 and log 49. -/
def Obligations.WalksReadAndFill : Prop :=
  (∀ s : State, s.voices.walk = none → exec .walkDescriptorRead s = .next s ∧ exec .walkComplete s = .next s) ∧
  (∀ (w : Walk) (d : VoiceDescriptor) (s : State), s.voices.walk = some w →
      (w.descriptor = none → s.mem.descriptor w.set w.voice = some d → d.present = true →
        exec .walkDescriptorRead s = .next
          { s with voices := { s.voices with walk := some { w with descriptor := some d } } }) ∧
      (w.descriptor = none → s.mem.descriptor w.set w.voice = some d → d.present = false →
        exec .walkDescriptorRead s = .next (State.bump
          { s with voices := { s.voices with walk := none }, intake := s.intake.drop 1 } .voiceAbsent)) ∧
      (w.descriptor = some d → w.page = none → exec .walkDescriptorRead s = .next
        { s with voices := { s.voices with walk := some { w with page := some (s.mem.page d.page) } } }) ∧
      (w.descriptor ≠ none → w.page ≠ none → exec .walkDescriptorRead s = .next s) ∧
      (w.descriptor = some d →
        ((d.kind = .key ∧ s.keyCount < d.target) ∨ w.page.getD (s.mem.page d.page) = none ∨
          ∃ p, w.page.getD (s.mem.page d.page) = some p ∧ pageSuits d.kind p = false) →
        exec .walkComplete s = .next (State.bump
          { s with voices := { s.voices with walk := none }, intake := s.intake.drop 1 } .voiceAbsent)) ∧
      (w.descriptor = none → exec .walkComplete s = .next s)) ∧
  (∀ (w : Walk) (d : VoiceDescriptor) (p : Page) (r : EventRecord) (rest : List EventRecord) (s : State),
      s.voices.walk = some w → w.descriptor = some d → ¬(d.kind = .key ∧ s.keyCount < d.target) →
      w.page.getD (s.mem.page d.page) = some p → pageSuits d.kind p = true → s.intake = r :: rest →
      ∃ (t u : State) (e : CacheEntry), exec .walkComplete s = .next t ∧ t = u.proceed r e ∧
        e = { voice := w.voice, set := w.set, kind := d.kind, target := d.target, slot := d.page, trim := d.trim, page := p } ∧
        u = { s with
          intake := rest, mem := u.mem,
          voices := { s.voices with
            walk := none,
            entries := e :: (if s.voices.entries.length < 16 then s.voices.entries else s.voices.entries.dropLast) } } ∧
        (∀ x, s.mem.descriptor w.set w.voice = some x →
          u.mem.descriptor w.set w.voice = some { x with accessed := true }) ∧
        (∀ n v, (n, v) ≠ (w.set, w.voice) → u.mem.descriptor n v = s.mem.descriptor n v) ∧ u.mem.pages = s.mem.pages ∧
        u.mem.sense = s.mem.sense ∧ t.intake = rest ∧ t.voices = u.voices ∧ t.mem = u.mem)

/-- R170, R121: an Events frame in Replay or Duplex fills the intake in order up to 64 records, each further one counting
IntakeOverrun; in every other mode all of them count. -/
def Obligations.AnEventsFrameFillsTheIntake : Prop :=
  ∀ (tag : Byte) (records : List EventRecord) (s : State), s.port.restart = .none → 1 ≤ records.length →
    records.length ≤ 30 → s.intake.length ≤ 64 → s.count .intakeOverrun + records.length ≤ 65535 →
    ∃ t, exec (.eventsFrame tag records) s = .next t ∧
      (s.time.mode = .replay ∨ s.time.mode = .duplex →
        t.intake = s.intake ++ records.take (64 - s.intake.length) ∧
        t.count .intakeOverrun = s.count .intakeOverrun + (records.length - (64 - s.intake.length))) ∧
      (s.time.mode ≠ .replay → s.time.mode ≠ .duplex →
        t.intake = s.intake ∧ t.count .intakeOverrun = s.count .intakeOverrun + records.length) ∧
      ∀ c, c ≠ .intakeOverrun → t.count c = s.count c

/-! ### Verification and calibration (R146, R148 to R150, R158 to R163) -/

/-- R145, R146, R148 to R150: the two ends of a Monitor window. A Strike whose stamp lies in its span is a verification: the window
is gone, the key's yield level is 0, and nothing is captured. WINDOW_EXPIRY: a window that reached its close cycle is gone as
Missed, and every yield record stands; one not yet there stands. With adaptive trim on, the voice's trim moves, by the eighth of
the error's permille toward zero within 25 either way, or up by 25 for a Missed one, and stays within 500..1500: in its
descriptor, in its cached copy of the same set and in a walk that holds it. With outcome reports on, one record is sent with
its fields. The model's choice in it: log 1. -/
def Obligations.MonitorWindowsEnd : Prop :=
  (∀ (k stamp v strike commanded : Nat) (via : Via) (w : Window) (d : VoiceDescriptor) (step : Int) (after : Nat) (s : State),
    Keyed k → s.time.transport ≠ .stopped → s.windowOf k = some w → w.holder = .monitor commanded via →
    w.start ≤ stamp → stamp ≤ w.stop → s.mem.descriptor via.set via.voice = some d →
    step = clampInt (((((commanded : Int) - v) * 1000).tdiv commanded).tdiv 8) (-25) 25 →
    after = (clampInt ((d.trim : Int) + step) 500 1500).toNat →
    ∃ t, s.routeStrike k v stamp strike = t ∧ t.windowOf k = none ∧ (∀ j, j ≠ k → t.windowOf j = s.windowOf j) ∧
      t.yieldOf k = { s.yieldOf k with level := 0 } ∧ (∀ j, j ≠ k → t.yieldOf j = s.yieldOf j) ∧
      t.tracker = s.tracker ∧ t.capture = s.capture ∧ t.sched = s.sched ∧ TrimAdapted s t via d after ∧
      t.port = (s.outcomeSent .verified k via w.strike commanded (some v) (some ((stamp : Int) - w.strike)) d.trim step
        after).port) ∧
  (∀ (k commanded : Nat) (via : Via) (w : Window) (d : VoiceDescriptor) (after : Nat) (s : State), Keyed k →
    s.windowOf k = some w → w.holder = .monitor commanded via → s.mem.descriptor via.set via.voice = some d →
    after = (clampInt ((d.trim : Int) + 25) 500 1500).toNat →
    (s.time.transport = .running → w.close ≤ s.takeCycle →
      ∃ t, exec (.windowExpiry k) s = .next t ∧ t.windowOf k = none ∧ (∀ j, j ≠ k → t.windowOf j = s.windowOf j) ∧
        t.duplex.yields = s.duplex.yields ∧ t.sched = s.sched ∧ t.calib = s.calib ∧ TrimAdapted s t via d after ∧
        t.port = (s.outcomeSent .missed k via w.strike commanded none none d.trim 25 after).port) ∧
    (s.time.transport ≠ .running ∨ s.takeCycle < w.close → exec (.windowExpiry k) s = .next s))

/-- R159: a dispatched calibration Attack opens a window of 10,000 ticks at its onset and the strike is Measuring; where the key
cannot be seen the job fails with NoSensing. R160: a Strike in that window adds its velocity and its flight, the time from the
onset less the arrival offset and the board latency within 500..60,000, to the level's sums; R161: at the window's close cycle
the strike ends without one. R162: each finished strike asks the next one spacing behind its onset; the last of a level
appends the level's floor means to the samples; the last of the last level ends the sweep. R158: a strike is asked: too hot
it fails the job, with no room it waits, a refusal of the schedule fails the job with its reason, KeyFault, KeyUnavailable or
Yielded, else its Attack is in the schedule. The model's choice in it: log 1, and log 57 for a strike that the schedule refuses
where there is no room either. -/
def Obligations.MeasurementsAdvanceTheJob : Prop :=
  (∀ (k onset : Nat) (c : CurrentJob) (s : State), Keyed k → s.calib.current = some c → c.job.key = k →
      c.state = .admitted →
      ((s.trackerOf k).state ≠ .blind → s.sensed k = true → s.calibrationDispatched k onset =
        State.setJob (s.setWindow k (some { holder := .sequencer, strike := onset, start := onset, stop := onset + 10000,
                                            close := (onset + 10000) / 20 + 1 }))
          { c with onset := some onset, state := .measuring }) ∧
      ((s.trackerOf k).state = .blind ∨ s.sensed k = false → s.calibrationDispatched k onset = State.report
        { s with calib := { queue := s.calib.queue.drop 1, current := none, testDue := false } }
        (.jobFailed k c.job.slot .noSensing c.level (c.samples.map (fun x => (x, none)))))) ∧
  (∀ (k v stamp strike onset : Nat) (e : RosterEntry) (c : CurrentJob) (w : Window) (s : State), Keyed k →
      s.windowOf k = some w → w.holder = .sequencer → s.calib.current = some c → c.job.key = k →
      (s.time.transport ≠ .stopped → w.start ≤ stamp → stamp ≤ w.stop → c.onset = some onset →
        (s.driverOf k).bind s.stationOf = some e →
        s.routeStrike k v stamp strike = (s.setWindow k none).advanceJob
          { c with measured := c.measured + 1, sumVelocity := c.sumVelocity + v,
                   sumFlight := c.sumFlight +
                     (clampInt ((strike : Int) - onset * 10 - e.arrival - e.latency) 500 60000).toNat }) ∧
      (s.time.transport = .running → w.close ≤ s.takeCycle →
        exec (.windowExpiry k) s = .next ((s.setWindow k none).advanceJob c)) ∧
      (s.time.transport ≠ .running ∨ s.takeCycle < w.close → exec (.windowExpiry k) s = .next s)) ∧
  (∀ (onset : Nat) (x : Sample) (c d : CurrentJob) (s : State), c.onset = some onset →
      d = { c with state := .pending, planned := onset + c.job.spacing * 100, onset := none } →
      x = { level := c.job.minDrive + (c.job.maxDrive - c.job.minDrive) * c.level / (c.job.levels - 1),
            measured := c.measured,
            reading := if c.measured = 0 then none
              else some (c.sumVelocity / c.measured, c.sumFlight / c.measured) } →
      (c.strike < c.job.repeats → s.advanceJob c = s.askStrike { d with strike := c.strike + 1 }) ∧
      (c.job.repeats ≤ c.strike → c.level + 1 < c.job.levels → s.advanceJob c = s.askStrike
        { d with level := c.level + 1, strike := 1, measured := 0, sumVelocity := 0, sumFlight := 0,
                 samples := c.samples ++ [x] }) ∧
      (c.job.repeats ≤ c.strike → c.job.levels ≤ c.level + 1 → s.advanceJob c = s.finishSweep
        { d with level := c.level + 1, strike := 1, measured := 0, sumVelocity := 0, sumFlight := 0,
                 samples := c.samples ++ [x] })) ∧
  (∀ (k level : Nat) (c : CurrentJob) (s : State), Keyed k → c.job.key = k → c.state = .pending →
      s.calib.current = some c → level = jobLevel c.job c.level →
      ((s.driverOf k).any s.isHot = true → 768 < level ∨ 768 < c.scalars.hold → s.askStrike c = State.report
        { s with calib := { queue := s.calib.queue.drop 1, current := none, testDue := false } }
        (.jobFailed k c.job.slot .overTemperature c.level (c.samples.map (fun x => (x, none))))) ∧
      ((s.driverOf k).any s.isHot = false ∨ (level ≤ 768 ∧ c.scalars.hold ≤ 768) →
        (∀ counter reason, s.refusal k = some counter →
          ((counter = .keyFault ∧ reason = .keyFault) ∨ (counter = .keyUnavailable ∧ reason = .keyUnavailable) ∨
            (counter = .yielded ∧ reason = .yielded)) → s.askStrike c = State.report
          { s.bump counter with calib := { queue := s.calib.queue.drop 1, current := none, testDue := false } }
          (.jobFailed k c.job.slot reason c.level (c.samples.map (fun x => (x, none))))) ∧
        (s.refusal k = none → s.freeEntries < 2 → s.askStrike c = s) ∧
        (s.refusal k = none → 2 ≤ s.freeEntries → ∃ t, s.askStrike c = t ∧
          t.calib = { s.calib with current := some { c with state := .admitted } } ∧
          ∃ a ∈ t.sched.entries, ∃ o ∈ t.sched.entries, a.kind = .attack ∧ a.target = k ∧ a.level = level ∧
            a.holdLevel = c.scalars.hold ∧ a.via = none ∧ max c.planned s.earliest ≤ a.onset ∧ o.kind = .off ∧
            o.target = k ∧ o.onset = a.onset + c.attack ∧ o.note = a.note ∧ a.note ≠ none)))

/-- R163: of the samples in list order the first with a reading is kept, and each later one whose velocity is greater than the last
kept one's and whose flight is no greater. With two or more kept, a Strike page of one breakpoint for each, with the job's
scalars, is committed to the slot, every cache entry copied from the slot is removed, and JobDone is sent; with fewer the
slot stands and JobFailed is sent. The job leaves the queue. A page so built from levels that never decrease, and readings in
their ranges, meets the validity rules of R91. The model's choice in it: log 28. -/
def Obligations.PagesAreBuiltFromKeptSamples : Prop :=
  (∀ (before after : List Sample) (x : Sample), ∃ kept rest,
      keepMarks none (before ++ x :: after) = keepMarks none before ++ (x, kept) :: rest ∧
      (kept = true ↔ ∃ r, x.reading = some r ∧
        ∀ m l, ((keepMarks none before).filter (fun m => m.2)).getLast? = some m → m.1.reading = some l →
          l.1 < r.1 ∧ r.2 ≤ l.2)) ∧
  (∀ (samples : List Sample) (sc : Scalars), samples.length ≤ 16 → scalarsFailure sc = none →
      samples.Pairwise (fun a b => a.level ≤ b.level) → (∀ x ∈ samples, 1 ≤ x.level ∧ x.level ≤ 1023) →
      (∀ x ∈ samples, ∀ r, x.reading = some r → 1 ≤ r.1 ∧ r.1 ≤ 9999 ∧ 500 ≤ r.2 ∧ r.2 ≤ 60000) →
      2 ≤ (keptPoints (keepMarks none samples)).length →
      pageValid (.strike (keptPoints (keepMarks none samples)) sc) = true) ∧
  (∀ (c : CurrentJob) (points : List Breakpoint) (s : State), c.job.slot ≤ 511 →
      points = keptPoints (keepMarks none c.samples) →
      (2 ≤ points.length → pageValid (.strike points c.scalars) = true → ∃ t, s.finishSweep c = t ∧
        t.mem.page c.job.slot = some (.strike points c.scalars) ∧
        (∀ n, n ≠ c.job.slot → t.mem.page n = s.mem.page n) ∧ t.mem.sets = s.mem.sets ∧
        t.voices.entries = s.voices.entries.filter (fun e => e.slot != c.job.slot) ∧
        t.calib = { queue := s.calib.queue.drop 1, current := none, testDue := false } ∧
        t.port = (s.report (.jobDone c.job.key c.job.slot c.level (keepMarks none c.samples) points.length)).port) ∧
      (points.length < 2 → s.finishSweep c = State.report
        { s with calib := { queue := s.calib.queue.drop 1, current := none, testDue := false } }
        (.jobFailed c.job.key c.job.slot .fewSamples c.level
          ((keepMarks none c.samples).map (fun m => (m.1, some m.2))))))

/-! ### Frames of the Score Port (R169, R171, R173, R174, R177) -/

/-- Every request whose fields its layout can carry is read back from the payload R174 gives it, every field whole. -/
def Obligations.RequestsAreReadBack : Prop :=
  ∀ r : Request, r.wellFormed = true → readRequest (Request.payload r) = .good r

/-- A Request frame with the delimiter, header and check of 11.1, received by a hunting receive side, is taken as that
request: whatever its payload's bytes are (R169, R173). A frame of event records likewise (R170).
The model's choice in it: log 22. -/
def Obligations.FramesAreReceivedWhole : Prop :=
  ∀ (tag space : Byte) (payload : List Byte) (records : List EventRecord) (s : State), s.port.received = [] →
    (1 ≤ payload.length → payload.length ≤ 240 →
      exec (.frameErrors (portFrame 2 tag space payload)) s = exec (.requestFrame tag payload) s) ∧
    (1 ≤ records.length → records.length ≤ 30 → (∀ r ∈ records, r.wellFormed = true) →
      exec (.frameErrors (portFrame 1 tag space (records.flatMap EventRecord.bytes))) s =
        exec (.eventsFrame tag records) s)

/-- R169: bytes in which no 126 stands before a 165 leave the part as it was, but for a last 126, which is kept since it may begin a
delimiter; so also behind a 126 that was kept. A complete frame is discarded and counts FrameErrors once, where its check is bad, its
length is above 240, its kind is not 1 or 2, an Events frame's length is no multiple of 8 in 8..240 or one of its kind codes lies
outside 1..6, or a Request's length is 0; no block but the Score Port Controller sees it, and the hunt goes on from the byte after
its delimiter: its own bytes, where no Restart stands among them, are received as if they came anew, and whatever frame they hold
is found. A Restart found first among them is taken as its row; where its Reply finds no room the reset it brings loses the bytes
behind it, else the hunt goes on in them (R179, R180), with the Restart refused BUSY while a store operation is in flight.
The model's choice in it: log 38. -/
def Obligations.DamagedFramesOnlyCount : Prop :=
  (∀ (held bytes : List Byte) (s : State), s.port.received = held → (held = [] ∨ held = [126]) →
    (∀ before after, held ++ bytes ≠ before ++ [126, 165] ++ after) →
    exec (.frameErrors bytes) s = .next
      { s with port := { s.port with received := if (held ++ bytes).getLast? = some 126 then [126] else [] } }) ∧
  (∀ (kind tag space : Byte) (payload body : List Byte) (c : BitVec 16) (s : State), s.port.received = [] →
    s.port.restart = .none → payload.length ≤ 255 → body = portBody kind tag space payload ++ crcBytes c →
    (c ≠ crc16 (portBody kind tag space payload) ∨ 240 < payload.length ∨ (kind ≠ 1 ∧ kind ≠ 2) ∨
      (kind = 1 ∧ (payload.length % 8 ≠ 0 ∨ ∃ i x, payload[8 * i]? = some x ∧ ¬(1 ≤ x.toNat ∧ x.toNat ≤ 6))) ∨
      payload = []) →
    ((∀ tag space before after, body ≠ before ++ portFrame 2 tag space [26] ++ after) →
      exec (.frameErrors ([126, 165] ++ body)) s = exec (.frameErrors body) (s.bump .frameErrors)) ∧
    (∀ tag space before after u, body = before ++ portFrame 2 tag space [26] ++ after →
      (∀ x y, before ≠ x ++ [126, 165] ++ y) → exec (.requestFrame tag [26]) (s.bump .frameErrors) = .next u →
      (s.storeBusy = false → 64 ≤ s.port.queue.length → exec (.frameErrors ([126, 165] ++ body)) s = .next u ∧
        u.atReset .restart ∧ u.port.received = []) ∧
      (s.storeBusy = false → s.port.queue.length < 64 →
        exec (.frameErrors ([126, 165] ++ body)) s = exec (.frameErrors after) u) ∧
      (s.storeBusy = true → (∀ g n x y, after ≠ x ++ portFrame 2 g n [26] ++ y) →
        exec (.frameErrors ([126, 165] ++ body)) s = exec (.frameErrors after) u)) ∧
    ((∀ before after, body ≠ before ++ [126, 165] ++ after) →
      exec (.frameErrors ([126, 165] ++ body)) s = .next (State.bump
        { s with port := { s.port with received := if body.getLast? = some 126 then [126] else [] } } .frameErrors)))

/-- R173, R4: a Request frame whose payload R174 gives is answered as its row, and a transport request or SetMode waits for
the next cycle start behind those already waiting; after a Restart's answer nothing is handed on (R179). A code that names no
request is answered UNKNOWN with the code found, and a payload of another length than its request's RANGE with the reason Length:
of a request of one length, of a SetCue by its presence byte, of a WritePage by its kind and count, of a SetOptions by its map, a
map with one of the bits 10..15 set among them. A frame without a payload, or with one above 240 bytes, is damaged (R169).
The model's choice in it: log 12, log 22 and log 45. -/
def Obligations.RequestFramesRunTheirRows : Prop :=
  (∀ (tag : Byte) (r : Request) (s : State), r.wellFormed = true →
    (s.port.restart = .none → Request.timed r = false →
      exec (.requestFrame tag (Request.payload r)) s = exec (rowOf tag r) { s with port := { s.port with received := [] } }) ∧
    (s.port.restart = .none → Request.timed r = true →
      exec (.requestFrame tag (Request.payload r)) s = .next
        { s with time := { s.time with waiting := s.time.waiting ++ [(tag, r)] },
                 port := { s.port with received := [] } }) ∧
    (s.port.restart ≠ .none →
      exec (.requestFrame tag (Request.payload r)) s = .next { s with port := { s.port with received := [] } })) ∧
  (∀ (tag code : Byte) (fields : List Byte) (s t : State) (refused : Prop), fields.length < 240 →
    t = { s with port := { s.port with received := [] } } → s.port.restart = .none →
    (refused ↔ exec (.requestFrame tag (code :: fields)) s = .next (t.reply tag code.toNat .range (.field 0))) →
    (code.toNat = 0 ∨ 28 < code.toNat →
      exec (.requestFrame tag (code :: fields)) s = .next (t.reply tag code.toNat .unknown (.code code.toNat))) ∧
    (∀ n, (code.toNat, n) ∈ [(1, 1), (2, 2), (3, 0), (4, 0), (5, 0), (7, 0), (8, 0), (9, 0), (10, 0), (11, 1), (12, 8), (13, 2),
        (14, 11), (15, 2), (17, 2), (18, 1), (19, 1), (20, 0), (21, 11), (22, 0), (23, 4), (25, 1), (26, 0), (27, 2), (28, 0)] →
      fields.length ≠ n → refused) ∧
    (code = 6 → (fields.length ≠ 1 ∧ fields.length ≠ 5) ∨ (fields[0]? = some 0 ∧ fields.length = 5) ∨
      (fields[0]? = some 1 ∧ fields.length = 1) → refused) ∧
    (code = 16 → (fields.length < 3 → refused) ∧
      (∀ kind count, fields[2]? = some kind → count = ((fields[3]?).map (fun y => y.toNat)).getD 0 →
        (kind = 1 → fields.length ≠ 14 + 6 * count → refused) ∧ (kind = 2 → fields.length ≠ 4 + 6 * count → refused) ∧
        (kind = 3 → fields.length ≠ 3 → refused))) ∧
    (code = 24 → (fields.length < 2 → refused) ∧
      (∀ high low map, fields[0]? = some high → fields[1]? = some low → map = 256 * high.toNat + low.toNat →
        (1024 ≤ map → refused) ∧
        (map < 1024 → fields.length ≠ 2 + 4 * ((List.range 10).filter (fun i => map.testBit i)).length → refused)))) ∧
  (∀ (tag : Byte) (payload : List Byte) (s t : State), t = { s with port := { s.port with received := [] } } →
    (s.port.restart = .none → payload = [] ∨ 240 < payload.length →
      exec (.requestFrame tag payload) s = .next (t.bump .frameErrors)) ∧
    (s.port.restart ≠ .none → exec (.requestFrame tag payload) s = .next t))

/-- R171, R172: a Reply, an answer to ReadStatus or a Report is handed behind the frames queued while they are fewer than 64, its
sending begun at once on a free line with the intake space of that moment; at 64 or more it is discarded, TransmitDrops counts one
and stops at 65535, and nothing else changes. R173: a Reply carries its request's tag; a Report the link cycle counter. R171, R177,
R179: the frame being sent leaves the queue and the next begins with the intake space of that moment, also while the Reply of a
Restart waits behind the frames ahead of it; behind that Reply nothing more is sent: its end leaves the line unused and the reset due
(log 26). A status period's end hands a Status frame when fewer than 56 frames are queued, its sending begun at once on a free line,
and starts the timer again, whatever the line carries. The model's choice in it: log 1, log 4, log 26 and log 59. -/
def Obligations.TheTransmitSideSendsInOrder : Prop :=
  (∀ (f : Upstream) (s : State),
      (s.port.queue.length < 64 → s.offer f = { s with port := { s.port with
          queue := s.port.queue ++ [f],
          line := if s.port.line = none ∧ s.port.restart ≠ .due then some (64 - s.intake.length) else s.port.line } }) ∧
      (64 ≤ s.port.queue.length →
        (s.offer f).count .transmitDrops =
          (if s.count .transmitDrops < 65535 then s.count .transmitDrops + 1 else s.count .transmitDrops) ∧
        (∀ c, c ≠ .transmitDrops → (s.offer f).count c = s.count c) ∧
        s.offer f = { s with port := { s.port with counters := (s.offer f).port.counters } })) ∧
  (∀ (s : State) (r : Report), s.report r = s.offer (.report s.time.linkCycle r)) ∧
  (∀ (s : State) (tag : Byte) (code : Nat) (result : Result) (data : ReplyData),
      s.reply tag code result data = s.offer (.reply tag code result data)) ∧
  (∀ (s : State) (tag : Byte), s.port.restart = .none →
      exec (.readStatus tag 0) s = .next (s.offer (.status tag (s.statusRecord true)))) ∧
  (∀ (f : Upstream) (rest : List Upstream) (n : Nat) (s : State), s.port.queue = f :: rest →
      (s.port.restart = .none ∨ (s.port.restart = .replying ∧ ∀ tag data, f ≠ .reply tag 26 .done data) →
        s.port.line = some n → exec .transmitComplete s = .next
          { s with port := { s.port with
            queue := rest, line := if rest = [] then none else some (64 - s.intake.length) } }) ∧
      (∀ tag data, s.port.restart = .replying → s.port.line = some n → f = .reply tag 26 .done data →
        exec .transmitComplete s = .next { s with port := { s.port with queue := rest, line := none, restart := .due } }) ∧
      (s.port.line = none → exec .transmitComplete s = .next s)) ∧
  (∀ s : State,
      (∀ p, s.port.timer = some p → s.port.restart ≠ .due → exec .statusPeriodExpiry s = .next
        { s with port := { s.port with
          queue := if s.port.queue.length < 56 then s.port.queue ++ [.status 0 (s.statusRecord false)] else s.port.queue,
          line := if s.port.line = none ∧ s.port.queue.length < 56 then some (64 - s.intake.length) else s.port.line,
          timer := some s.port.options.statusPeriod } }) ∧
      (s.port.timer = none → exec .statusPeriodExpiry s = .next s))

/-! ### The Strike Calculator (R109 to R118) -/

/-- R109: the interpolation is read between its endpoints, is exact at both ends, and is the weighted mean rounded half up. R109,
R117: a curve of rising inputs is read in the segment of the greatest index whose input is not above the value and which is not the
last breakpoint: its drive and its flight or lead are interpolated there. -/
def Obligations.InterpolationStaysBetweenItsEnds : Prop :=
  (∀ x y span d : Nat, 1 ≤ span → d ≤ span →
      min x y ≤ interp x y span d ∧ interp x y span d ≤ max x y ∧ interp x y span 0 = x ∧ interp x y span span = y ∧
        2 * (interp x y span d * span) ≤ 2 * (x * (span - d) + y * d) + span ∧
        2 * (x * (span - d) + y * d) < 2 * (interp x y span d * span) + span) ∧
  (∀ (points : List Breakpoint) (i v : Nat) (a b : Breakpoint), points.Pairwise (fun p q => p.input < q.input) →
    points[i]? = some a → points[i + 1]? = some b → a.input ≤ v →
    (∀ j q, points[j]? = some q → q.input ≤ v → j + 2 ≤ points.length → j ≤ i) →
    readCurve points v =
      (interp a.drive b.drive (b.input - a.input) (v - a.input), interp a.time b.time (b.input - a.input) (v - a.input)))

/-- R110, R111, R137: an attack level computed from a valid page lies in 1..1023, and in 1..768 while its station is over
temperature; so do the hold level and a silent press's level; the onset is never before E (R113); and the velocity played
lies within the page's. -/
def Obligations.ComputedStrikesAreInRange : Prop :=
  ∀ (points : List Breakpoint) (sc : Scalars) (trim value : Nat) (f : Feed) (c : Clocking),
    pageValid (.strike points sc) = true → 500 ≤ trim → trim ≤ 1500 →
    1 ≤ (computeStrike points sc trim value f c).level ∧
      (computeStrike points sc trim value f c).level ≤ (if f.hot then 768 else 1023) ∧
      1 ≤ (computeStrike points sc trim value f c).holdLevel ∧
      (computeStrike points sc trim value f c).holdLevel ≤ (if f.hot then 768 else 1023) ∧
      1 ≤ (computeSilent sc trim f c).level ∧ (computeSilent sc trim f c).level ≤ (if f.hot then 768 else 1023) ∧
      c.earliest ≤ (computeStrike points sc trim value f c).onset ∧
      ((curveEnds points).1 ≤ (computeStrike points sc trim value f c).velocity ∧
        (computeStrike points sc trim value f c).velocity ≤ (curveEnds points).2)

/-! ### Laws of the part, kept by every step from every state that meets them -/

/-- R2, R10, R14, R185: the laws of the clock and of the modes: counters in range, a take base exactly in a take, Stopped
in Idle, nothing scheduled or expected outside a take, and the mode Idle during a store operation. -/
def Obligations.EveryStepKeepsTheClockAndModeLaws : Prop :=
  ∀ s t : State, s.clockLawful → s.storeLawful → step s = .next t → t.clockLawful ∧ t.storeLawful

/-- R53, R87, R90, R91, R94: Table Memory holds nothing but valid descriptors, pages and Key Sense entries, whatever a
host writes, a restore reads or the part itself writes. -/
def Obligations.EveryStepKeepsTableMemoryValid : Prop :=
  ∀ s t : State, s.mem.lawful → step s = .next t → t.mem.lawful

/-- R121, R122, R124, R156: the intake, the schedule and the job queue keep their bounds. -/
def Obligations.EveryStepKeepsTheCapacities : Prop :=
  ∀ s t : State, s.capacityLawful → step s = .next t → t.capacityLawful

/-- R75, R96, R124, R125, R154, R177: the Capture Queue keeps its order and its bound of 256; the schedule's entries stand in the
order of R124; the Voice Cache, the Note Lists, the yield levels and the counters keep their bounds. R130, R134: the id of a note
stays the name of one note of one key (the model's choice in it: log 8). -/
def Obligations.EveryStepKeepsTheBounds : Prop :=
  ∀ s t : State, step s = .next t →
    (s.captureLawful → t.captureLawful) ∧ (s.scheduleOrdered → t.scheduleOrdered) ∧ (s.cacheLawful → t.cacheLawful) ∧
      (s.notesBounded → t.notesBounded) ∧ (s.notesNamed → t.notesNamed) ∧ (s.yieldsBounded → t.yieldsBounded) ∧
      (s.countersBounded → t.countersBounded)

/-- R18, R136, R182, R183: the frame last sent stays lawful, and a save in flight stays on an unprotected block of its
range. -/
def Obligations.EveryStepKeepsTheFrameAndSaveLaws : Prop :=
  ∀ s t : State, step s = .next t → (s.frameLawful → t.frameLawful) ∧ (s.saveLawful → t.saveLawful)

/-- Every law holds right after power is applied. -/
def Obligations.TheLawsHoldAtReset : Prop :=
  State.reset.clockLawful ∧ State.reset.storeLawful ∧ State.reset.mem.lawful ∧ State.reset.captureLawful ∧
    State.reset.scheduleOrdered ∧ State.reset.capacityLawful ∧ State.reset.cacheLawful ∧ State.reset.notesBounded ∧
    State.reset.notesNamed ∧ State.reset.yieldsBounded ∧ State.reset.countersBounded ∧ State.reset.frameLawful ∧
    State.reset.saveLawful ∧
    State.reset.atReset .powerOn
end

