-- ==== Sys2Proof/Laws/Bytes.lean ====
section
/-! SUPPORT. Bytes: what is written by `numBytes` is read by `fieldAt`, and fixed-length groups are read back. -/

namespace Sys2Proof.Machine

@[simp] theorem length_numBytes (width n : Nat) : (numBytes width n).length = width := by
  induction width with
  | zero => rfl
  | succ w ih => simp [numBytes, ih]

theorem bytesNum_from (l : List Byte) (a : Nat) :
    l.foldl (fun n b => n * 256 + b.toNat) a = a * 256 ^ l.length + bytesNum l := by
  induction l generalizing a with
  | nil => simp [bytesNum]
  | cons b l ih =>
    have h := ih (0 * 256 + b.toNat)
    simp only [bytesNum, List.foldl_cons, List.length_cons] at *
    rw [ih, h]; ring

theorem bytesNum_cons (b : Byte) (l : List Byte) : bytesNum (b :: l) = b.toNat * 256 ^ l.length + bytesNum l := by
  have := bytesNum_from l b.toNat
  simpa [bytesNum] using this

theorem bytesNum_numBytes_mod (width n : Nat) : bytesNum (numBytes width n) = n % 256 ^ width := by
  induction width with
  | zero => simp [numBytes, bytesNum, Nat.mod_one]
  | succ w ih =>
    have split : n % 256 ^ (w + 1) = n % 256 ^ w + 256 ^ w * (n / 256 ^ w % 256) := by
      rw [show 256 ^ (w + 1) = 256 ^ w * 256 from rfl, Nat.mod_mul]
    rw [numBytes, bytesNum_cons, ih, length_numBytes, BitVec.toNat_ofNat, split]
    exact (Nat.add_comm _ _).trans (congrArg _ (Nat.mul_comm _ _))

/-- A number that fits is read back from its bytes. -/
theorem bytesNum_numBytes {width n : Nat} (h : n < 256 ^ width) : bytesNum (numBytes width n) = n := by
  rw [bytesNum_numBytes_mod, Nat.mod_eq_of_lt h]

/-- A field behind some bytes. -/
theorem fieldAt_append (a l : List Byte) (i width : Nat) : fieldAt (a ++ l) (a.length + i) width = fieldAt l i width := by
  rw [fieldAt, fieldAt, ← List.drop_drop, List.drop_left]

/-- A number written at the front is read there. -/
theorem fieldAt_numBytes (l : List Byte) {width n : Nat} (h : n < 256 ^ width) :
    fieldAt (numBytes width n ++ l) 0 width = n := by
  simp [fieldAt, List.take_append, bytesNum_numBytes h]

@[simp] theorem length_crcBytes (c : BitVec 16) : (crcBytes c).length = 2 := length_numBytes _ _

theorem crcBytes_inj {a b : BitVec 16} (h : crcBytes a = crcBytes b) : a = b := by
  have ha := bytesNum_numBytes (width := 2) (n := a.toNat) (by have := a.isLt; simpa using this)
  have hb := bytesNum_numBytes (width := 2) (n := b.toNat) (by have := b.isLt; simpa using this)
  unfold crcBytes at h
  rw [h, hb] at ha
  exact BitVec.eq_of_toNat_eq ha.symm

/-! ### Groups of a fixed length -/

@[simp] theorem length_eventBytes (r : EventRecord) : r.bytes.length = 8 := by simp [EventRecord.bytes]

@[simp] theorem length_breakpointBytes (p : Breakpoint) : p.bytes.length = 6 := by simp [Breakpoint.bytes]

theorem length_flatMap_const {α : Type} (f : α → List Byte) (n : Nat) (h : ∀ a, (f a).length = n) (l : List α) :
    (l.flatMap f).length = n * l.length := by
  induction l with
  | nil => rfl
  | cons a l ih => simp [h, ih]; ring

/-- Groups written one behind another are read back one by one, whatever stands behind them. -/
theorem groups_flatMap {α : Type} (f : α → List Byte) (n : Nat) (h : ∀ a, (f a).length = n) (l : List α)
    (post : List Byte) : groups n l.length (l.flatMap f ++ post) = l.map f := by
  induction l with
  | nil => rfl
  | cons a l ih =>
    have e : (a :: l).flatMap f ++ post = f a ++ (l.flatMap f ++ post) := by simp
    rw [List.length_cons, groups, e]
    have h1 : (f a ++ (l.flatMap f ++ post)).take n = f a := by rw [← h a]; simp
    have h2 : (f a ++ (l.flatMap f ++ post)).drop n = l.flatMap f ++ post := by rw [← h a]; simp
    rw [h1, h2, ih, List.map_cons]

/-- An event record that fits its 8 bytes is read back (11.1). -/
theorem readEvent_bytes (r : EventRecord) (hv : r.voice < 256) (hx : r.value < 65536) (ht : r.time < 4294967296) :
    readEvent r.bytes = some r := by
  obtain ⟨kind, voice, value, time⟩ := r
  have h0 : fieldAt (EventRecord.bytes ⟨kind, voice, value, time⟩) 0 1 = kind.code := by
    unfold EventRecord.bytes
    rw [List.append_assoc, List.append_assoc, fieldAt_numBytes _ (by cases kind <;> simp [RecordKind.code])]
  have h1 : fieldAt (EventRecord.bytes ⟨kind, voice, value, time⟩) 1 1 = voice := by
    unfold EventRecord.bytes
    rw [List.append_assoc, List.append_assoc]
    exact (fieldAt_append (numBytes 1 kind.code) _ 0 1).trans (fieldAt_numBytes _ (by simpa using hv))
  have h2 : fieldAt (EventRecord.bytes ⟨kind, voice, value, time⟩) 2 2 = value := by
    unfold EventRecord.bytes
    rw [List.append_assoc]
    exact (fieldAt_append (numBytes 1 kind.code ++ numBytes 1 voice) _ 0 2).trans (fieldAt_numBytes _ (by simpa using hx))
  have h3 : fieldAt (EventRecord.bytes ⟨kind, voice, value, time⟩) 4 4 = time := by
    unfold EventRecord.bytes
    have e := fieldAt_append (numBytes 1 kind.code ++ numBytes 1 voice ++ numBytes 2 value) (numBytes 4 time ++ []) 0 4
    rw [List.append_nil] at e
    exact e.trans ((congrArg (fun l => fieldAt l 0 4) (List.append_nil _).symm).trans
      (fieldAt_numBytes _ (by simpa using ht)))
  unfold readEvent
  rw [h0, h1, h2, h3]
  cases kind <;> rfl

end Sys2Proof.Machine
end

