-- ==== Sys2Proof/Laws/Orders.lean ====
section
/-! SUPPORT. The two ordered lists: the schedule (R124) and the Capture Queue (R75). The order is total up to equals, and
an insertion keeps it, adds one element and removes none. -/

namespace Sys2Proof.Machine

/-! ### The schedule's order (R124) -/

/-- The order of R124 as one number would order it: onset, target rank, kind rank. -/
theorem Entry.before_iff (a b : Entry) : a.before b = true ↔
    a.onset < b.onset ∨ (a.onset = b.onset ∧ (a.targetRank < b.targetRank ∨
      (a.targetRank = b.targetRank ∧ a.kind.rank < b.kind.rank))) := by
  simp [Entry.before]

theorem Entry.not_before_iff (a b : Entry) : a.before b = false ↔ ¬(a.onset < b.onset ∨
    (a.onset = b.onset ∧ (a.targetRank < b.targetRank ∨
      (a.targetRank = b.targetRank ∧ a.kind.rank < b.kind.rank)))) := by
  rw [← Entry.before_iff]; simp

/-- What stands before `e` stands not after anything that `e` is not after. -/
theorem Entry.before_trans {a b c : Entry} (h1 : b.before a = false) (h2 : c.before b = false) : c.before a = false := by
  rw [Entry.not_before_iff] at *; omega

theorem Entry.before_asymm {a b : Entry} (h : a.before b = true) : b.before a = false := by
  rw [Entry.not_before_iff]; rw [Entry.before_iff] at h; omega

theorem mem_insertEntry {e x : Entry} {l : List Entry} : x ∈ insertEntry e l ↔ x = e ∨ x ∈ l := by
  induction l with
  | nil => simp [insertEntry]
  | cons y ys ih =>
    unfold insertEntry
    split
    · simp
    · simp only [List.mem_cons, ih]; tauto

theorem length_insertEntry (e : Entry) (l : List Entry) : (insertEntry e l).length = l.length + 1 := by
  induction l with
  | nil => rfl
  | cons y ys ih => unfold insertEntry; split <;> simp [*]

/-- An insertion keeps the order of R124. -/
theorem ordered_insertEntry {e : Entry} {l : List Entry} (h : l.Pairwise (fun a b => b.before a = false)) :
    (insertEntry e l).Pairwise (fun a b => b.before a = false) := by
  induction l with
  | nil => simp [insertEntry]
  | cons y ys ih =>
    rw [List.pairwise_cons] at h
    unfold insertEntry
    split
    · next hb =>
      refine List.pairwise_cons.2 ⟨fun x hx => ?_, List.pairwise_cons.2 h⟩
      rcases List.mem_cons.1 hx with rfl | hx
      · exact Entry.before_asymm hb
      · exact Entry.before_trans (Entry.before_asymm hb) (h.1 x hx)
    · next hb =>
      refine List.pairwise_cons.2 ⟨fun x hx => ?_, ih h.2⟩
      rcases mem_insertEntry.1 hx with rfl | hx
      · simpa using hb
      · exact h.1 x hx

theorem mem_insertEntries {x : Entry} {es l : List Entry} : x ∈ insertEntries es l ↔ x ∈ es ∨ x ∈ l := by
  induction es generalizing l with
  | nil => simp [insertEntries]
  | cons e es ih =>
    have := ih (l := insertEntry e l)
    simp only [insertEntries, List.foldl_cons] at *
    rw [this, mem_insertEntry]; simp only [List.mem_cons]; tauto

theorem length_insertEntries (es l : List Entry) : (insertEntries es l).length = es.length + l.length := by
  induction es generalizing l with
  | nil => simp [insertEntries]
  | cons e es ih =>
    have := ih (insertEntry e l)
    simp only [insertEntries, List.foldl_cons, List.length_cons] at *
    rw [this, length_insertEntry]; omega

theorem ordered_insertEntries {es l : List Entry} (h : l.Pairwise (fun a b => b.before a = false)) :
    (insertEntries es l).Pairwise (fun a b => b.before a = false) := by
  induction es generalizing l with
  | nil => exact h
  | cons e es ih => exact ih (ordered_insertEntry h)

/-- Moving every entry later by one length keeps the order (R9, R139). -/
theorem Entry.before_later (d : Nat) (a b : Entry) : (a.later d).before (b.later d) = a.before b := by
  have hr : ∀ e : Entry, (e.later d).targetRank = e.targetRank := fun _ => rfl
  have hk : ∀ e : Entry, (e.later d).kind = e.kind := fun _ => rfl
  have ho : ∀ e : Entry, (e.later d).onset = e.onset + d := fun _ => rfl
  rw [Bool.eq_iff_iff, Entry.before_iff, Entry.before_iff, hr, hr, hk, hk, ho, ho]
  omega

/-- What a Pause leaves is a sublist of what was there (R139). -/
theorem pauseRemoves_sublist (d : KeyDrive) (k : Nat) (strikes : List Nat) (seen : Bool) (l : List Entry) :
    (pauseRemoves d k strikes seen l).Sublist l := by
  induction l generalizing seen with
  | nil => exact List.Sublist.refl _
  | cons e es ih =>
    unfold pauseRemoves
    simp only
    split
    · exact (ih _).cons _
    · exact (ih _).cons₂ _

/-! ### The Capture Queue's order (R75) -/

theorem CaptureEvent.before_iff (a b : CaptureEvent) : a.before b = true ↔
    a.stamp < b.stamp ∨ (a.stamp = b.stamp ∧ (a.voice < b.voice ∨
      (a.voice = b.voice ∧ a.kind.rank < b.kind.rank))) := by
  simp [CaptureEvent.before]

theorem CaptureEvent.not_before_iff (a b : CaptureEvent) : a.before b = false ↔ ¬(a.stamp < b.stamp ∨
    (a.stamp = b.stamp ∧ (a.voice < b.voice ∨ (a.voice = b.voice ∧ a.kind.rank < b.kind.rank)))) := by
  rw [← CaptureEvent.before_iff]; simp

theorem mem_insertEvent {e x : CaptureEvent} {l : List CaptureEvent} : x ∈ insertEvent e l ↔ x = e ∨ x ∈ l := by
  induction l with
  | nil => simp [insertEvent]
  | cons y ys ih =>
    unfold insertEvent
    split
    · simp
    · simp only [List.mem_cons, ih]; tauto

theorem length_insertEvent (e : CaptureEvent) (l : List CaptureEvent) : (insertEvent e l).length = l.length + 1 := by
  induction l with
  | nil => rfl
  | cons y ys ih => unfold insertEvent; split <;> simp [*]

/-- An insertion keeps the order of R75. -/
theorem ordered_insertEvent {e : CaptureEvent} {l : List CaptureEvent} (h : l.Pairwise (fun a b => b.before a = false)) :
    (insertEvent e l).Pairwise (fun a b => b.before a = false) := by
  induction l with
  | nil => simp [insertEvent]
  | cons y ys ih =>
    rw [List.pairwise_cons] at h
    unfold insertEvent
    split
    · next hb =>
      refine List.pairwise_cons.2 ⟨fun x hx => ?_, List.pairwise_cons.2 h⟩
      rw [CaptureEvent.before_iff] at hb
      rcases List.mem_cons.1 hx with rfl | hx
      · rw [CaptureEvent.not_before_iff]; omega
      · have := h.1 x hx
        rw [CaptureEvent.not_before_iff] at *; omega
    · next hb =>
      refine List.pairwise_cons.2 ⟨fun x hx => ?_, ih h.2⟩
      rcases mem_insertEvent.1 hx with rfl | hx
      · simpa using hb
      · exact h.1 x hx

/-- The list without its last element of a kind is a sublist (R76). -/
theorem dropLastThat_sublist (p : CaptureEvent → Bool) (l : List CaptureEvent) : (dropLastThat p l).Sublist l := by
  unfold dropLastThat
  exact (List.reverse_sublist.2 List.eraseP_sublist).trans (by simp)

end Sys2Proof.Machine
end

