-- ==== Sys2Proof/Laws/State.lean ====
section
/-! SUPPORT. What each update of the state leaves in each field: one lemma per field per update, all by definition, so that
no later proof unfolds an update. -/

namespace Sys2Proof.Machine

/-! ### setTime -/

@[simp] theorem State.setTime_link (s : State) (t : TimeBase) : (s.setTime t).link = s.link := rfl
@[simp] theorem State.setTime_tracker (s : State) (t : TimeBase) : (s.setTime t).tracker = s.tracker := rfl
@[simp] theorem State.setTime_capture (s : State) (t : TimeBase) : (s.setTime t).capture = s.capture := rfl
@[simp] theorem State.setTime_mem (s : State) (t : TimeBase) : (s.setTime t).mem = s.mem := rfl
@[simp] theorem State.setTime_voices (s : State) (t : TimeBase) : (s.setTime t).voices = s.voices := rfl
@[simp] theorem State.setTime_intake (s : State) (t : TimeBase) : (s.setTime t).intake = s.intake := rfl
@[simp] theorem State.setTime_sched (s : State) (t : TimeBase) : (s.setTime t).sched = s.sched := rfl
@[simp] theorem State.setTime_duplex (s : State) (t : TimeBase) : (s.setTime t).duplex = s.duplex := rfl
@[simp] theorem State.setTime_calib (s : State) (t : TimeBase) : (s.setTime t).calib = s.calib := rfl
@[simp] theorem State.setTime_port (s : State) (t : TimeBase) : (s.setTime t).port = s.port := rfl
@[simp] theorem State.setTime_store (s : State) (t : TimeBase) : (s.setTime t).store = s.store := rfl
@[simp] theorem State.setTime_pending (s : State) (t : TimeBase) : (s.setTime t).pending = s.pending := rfl
@[simp] theorem State.setTime_time (s : State) (t : TimeBase) : (s.setTime t).time = t := rfl

/-! ### setTracker -/

@[simp] theorem State.setTracker_time (s : State) (k : Nat) (r : TrackerRecord) : (s.setTracker k r).time = s.time := rfl
@[simp] theorem State.setTracker_link (s : State) (k : Nat) (r : TrackerRecord) : (s.setTracker k r).link = s.link := rfl
@[simp] theorem State.setTracker_capture (s : State) (k : Nat) (r : TrackerRecord) : (s.setTracker k r).capture = s.capture := rfl
@[simp] theorem State.setTracker_mem (s : State) (k : Nat) (r : TrackerRecord) : (s.setTracker k r).mem = s.mem := rfl
@[simp] theorem State.setTracker_voices (s : State) (k : Nat) (r : TrackerRecord) : (s.setTracker k r).voices = s.voices := rfl
@[simp] theorem State.setTracker_intake (s : State) (k : Nat) (r : TrackerRecord) : (s.setTracker k r).intake = s.intake := rfl
@[simp] theorem State.setTracker_sched (s : State) (k : Nat) (r : TrackerRecord) : (s.setTracker k r).sched = s.sched := rfl
@[simp] theorem State.setTracker_duplex (s : State) (k : Nat) (r : TrackerRecord) : (s.setTracker k r).duplex = s.duplex := rfl
@[simp] theorem State.setTracker_calib (s : State) (k : Nat) (r : TrackerRecord) : (s.setTracker k r).calib = s.calib := rfl
@[simp] theorem State.setTracker_port (s : State) (k : Nat) (r : TrackerRecord) : (s.setTracker k r).port = s.port := rfl
@[simp] theorem State.setTracker_store (s : State) (k : Nat) (r : TrackerRecord) : (s.setTracker k r).store = s.store := rfl
@[simp] theorem State.setTracker_pending (s : State) (k : Nat) (r : TrackerRecord) : (s.setTracker k r).pending = s.pending := rfl
@[simp] theorem State.setTracker_tracker_keys (s : State) (k : Nat) (r : TrackerRecord) :
    (s.setTracker k r).tracker.keys = setNth s.tracker.keys k r := rfl
@[simp] theorem State.setTracker_tracker_pedals (s : State) (k : Nat) (r : TrackerRecord) :
    (s.setTracker k r).tracker.pedals = s.tracker.pedals := rfl

/-! ### setPedal -/

@[simp] theorem State.setPedal_time (s : State) (q : Nat) (r : PedalCapture) : (s.setPedal q r).time = s.time := rfl
@[simp] theorem State.setPedal_link (s : State) (q : Nat) (r : PedalCapture) : (s.setPedal q r).link = s.link := rfl
@[simp] theorem State.setPedal_capture (s : State) (q : Nat) (r : PedalCapture) : (s.setPedal q r).capture = s.capture := rfl
@[simp] theorem State.setPedal_mem (s : State) (q : Nat) (r : PedalCapture) : (s.setPedal q r).mem = s.mem := rfl
@[simp] theorem State.setPedal_voices (s : State) (q : Nat) (r : PedalCapture) : (s.setPedal q r).voices = s.voices := rfl
@[simp] theorem State.setPedal_intake (s : State) (q : Nat) (r : PedalCapture) : (s.setPedal q r).intake = s.intake := rfl
@[simp] theorem State.setPedal_sched (s : State) (q : Nat) (r : PedalCapture) : (s.setPedal q r).sched = s.sched := rfl
@[simp] theorem State.setPedal_duplex (s : State) (q : Nat) (r : PedalCapture) : (s.setPedal q r).duplex = s.duplex := rfl
@[simp] theorem State.setPedal_calib (s : State) (q : Nat) (r : PedalCapture) : (s.setPedal q r).calib = s.calib := rfl
@[simp] theorem State.setPedal_port (s : State) (q : Nat) (r : PedalCapture) : (s.setPedal q r).port = s.port := rfl
@[simp] theorem State.setPedal_store (s : State) (q : Nat) (r : PedalCapture) : (s.setPedal q r).store = s.store := rfl
@[simp] theorem State.setPedal_pending (s : State) (q : Nat) (r : PedalCapture) : (s.setPedal q r).pending = s.pending := rfl
@[simp] theorem State.setPedal_tracker_keys (s : State) (q : Nat) (r : PedalCapture) :
    (s.setPedal q r).tracker.keys = s.tracker.keys := rfl
@[simp] theorem State.setPedal_tracker_pedals (s : State) (q : Nat) (r : PedalCapture) :
    (s.setPedal q r).tracker.pedals = setNth s.tracker.pedals q r := rfl

/-! ### setDrive -/

@[simp] theorem State.setDrive_time (s : State) (k : Nat) (d : KeyDrive) : (s.setDrive k d).time = s.time := rfl
@[simp] theorem State.setDrive_link (s : State) (k : Nat) (d : KeyDrive) : (s.setDrive k d).link = s.link := rfl
@[simp] theorem State.setDrive_tracker (s : State) (k : Nat) (d : KeyDrive) : (s.setDrive k d).tracker = s.tracker := rfl
@[simp] theorem State.setDrive_capture (s : State) (k : Nat) (d : KeyDrive) : (s.setDrive k d).capture = s.capture := rfl
@[simp] theorem State.setDrive_mem (s : State) (k : Nat) (d : KeyDrive) : (s.setDrive k d).mem = s.mem := rfl
@[simp] theorem State.setDrive_voices (s : State) (k : Nat) (d : KeyDrive) : (s.setDrive k d).voices = s.voices := rfl
@[simp] theorem State.setDrive_intake (s : State) (k : Nat) (d : KeyDrive) : (s.setDrive k d).intake = s.intake := rfl
@[simp] theorem State.setDrive_duplex (s : State) (k : Nat) (d : KeyDrive) : (s.setDrive k d).duplex = s.duplex := rfl
@[simp] theorem State.setDrive_calib (s : State) (k : Nat) (d : KeyDrive) : (s.setDrive k d).calib = s.calib := rfl
@[simp] theorem State.setDrive_port (s : State) (k : Nat) (d : KeyDrive) : (s.setDrive k d).port = s.port := rfl
@[simp] theorem State.setDrive_store (s : State) (k : Nat) (d : KeyDrive) : (s.setDrive k d).store = s.store := rfl
@[simp] theorem State.setDrive_pending (s : State) (k : Nat) (d : KeyDrive) : (s.setDrive k d).pending = s.pending := rfl
@[simp] theorem State.setDrive_sched_entries (s : State) (k : Nat) (d : KeyDrive) :
    (s.setDrive k d).sched.entries = s.sched.entries := rfl
@[simp] theorem State.setDrive_sched_keys (s : State) (k : Nat) (d : KeyDrive) :
    (s.setDrive k d).sched.keys = setNth s.sched.keys k d := rfl
@[simp] theorem State.setDrive_sched_pedals (s : State) (k : Nat) (d : KeyDrive) :
    (s.setDrive k d).sched.pedals = s.sched.pedals := rfl
@[simp] theorem State.setDrive_sched_nextNote (s : State) (k : Nat) (d : KeyDrive) :
    (s.setDrive k d).sched.nextNote = s.sched.nextNote := rfl

/-! ### setPedalDrive -/

@[simp] theorem State.setPedalDrive_time (s : State) (q : Nat) (d : PedalDrive) : (s.setPedalDrive q d).time = s.time := rfl
@[simp] theorem State.setPedalDrive_link (s : State) (q : Nat) (d : PedalDrive) : (s.setPedalDrive q d).link = s.link := rfl
@[simp] theorem State.setPedalDrive_tracker (s : State) (q : Nat) (d : PedalDrive) : (s.setPedalDrive q d).tracker = s.tracker := rfl
@[simp] theorem State.setPedalDrive_capture (s : State) (q : Nat) (d : PedalDrive) : (s.setPedalDrive q d).capture = s.capture := rfl
@[simp] theorem State.setPedalDrive_mem (s : State) (q : Nat) (d : PedalDrive) : (s.setPedalDrive q d).mem = s.mem := rfl
@[simp] theorem State.setPedalDrive_voices (s : State) (q : Nat) (d : PedalDrive) : (s.setPedalDrive q d).voices = s.voices := rfl
@[simp] theorem State.setPedalDrive_intake (s : State) (q : Nat) (d : PedalDrive) : (s.setPedalDrive q d).intake = s.intake := rfl
@[simp] theorem State.setPedalDrive_duplex (s : State) (q : Nat) (d : PedalDrive) : (s.setPedalDrive q d).duplex = s.duplex := rfl
@[simp] theorem State.setPedalDrive_calib (s : State) (q : Nat) (d : PedalDrive) : (s.setPedalDrive q d).calib = s.calib := rfl
@[simp] theorem State.setPedalDrive_port (s : State) (q : Nat) (d : PedalDrive) : (s.setPedalDrive q d).port = s.port := rfl
@[simp] theorem State.setPedalDrive_store (s : State) (q : Nat) (d : PedalDrive) : (s.setPedalDrive q d).store = s.store := rfl
@[simp] theorem State.setPedalDrive_pending (s : State) (q : Nat) (d : PedalDrive) : (s.setPedalDrive q d).pending = s.pending := rfl
@[simp] theorem State.setPedalDrive_sched_entries (s : State) (q : Nat) (d : PedalDrive) :
    (s.setPedalDrive q d).sched.entries = s.sched.entries := rfl
@[simp] theorem State.setPedalDrive_sched_keys (s : State) (q : Nat) (d : PedalDrive) :
    (s.setPedalDrive q d).sched.keys = s.sched.keys := rfl
@[simp] theorem State.setPedalDrive_sched_pedals (s : State) (q : Nat) (d : PedalDrive) :
    (s.setPedalDrive q d).sched.pedals = setNth s.sched.pedals q d := rfl
@[simp] theorem State.setPedalDrive_sched_nextNote (s : State) (q : Nat) (d : PedalDrive) :
    (s.setPedalDrive q d).sched.nextNote = s.sched.nextNote := rfl

/-! ### setEntries -/

@[simp] theorem State.setEntries_time (s : State) (es : List Entry) : (s.setEntries es).time = s.time := rfl
@[simp] theorem State.setEntries_link (s : State) (es : List Entry) : (s.setEntries es).link = s.link := rfl
@[simp] theorem State.setEntries_tracker (s : State) (es : List Entry) : (s.setEntries es).tracker = s.tracker := rfl
@[simp] theorem State.setEntries_capture (s : State) (es : List Entry) : (s.setEntries es).capture = s.capture := rfl
@[simp] theorem State.setEntries_mem (s : State) (es : List Entry) : (s.setEntries es).mem = s.mem := rfl
@[simp] theorem State.setEntries_voices (s : State) (es : List Entry) : (s.setEntries es).voices = s.voices := rfl
@[simp] theorem State.setEntries_intake (s : State) (es : List Entry) : (s.setEntries es).intake = s.intake := rfl
@[simp] theorem State.setEntries_duplex (s : State) (es : List Entry) : (s.setEntries es).duplex = s.duplex := rfl
@[simp] theorem State.setEntries_calib (s : State) (es : List Entry) : (s.setEntries es).calib = s.calib := rfl
@[simp] theorem State.setEntries_port (s : State) (es : List Entry) : (s.setEntries es).port = s.port := rfl
@[simp] theorem State.setEntries_store (s : State) (es : List Entry) : (s.setEntries es).store = s.store := rfl
@[simp] theorem State.setEntries_pending (s : State) (es : List Entry) : (s.setEntries es).pending = s.pending := rfl
@[simp] theorem State.setEntries_sched_entries (s : State) (es : List Entry) :
    (s.setEntries es).sched.entries = es := rfl
@[simp] theorem State.setEntries_sched_keys (s : State) (es : List Entry) :
    (s.setEntries es).sched.keys = s.sched.keys := rfl
@[simp] theorem State.setEntries_sched_pedals (s : State) (es : List Entry) :
    (s.setEntries es).sched.pedals = s.sched.pedals := rfl
@[simp] theorem State.setEntries_sched_nextNote (s : State) (es : List Entry) :
    (s.setEntries es).sched.nextNote = s.sched.nextNote := rfl

/-! ### setWindow -/

@[simp] theorem State.setWindow_time (s : State) (k : Nat) (w : Option Window) : (s.setWindow k w).time = s.time := rfl
@[simp] theorem State.setWindow_link (s : State) (k : Nat) (w : Option Window) : (s.setWindow k w).link = s.link := rfl
@[simp] theorem State.setWindow_tracker (s : State) (k : Nat) (w : Option Window) : (s.setWindow k w).tracker = s.tracker := rfl
@[simp] theorem State.setWindow_capture (s : State) (k : Nat) (w : Option Window) : (s.setWindow k w).capture = s.capture := rfl
@[simp] theorem State.setWindow_mem (s : State) (k : Nat) (w : Option Window) : (s.setWindow k w).mem = s.mem := rfl
@[simp] theorem State.setWindow_voices (s : State) (k : Nat) (w : Option Window) : (s.setWindow k w).voices = s.voices := rfl
@[simp] theorem State.setWindow_intake (s : State) (k : Nat) (w : Option Window) : (s.setWindow k w).intake = s.intake := rfl
@[simp] theorem State.setWindow_sched (s : State) (k : Nat) (w : Option Window) : (s.setWindow k w).sched = s.sched := rfl
@[simp] theorem State.setWindow_calib (s : State) (k : Nat) (w : Option Window) : (s.setWindow k w).calib = s.calib := rfl
@[simp] theorem State.setWindow_port (s : State) (k : Nat) (w : Option Window) : (s.setWindow k w).port = s.port := rfl
@[simp] theorem State.setWindow_store (s : State) (k : Nat) (w : Option Window) : (s.setWindow k w).store = s.store := rfl
@[simp] theorem State.setWindow_pending (s : State) (k : Nat) (w : Option Window) : (s.setWindow k w).pending = s.pending := rfl
@[simp] theorem State.setWindow_duplex_windows (s : State) (k : Nat) (w : Option Window) :
    (s.setWindow k w).duplex.windows = setNth s.duplex.windows k w := rfl
@[simp] theorem State.setWindow_duplex_yields (s : State) (k : Nat) (w : Option Window) :
    (s.setWindow k w).duplex.yields = s.duplex.yields := rfl

/-! ### setYield -/

@[simp] theorem State.setYield_time (s : State) (k : Nat) (y : YieldRecord) : (s.setYield k y).time = s.time := rfl
@[simp] theorem State.setYield_link (s : State) (k : Nat) (y : YieldRecord) : (s.setYield k y).link = s.link := rfl
@[simp] theorem State.setYield_tracker (s : State) (k : Nat) (y : YieldRecord) : (s.setYield k y).tracker = s.tracker := rfl
@[simp] theorem State.setYield_capture (s : State) (k : Nat) (y : YieldRecord) : (s.setYield k y).capture = s.capture := rfl
@[simp] theorem State.setYield_mem (s : State) (k : Nat) (y : YieldRecord) : (s.setYield k y).mem = s.mem := rfl
@[simp] theorem State.setYield_voices (s : State) (k : Nat) (y : YieldRecord) : (s.setYield k y).voices = s.voices := rfl
@[simp] theorem State.setYield_intake (s : State) (k : Nat) (y : YieldRecord) : (s.setYield k y).intake = s.intake := rfl
@[simp] theorem State.setYield_sched (s : State) (k : Nat) (y : YieldRecord) : (s.setYield k y).sched = s.sched := rfl
@[simp] theorem State.setYield_calib (s : State) (k : Nat) (y : YieldRecord) : (s.setYield k y).calib = s.calib := rfl
@[simp] theorem State.setYield_port (s : State) (k : Nat) (y : YieldRecord) : (s.setYield k y).port = s.port := rfl
@[simp] theorem State.setYield_store (s : State) (k : Nat) (y : YieldRecord) : (s.setYield k y).store = s.store := rfl
@[simp] theorem State.setYield_pending (s : State) (k : Nat) (y : YieldRecord) : (s.setYield k y).pending = s.pending := rfl
@[simp] theorem State.setYield_duplex_windows (s : State) (k : Nat) (y : YieldRecord) :
    (s.setYield k y).duplex.windows = s.duplex.windows := rfl
@[simp] theorem State.setYield_duplex_yields (s : State) (k : Nat) (y : YieldRecord) :
    (s.setYield k y).duplex.yields = setNth s.duplex.yields k y := rfl

/-! ### setEvents -/

@[simp] theorem State.setEvents_time (s : State) (es : List CaptureEvent) : (s.setEvents es).time = s.time := rfl
@[simp] theorem State.setEvents_link (s : State) (es : List CaptureEvent) : (s.setEvents es).link = s.link := rfl
@[simp] theorem State.setEvents_tracker (s : State) (es : List CaptureEvent) : (s.setEvents es).tracker = s.tracker := rfl
@[simp] theorem State.setEvents_mem (s : State) (es : List CaptureEvent) : (s.setEvents es).mem = s.mem := rfl
@[simp] theorem State.setEvents_voices (s : State) (es : List CaptureEvent) : (s.setEvents es).voices = s.voices := rfl
@[simp] theorem State.setEvents_intake (s : State) (es : List CaptureEvent) : (s.setEvents es).intake = s.intake := rfl
@[simp] theorem State.setEvents_sched (s : State) (es : List CaptureEvent) : (s.setEvents es).sched = s.sched := rfl
@[simp] theorem State.setEvents_duplex (s : State) (es : List CaptureEvent) : (s.setEvents es).duplex = s.duplex := rfl
@[simp] theorem State.setEvents_calib (s : State) (es : List CaptureEvent) : (s.setEvents es).calib = s.calib := rfl
@[simp] theorem State.setEvents_port (s : State) (es : List CaptureEvent) : (s.setEvents es).port = s.port := rfl
@[simp] theorem State.setEvents_store (s : State) (es : List CaptureEvent) : (s.setEvents es).store = s.store := rfl
@[simp] theorem State.setEvents_pending (s : State) (es : List CaptureEvent) : (s.setEvents es).pending = s.pending := rfl
@[simp] theorem State.setEvents_capture_events (s : State) (es : List CaptureEvent) :
    (s.setEvents es).capture.events = es := rfl
@[simp] theorem State.setEvents_capture_summary (s : State) (es : List CaptureEvent) :
    (s.setEvents es).capture.summary = s.capture.summary := rfl

/-! ### setJob -/

@[simp] theorem State.setJob_time (s : State) (c : CurrentJob) : (s.setJob c).time = s.time := rfl
@[simp] theorem State.setJob_link (s : State) (c : CurrentJob) : (s.setJob c).link = s.link := rfl
@[simp] theorem State.setJob_tracker (s : State) (c : CurrentJob) : (s.setJob c).tracker = s.tracker := rfl
@[simp] theorem State.setJob_capture (s : State) (c : CurrentJob) : (s.setJob c).capture = s.capture := rfl
@[simp] theorem State.setJob_mem (s : State) (c : CurrentJob) : (s.setJob c).mem = s.mem := rfl
@[simp] theorem State.setJob_voices (s : State) (c : CurrentJob) : (s.setJob c).voices = s.voices := rfl
@[simp] theorem State.setJob_intake (s : State) (c : CurrentJob) : (s.setJob c).intake = s.intake := rfl
@[simp] theorem State.setJob_sched (s : State) (c : CurrentJob) : (s.setJob c).sched = s.sched := rfl
@[simp] theorem State.setJob_duplex (s : State) (c : CurrentJob) : (s.setJob c).duplex = s.duplex := rfl
@[simp] theorem State.setJob_port (s : State) (c : CurrentJob) : (s.setJob c).port = s.port := rfl
@[simp] theorem State.setJob_store (s : State) (c : CurrentJob) : (s.setJob c).store = s.store := rfl
@[simp] theorem State.setJob_pending (s : State) (c : CurrentJob) : (s.setJob c).pending = s.pending := rfl
@[simp] theorem State.setJob_calib_queue (s : State) (c : CurrentJob) :
    (s.setJob c).calib.queue = s.calib.queue := rfl
@[simp] theorem State.setJob_calib_current (s : State) (c : CurrentJob) : (s.setJob c).calib.current = some c := rfl
@[simp] theorem State.setJob_calib_testDue (s : State) (c : CurrentJob) :
    (s.setJob c).calib.testDue = s.calib.testDue := rfl

/-! ### setOp -/

@[simp] theorem State.setOp_time (s : State) (op : StoreOp) : (s.setOp op).time = s.time := rfl
@[simp] theorem State.setOp_link (s : State) (op : StoreOp) : (s.setOp op).link = s.link := rfl
@[simp] theorem State.setOp_tracker (s : State) (op : StoreOp) : (s.setOp op).tracker = s.tracker := rfl
@[simp] theorem State.setOp_capture (s : State) (op : StoreOp) : (s.setOp op).capture = s.capture := rfl
@[simp] theorem State.setOp_mem (s : State) (op : StoreOp) : (s.setOp op).mem = s.mem := rfl
@[simp] theorem State.setOp_voices (s : State) (op : StoreOp) : (s.setOp op).voices = s.voices := rfl
@[simp] theorem State.setOp_intake (s : State) (op : StoreOp) : (s.setOp op).intake = s.intake := rfl
@[simp] theorem State.setOp_sched (s : State) (op : StoreOp) : (s.setOp op).sched = s.sched := rfl
@[simp] theorem State.setOp_duplex (s : State) (op : StoreOp) : (s.setOp op).duplex = s.duplex := rfl
@[simp] theorem State.setOp_calib (s : State) (op : StoreOp) : (s.setOp op).calib = s.calib := rfl
@[simp] theorem State.setOp_port (s : State) (op : StoreOp) : (s.setOp op).port = s.port := rfl
@[simp] theorem State.setOp_pending (s : State) (op : StoreOp) : (s.setOp op).pending = s.pending := rfl
@[simp] theorem State.setOp_store_blocks (s : State) (op : StoreOp) :
    (s.setOp op).store.blocks = s.store.blocks := rfl
@[simp] theorem State.setOp_store_op (s : State) (op : StoreOp) : (s.setOp op).store.op = op := rfl

/-! ### setStoreBlock -/

@[simp] theorem State.setStoreBlock_time (s : State) (b : Nat) (x : StoreBlock) : (s.setStoreBlock b x).time = s.time := rfl
@[simp] theorem State.setStoreBlock_link (s : State) (b : Nat) (x : StoreBlock) : (s.setStoreBlock b x).link = s.link := rfl
@[simp] theorem State.setStoreBlock_tracker (s : State) (b : Nat) (x : StoreBlock) : (s.setStoreBlock b x).tracker = s.tracker := rfl
@[simp] theorem State.setStoreBlock_capture (s : State) (b : Nat) (x : StoreBlock) : (s.setStoreBlock b x).capture = s.capture := rfl
@[simp] theorem State.setStoreBlock_mem (s : State) (b : Nat) (x : StoreBlock) : (s.setStoreBlock b x).mem = s.mem := rfl
@[simp] theorem State.setStoreBlock_voices (s : State) (b : Nat) (x : StoreBlock) : (s.setStoreBlock b x).voices = s.voices := rfl
@[simp] theorem State.setStoreBlock_intake (s : State) (b : Nat) (x : StoreBlock) : (s.setStoreBlock b x).intake = s.intake := rfl
@[simp] theorem State.setStoreBlock_sched (s : State) (b : Nat) (x : StoreBlock) : (s.setStoreBlock b x).sched = s.sched := rfl
@[simp] theorem State.setStoreBlock_duplex (s : State) (b : Nat) (x : StoreBlock) : (s.setStoreBlock b x).duplex = s.duplex := rfl
@[simp] theorem State.setStoreBlock_calib (s : State) (b : Nat) (x : StoreBlock) : (s.setStoreBlock b x).calib = s.calib := rfl
@[simp] theorem State.setStoreBlock_port (s : State) (b : Nat) (x : StoreBlock) : (s.setStoreBlock b x).port = s.port := rfl
@[simp] theorem State.setStoreBlock_pending (s : State) (b : Nat) (x : StoreBlock) : (s.setStoreBlock b x).pending = s.pending := rfl
@[simp] theorem State.setStoreBlock_store_blocks (s : State) (b : Nat) (x : StoreBlock) :
    (s.setStoreBlock b x).store.blocks = s.store.blocks.setIfInBounds b x := rfl
@[simp] theorem State.setStoreBlock_store_op (s : State) (b : Nat) (x : StoreBlock) :
    (s.setStoreBlock b x).store.op = s.store.op := rfl

/-! ### setFault -/

@[simp] theorem State.setFault_time (s : State) (k : Nat) (b : Bool) : (s.setFault k b).time = s.time := rfl
@[simp] theorem State.setFault_tracker (s : State) (k : Nat) (b : Bool) : (s.setFault k b).tracker = s.tracker := rfl
@[simp] theorem State.setFault_capture (s : State) (k : Nat) (b : Bool) : (s.setFault k b).capture = s.capture := rfl
@[simp] theorem State.setFault_mem (s : State) (k : Nat) (b : Bool) : (s.setFault k b).mem = s.mem := rfl
@[simp] theorem State.setFault_voices (s : State) (k : Nat) (b : Bool) : (s.setFault k b).voices = s.voices := rfl
@[simp] theorem State.setFault_intake (s : State) (k : Nat) (b : Bool) : (s.setFault k b).intake = s.intake := rfl
@[simp] theorem State.setFault_sched (s : State) (k : Nat) (b : Bool) : (s.setFault k b).sched = s.sched := rfl
@[simp] theorem State.setFault_duplex (s : State) (k : Nat) (b : Bool) : (s.setFault k b).duplex = s.duplex := rfl
@[simp] theorem State.setFault_calib (s : State) (k : Nat) (b : Bool) : (s.setFault k b).calib = s.calib := rfl
@[simp] theorem State.setFault_port (s : State) (k : Nat) (b : Bool) : (s.setFault k b).port = s.port := rfl
@[simp] theorem State.setFault_store (s : State) (k : Nat) (b : Bool) : (s.setFault k b).store = s.store := rfl
@[simp] theorem State.setFault_pending (s : State) (k : Nat) (b : Bool) : (s.setFault k b).pending = s.pending := rfl
@[simp] theorem State.setFault_link_state (s : State) (k : Nat) (b : Bool) :
    (s.setFault k b).link.state = s.link.state := rfl
@[simp] theorem State.setFault_link_roster (s : State) (k : Nat) (b : Bool) :
    (s.setFault k b).link.roster = s.link.roster := rfl
@[simp] theorem State.setFault_link_faults (s : State) (k : Nat) (b : Bool) :
    (s.setFault k b).link.faults = setNth s.link.faults k b := rfl
@[simp] theorem State.setFault_link_supplyLow (s : State) (k : Nat) (b : Bool) :
    (s.setFault k b).link.supplyLow = s.link.supplyLow := rfl
@[simp] theorem State.setFault_link_overTemp (s : State) (k : Nat) (b : Bool) :
    (s.setFault k b).link.overTemp = s.link.overTemp := rfl
@[simp] theorem State.setFault_link_blinder (s : State) (k : Nat) (b : Bool) :
    (s.setFault k b).link.blinder = s.link.blinder := rfl

/-! ### setSupplyLow -/

@[simp] theorem State.setSupplyLow_time (s : State) (b : Nat) (v : Bool) : (s.setSupplyLow b v).time = s.time := rfl
@[simp] theorem State.setSupplyLow_tracker (s : State) (b : Nat) (v : Bool) : (s.setSupplyLow b v).tracker = s.tracker := rfl
@[simp] theorem State.setSupplyLow_capture (s : State) (b : Nat) (v : Bool) : (s.setSupplyLow b v).capture = s.capture := rfl
@[simp] theorem State.setSupplyLow_mem (s : State) (b : Nat) (v : Bool) : (s.setSupplyLow b v).mem = s.mem := rfl
@[simp] theorem State.setSupplyLow_voices (s : State) (b : Nat) (v : Bool) : (s.setSupplyLow b v).voices = s.voices := rfl
@[simp] theorem State.setSupplyLow_intake (s : State) (b : Nat) (v : Bool) : (s.setSupplyLow b v).intake = s.intake := rfl
@[simp] theorem State.setSupplyLow_sched (s : State) (b : Nat) (v : Bool) : (s.setSupplyLow b v).sched = s.sched := rfl
@[simp] theorem State.setSupplyLow_duplex (s : State) (b : Nat) (v : Bool) : (s.setSupplyLow b v).duplex = s.duplex := rfl
@[simp] theorem State.setSupplyLow_calib (s : State) (b : Nat) (v : Bool) : (s.setSupplyLow b v).calib = s.calib := rfl
@[simp] theorem State.setSupplyLow_port (s : State) (b : Nat) (v : Bool) : (s.setSupplyLow b v).port = s.port := rfl
@[simp] theorem State.setSupplyLow_store (s : State) (b : Nat) (v : Bool) : (s.setSupplyLow b v).store = s.store := rfl
@[simp] theorem State.setSupplyLow_pending (s : State) (b : Nat) (v : Bool) : (s.setSupplyLow b v).pending = s.pending := rfl
@[simp] theorem State.setSupplyLow_link_state (s : State) (b : Nat) (v : Bool) :
    (s.setSupplyLow b v).link.state = s.link.state := rfl
@[simp] theorem State.setSupplyLow_link_roster (s : State) (b : Nat) (v : Bool) :
    (s.setSupplyLow b v).link.roster = s.link.roster := rfl
@[simp] theorem State.setSupplyLow_link_faults (s : State) (b : Nat) (v : Bool) :
    (s.setSupplyLow b v).link.faults = s.link.faults := rfl
@[simp] theorem State.setSupplyLow_link_supplyLow (s : State) (b : Nat) (v : Bool) :
    (s.setSupplyLow b v).link.supplyLow = setNth s.link.supplyLow b v := rfl
@[simp] theorem State.setSupplyLow_link_overTemp (s : State) (b : Nat) (v : Bool) :
    (s.setSupplyLow b v).link.overTemp = s.link.overTemp := rfl
@[simp] theorem State.setSupplyLow_link_blinder (s : State) (b : Nat) (v : Bool) :
    (s.setSupplyLow b v).link.blinder = s.link.blinder := rfl

/-! ### setOverTemp -/

@[simp] theorem State.setOverTemp_time (s : State) (b : Nat) (v : Bool) : (s.setOverTemp b v).time = s.time := rfl
@[simp] theorem State.setOverTemp_tracker (s : State) (b : Nat) (v : Bool) : (s.setOverTemp b v).tracker = s.tracker := rfl
@[simp] theorem State.setOverTemp_capture (s : State) (b : Nat) (v : Bool) : (s.setOverTemp b v).capture = s.capture := rfl
@[simp] theorem State.setOverTemp_mem (s : State) (b : Nat) (v : Bool) : (s.setOverTemp b v).mem = s.mem := rfl
@[simp] theorem State.setOverTemp_voices (s : State) (b : Nat) (v : Bool) : (s.setOverTemp b v).voices = s.voices := rfl
@[simp] theorem State.setOverTemp_intake (s : State) (b : Nat) (v : Bool) : (s.setOverTemp b v).intake = s.intake := rfl
@[simp] theorem State.setOverTemp_sched (s : State) (b : Nat) (v : Bool) : (s.setOverTemp b v).sched = s.sched := rfl
@[simp] theorem State.setOverTemp_duplex (s : State) (b : Nat) (v : Bool) : (s.setOverTemp b v).duplex = s.duplex := rfl
@[simp] theorem State.setOverTemp_calib (s : State) (b : Nat) (v : Bool) : (s.setOverTemp b v).calib = s.calib := rfl
@[simp] theorem State.setOverTemp_port (s : State) (b : Nat) (v : Bool) : (s.setOverTemp b v).port = s.port := rfl
@[simp] theorem State.setOverTemp_store (s : State) (b : Nat) (v : Bool) : (s.setOverTemp b v).store = s.store := rfl
@[simp] theorem State.setOverTemp_pending (s : State) (b : Nat) (v : Bool) : (s.setOverTemp b v).pending = s.pending := rfl
@[simp] theorem State.setOverTemp_link_state (s : State) (b : Nat) (v : Bool) :
    (s.setOverTemp b v).link.state = s.link.state := rfl
@[simp] theorem State.setOverTemp_link_roster (s : State) (b : Nat) (v : Bool) :
    (s.setOverTemp b v).link.roster = s.link.roster := rfl
@[simp] theorem State.setOverTemp_link_faults (s : State) (b : Nat) (v : Bool) :
    (s.setOverTemp b v).link.faults = s.link.faults := rfl
@[simp] theorem State.setOverTemp_link_supplyLow (s : State) (b : Nat) (v : Bool) :
    (s.setOverTemp b v).link.supplyLow = s.link.supplyLow := rfl
@[simp] theorem State.setOverTemp_link_overTemp (s : State) (b : Nat) (v : Bool) :
    (s.setOverTemp b v).link.overTemp = setNth s.link.overTemp b v := rfl
@[simp] theorem State.setOverTemp_link_blinder (s : State) (b : Nat) (v : Bool) :
    (s.setOverTemp b v).link.blinder = s.link.blinder := rfl

/-! ### setBlinder -/

@[simp] theorem State.setBlinder_time (s : State) (k : Nat) (b : Option Nat) : (s.setBlinder k b).time = s.time := rfl
@[simp] theorem State.setBlinder_tracker (s : State) (k : Nat) (b : Option Nat) : (s.setBlinder k b).tracker = s.tracker := rfl
@[simp] theorem State.setBlinder_capture (s : State) (k : Nat) (b : Option Nat) : (s.setBlinder k b).capture = s.capture := rfl
@[simp] theorem State.setBlinder_mem (s : State) (k : Nat) (b : Option Nat) : (s.setBlinder k b).mem = s.mem := rfl
@[simp] theorem State.setBlinder_voices (s : State) (k : Nat) (b : Option Nat) : (s.setBlinder k b).voices = s.voices := rfl
@[simp] theorem State.setBlinder_intake (s : State) (k : Nat) (b : Option Nat) : (s.setBlinder k b).intake = s.intake := rfl
@[simp] theorem State.setBlinder_sched (s : State) (k : Nat) (b : Option Nat) : (s.setBlinder k b).sched = s.sched := rfl
@[simp] theorem State.setBlinder_duplex (s : State) (k : Nat) (b : Option Nat) : (s.setBlinder k b).duplex = s.duplex := rfl
@[simp] theorem State.setBlinder_calib (s : State) (k : Nat) (b : Option Nat) : (s.setBlinder k b).calib = s.calib := rfl
@[simp] theorem State.setBlinder_port (s : State) (k : Nat) (b : Option Nat) : (s.setBlinder k b).port = s.port := rfl
@[simp] theorem State.setBlinder_store (s : State) (k : Nat) (b : Option Nat) : (s.setBlinder k b).store = s.store := rfl
@[simp] theorem State.setBlinder_pending (s : State) (k : Nat) (b : Option Nat) : (s.setBlinder k b).pending = s.pending := rfl
@[simp] theorem State.setBlinder_link_state (s : State) (k : Nat) (b : Option Nat) :
    (s.setBlinder k b).link.state = s.link.state := rfl
@[simp] theorem State.setBlinder_link_roster (s : State) (k : Nat) (b : Option Nat) :
    (s.setBlinder k b).link.roster = s.link.roster := rfl
@[simp] theorem State.setBlinder_link_faults (s : State) (k : Nat) (b : Option Nat) :
    (s.setBlinder k b).link.faults = s.link.faults := rfl
@[simp] theorem State.setBlinder_link_supplyLow (s : State) (k : Nat) (b : Option Nat) :
    (s.setBlinder k b).link.supplyLow = s.link.supplyLow := rfl
@[simp] theorem State.setBlinder_link_overTemp (s : State) (k : Nat) (b : Option Nat) :
    (s.setBlinder k b).link.overTemp = s.link.overTemp := rfl
@[simp] theorem State.setBlinder_link_blinder (s : State) (k : Nat) (b : Option Nat) :
    (s.setBlinder k b).link.blinder = setNth s.link.blinder k b := rfl

/-! ### setStation -/

@[simp] theorem State.setStation_time (s : State) (b : Nat) (e : RosterEntry) : (s.setStation b e).time = s.time := rfl
@[simp] theorem State.setStation_tracker (s : State) (b : Nat) (e : RosterEntry) : (s.setStation b e).tracker = s.tracker := rfl
@[simp] theorem State.setStation_capture (s : State) (b : Nat) (e : RosterEntry) : (s.setStation b e).capture = s.capture := rfl
@[simp] theorem State.setStation_mem (s : State) (b : Nat) (e : RosterEntry) : (s.setStation b e).mem = s.mem := rfl
@[simp] theorem State.setStation_voices (s : State) (b : Nat) (e : RosterEntry) : (s.setStation b e).voices = s.voices := rfl
@[simp] theorem State.setStation_intake (s : State) (b : Nat) (e : RosterEntry) : (s.setStation b e).intake = s.intake := rfl
@[simp] theorem State.setStation_sched (s : State) (b : Nat) (e : RosterEntry) : (s.setStation b e).sched = s.sched := rfl
@[simp] theorem State.setStation_duplex (s : State) (b : Nat) (e : RosterEntry) : (s.setStation b e).duplex = s.duplex := rfl
@[simp] theorem State.setStation_calib (s : State) (b : Nat) (e : RosterEntry) : (s.setStation b e).calib = s.calib := rfl
@[simp] theorem State.setStation_port (s : State) (b : Nat) (e : RosterEntry) : (s.setStation b e).port = s.port := rfl
@[simp] theorem State.setStation_store (s : State) (b : Nat) (e : RosterEntry) : (s.setStation b e).store = s.store := rfl
@[simp] theorem State.setStation_pending (s : State) (b : Nat) (e : RosterEntry) : (s.setStation b e).pending = s.pending := rfl
@[simp] theorem State.setStation_link_state (s : State) (b : Nat) (e : RosterEntry) :
    (s.setStation b e).link.state = s.link.state := rfl
@[simp] theorem State.setStation_link_roster (s : State) (b : Nat) (e : RosterEntry) :
    (s.setStation b e).link.roster = setNth s.link.roster b (some e) := rfl
@[simp] theorem State.setStation_link_faults (s : State) (b : Nat) (e : RosterEntry) :
    (s.setStation b e).link.faults = s.link.faults := rfl
@[simp] theorem State.setStation_link_supplyLow (s : State) (b : Nat) (e : RosterEntry) :
    (s.setStation b e).link.supplyLow = s.link.supplyLow := rfl
@[simp] theorem State.setStation_link_overTemp (s : State) (b : Nat) (e : RosterEntry) :
    (s.setStation b e).link.overTemp = s.link.overTemp := rfl
@[simp] theorem State.setStation_link_blinder (s : State) (b : Nat) (e : RosterEntry) :
    (s.setStation b e).link.blinder = s.link.blinder := rfl

/-! ### setPermit -/

@[simp] theorem State.setPermit_time (s : State) (b : Bool) : (s.setPermit b).time = s.time := rfl
@[simp] theorem State.setPermit_tracker (s : State) (b : Bool) : (s.setPermit b).tracker = s.tracker := rfl
@[simp] theorem State.setPermit_capture (s : State) (b : Bool) : (s.setPermit b).capture = s.capture := rfl
@[simp] theorem State.setPermit_mem (s : State) (b : Bool) : (s.setPermit b).mem = s.mem := rfl
@[simp] theorem State.setPermit_voices (s : State) (b : Bool) : (s.setPermit b).voices = s.voices := rfl
@[simp] theorem State.setPermit_intake (s : State) (b : Bool) : (s.setPermit b).intake = s.intake := rfl
@[simp] theorem State.setPermit_sched (s : State) (b : Bool) : (s.setPermit b).sched = s.sched := rfl
@[simp] theorem State.setPermit_duplex (s : State) (b : Bool) : (s.setPermit b).duplex = s.duplex := rfl
@[simp] theorem State.setPermit_calib (s : State) (b : Bool) : (s.setPermit b).calib = s.calib := rfl
@[simp] theorem State.setPermit_port (s : State) (b : Bool) : (s.setPermit b).port = s.port := rfl
@[simp] theorem State.setPermit_store (s : State) (b : Bool) : (s.setPermit b).store = s.store := rfl
@[simp] theorem State.setPermit_pending (s : State) (b : Bool) : (s.setPermit b).pending = s.pending := rfl
@[simp] theorem State.setPermit_link_state (s : State) (b : Bool) : (s.setPermit b).link.state = s.link.state := rfl
@[simp] theorem State.setPermit_link_roster (s : State) (b : Bool) :
    (s.setPermit b).link.roster = s.link.roster := rfl
@[simp] theorem State.setPermit_link_faults (s : State) (b : Bool) :
    (s.setPermit b).link.faults = s.link.faults := rfl
@[simp] theorem State.setPermit_link_permit (s : State) (b : Bool) : (s.setPermit b).link.permit = b := rfl

/-! ### setReceived -/

@[simp] theorem State.setReceived_time (s : State) (l : List Byte) : (s.setReceived l).time = s.time := rfl
@[simp] theorem State.setReceived_link (s : State) (l : List Byte) : (s.setReceived l).link = s.link := rfl
@[simp] theorem State.setReceived_tracker (s : State) (l : List Byte) : (s.setReceived l).tracker = s.tracker := rfl
@[simp] theorem State.setReceived_capture (s : State) (l : List Byte) : (s.setReceived l).capture = s.capture := rfl
@[simp] theorem State.setReceived_mem (s : State) (l : List Byte) : (s.setReceived l).mem = s.mem := rfl
@[simp] theorem State.setReceived_voices (s : State) (l : List Byte) : (s.setReceived l).voices = s.voices := rfl
@[simp] theorem State.setReceived_intake (s : State) (l : List Byte) : (s.setReceived l).intake = s.intake := rfl
@[simp] theorem State.setReceived_sched (s : State) (l : List Byte) : (s.setReceived l).sched = s.sched := rfl
@[simp] theorem State.setReceived_duplex (s : State) (l : List Byte) : (s.setReceived l).duplex = s.duplex := rfl
@[simp] theorem State.setReceived_calib (s : State) (l : List Byte) : (s.setReceived l).calib = s.calib := rfl
@[simp] theorem State.setReceived_store (s : State) (l : List Byte) : (s.setReceived l).store = s.store := rfl
@[simp] theorem State.setReceived_pending (s : State) (l : List Byte) : (s.setReceived l).pending = s.pending := rfl
@[simp] theorem State.setReceived_port_received (s : State) (l : List Byte) :
    (s.setReceived l).port.received = l := rfl
@[simp] theorem State.setReceived_port_queue (s : State) (l : List Byte) :
    (s.setReceived l).port.queue = s.port.queue := rfl
@[simp] theorem State.setReceived_port_line (s : State) (l : List Byte) :
    (s.setReceived l).port.line = s.port.line := rfl
@[simp] theorem State.setReceived_port_counters (s : State) (l : List Byte) :
    (s.setReceived l).port.counters = s.port.counters := rfl
@[simp] theorem State.setReceived_port_timer (s : State) (l : List Byte) :
    (s.setReceived l).port.timer = s.port.timer := rfl
@[simp] theorem State.setReceived_port_profile (s : State) (l : List Byte) :
    (s.setReceived l).port.profile = s.port.profile := rfl
@[simp] theorem State.setReceived_port_options (s : State) (l : List Byte) :
    (s.setReceived l).port.options = s.port.options := rfl
@[simp] theorem State.setReceived_port_cause (s : State) (l : List Byte) :
    (s.setReceived l).port.cause = s.port.cause := rfl
@[simp] theorem State.setReceived_port_restart (s : State) (l : List Byte) :
    (s.setReceived l).port.restart = s.port.restart := rfl

/-! ### startTimer -/

@[simp] theorem State.startTimer_time (s : State) : s.startTimer.time = s.time := rfl
@[simp] theorem State.startTimer_link (s : State) : s.startTimer.link = s.link := rfl
@[simp] theorem State.startTimer_tracker (s : State) : s.startTimer.tracker = s.tracker := rfl
@[simp] theorem State.startTimer_capture (s : State) : s.startTimer.capture = s.capture := rfl
@[simp] theorem State.startTimer_mem (s : State) : s.startTimer.mem = s.mem := rfl
@[simp] theorem State.startTimer_voices (s : State) : s.startTimer.voices = s.voices := rfl
@[simp] theorem State.startTimer_intake (s : State) : s.startTimer.intake = s.intake := rfl
@[simp] theorem State.startTimer_sched (s : State) : s.startTimer.sched = s.sched := rfl
@[simp] theorem State.startTimer_duplex (s : State) : s.startTimer.duplex = s.duplex := rfl
@[simp] theorem State.startTimer_calib (s : State) : s.startTimer.calib = s.calib := rfl
@[simp] theorem State.startTimer_store (s : State) : s.startTimer.store = s.store := rfl
@[simp] theorem State.startTimer_pending (s : State) : s.startTimer.pending = s.pending := rfl
@[simp] theorem State.startTimer_port_received (s : State) : s.startTimer.port.received = s.port.received := rfl
@[simp] theorem State.startTimer_port_queue (s : State) : s.startTimer.port.queue = s.port.queue := rfl
@[simp] theorem State.startTimer_port_line (s : State) : s.startTimer.port.line = s.port.line := rfl
@[simp] theorem State.startTimer_port_counters (s : State) : s.startTimer.port.counters = s.port.counters := rfl
@[simp] theorem State.startTimer_port_timer (s : State) :
    s.startTimer.port.timer = some s.port.options.statusPeriod := rfl
@[simp] theorem State.startTimer_port_profile (s : State) : s.startTimer.port.profile = s.port.profile := rfl
@[simp] theorem State.startTimer_port_options (s : State) : s.startTimer.port.options = s.port.options := rfl
@[simp] theorem State.startTimer_port_cause (s : State) : s.startTimer.port.cause = s.port.cause := rfl
@[simp] theorem State.startTimer_port_restart (s : State) : s.startTimer.port.restart = s.port.restart := rfl

/-! ### bump -/

@[simp] theorem State.bump_time (s : State) (c : Counter) : (s.bump c).time = s.time := rfl
@[simp] theorem State.bump_link (s : State) (c : Counter) : (s.bump c).link = s.link := rfl
@[simp] theorem State.bump_tracker (s : State) (c : Counter) : (s.bump c).tracker = s.tracker := rfl
@[simp] theorem State.bump_capture (s : State) (c : Counter) : (s.bump c).capture = s.capture := rfl
@[simp] theorem State.bump_mem (s : State) (c : Counter) : (s.bump c).mem = s.mem := rfl
@[simp] theorem State.bump_voices (s : State) (c : Counter) : (s.bump c).voices = s.voices := rfl
@[simp] theorem State.bump_intake (s : State) (c : Counter) : (s.bump c).intake = s.intake := rfl
@[simp] theorem State.bump_sched (s : State) (c : Counter) : (s.bump c).sched = s.sched := rfl
@[simp] theorem State.bump_duplex (s : State) (c : Counter) : (s.bump c).duplex = s.duplex := rfl
@[simp] theorem State.bump_calib (s : State) (c : Counter) : (s.bump c).calib = s.calib := rfl
@[simp] theorem State.bump_store (s : State) (c : Counter) : (s.bump c).store = s.store := rfl
@[simp] theorem State.bump_pending (s : State) (c : Counter) : (s.bump c).pending = s.pending := rfl
@[simp] theorem State.bump_port_received (s : State) (c : Counter) : (s.bump c).port.received = s.port.received := rfl
@[simp] theorem State.bump_port_queue (s : State) (c : Counter) : (s.bump c).port.queue = s.port.queue := rfl
@[simp] theorem State.bump_port_line (s : State) (c : Counter) : (s.bump c).port.line = s.port.line := rfl
@[simp] theorem State.bump_port_counters (s : State) (c : Counter) :
    (s.bump c).port.counters = s.port.counters.setIfInBounds c.index (countUp (s.count c)) := rfl
@[simp] theorem State.bump_port_timer (s : State) (c : Counter) : (s.bump c).port.timer = s.port.timer := rfl
@[simp] theorem State.bump_port_profile (s : State) (c : Counter) : (s.bump c).port.profile = s.port.profile := rfl
@[simp] theorem State.bump_port_options (s : State) (c : Counter) : (s.bump c).port.options = s.port.options := rfl
@[simp] theorem State.bump_port_cause (s : State) (c : Counter) : (s.bump c).port.cause = s.port.cause := rfl
@[simp] theorem State.bump_port_restart (s : State) (c : Counter) : (s.bump c).port.restart = s.port.restart := rfl

end Sys2Proof.Machine
end

