-- ==== Sys2Proof/Laws/Tables.lean ====
section
/-! SUPPORT. Reading a table after an update of it: numbered entries, the accessors of the blocks, Table Memory and the
blocks of the store. An accessor reads one part of the state: `_congr` says which. -/

namespace Sys2Proof.Machine

/-! ### Numbered entries -/

variable {α : Type} {n : Nat}

theorem nth_zero (v : Vector α n) (d : α) : nth v 0 d = d := by simp [nth]

theorem nth_setNth_self (v : Vector α n) {k : Nat} (a d : α) (low : 1 ≤ k) (high : k ≤ n) :
    nth (setNth v k a) k d = a := by
  have h0 : k ≠ 0 := by omega
  have h1 : k - 1 < n := by omega
  simp [nth, setNth, h0, h1]

theorem nth_setNth_ne (v : Vector α n) {j k : Nat} (a d : α) (h : j ≠ k) : nth (setNth v k a) j d = nth v j d := by
  by_cases hj : j = 0
  · subst hj; simp [nth]
  · by_cases hk : k = 0
    · subst hk; simp [nth, setNth]
    · have : k - 1 ≠ j - 1 := by omega
      simp [nth, setNth, hj, hk, this]

theorem nth_above (v : Vector α n) {k : Nat} (d : α) (h : n < k) : nth v k d = d := by
  have h0 : k ≠ 0 := by omega
  have h1 : ¬ k - 1 < n := by omega
  simp [nth, h0, h1]

theorem setNth_above (v : Vector α n) {k : Nat} (a : α) (h : n < k) : setNth v k a = v := by
  have h0 : k ≠ 0 := by omega
  have h1 : n ≤ k - 1 := by omega
  simp only [setNth, h0, if_false]
  ext i hi
  have hne : k - 1 ≠ i := by omega
  simp [hne]

theorem nth_replicate (a : α) (k : Nat) : nth (Vector.replicate n a) k a = a := by
  unfold nth
  split
  · rfl
  · simp only [Vector.getElem?_replicate]; split <;> rfl

theorem nth_eq_getElem (v : Vector α n) {k : Nat} (d : α) (low : 1 ≤ k) (high : k ≤ n) :
    nth v k d = v[k - 1]'(by omega) := by
  have h0 : k ≠ 0 := by omega
  simp [nth, h0, Vector.getElem?_eq_getElem (show k - 1 < n by omega)]

theorem nth_map {β : Type} (v : Vector α n) (f : α → β) (k : Nat) (d : α) : nth (v.map f) k (f d) = f (nth v k d) := by
  unfold nth
  split
  · rfl
  · simp only [Vector.getElem?_map]; cases v[k - 1]? <;> rfl

/-! ### The accessors after their own update -/

theorem State.trackerOf_setTracker_self (s : State) {k : Nat} (r : TrackerRecord) (low : 1 ≤ k) (high : k ≤ 97) :
    (s.setTracker k r).trackerOf k = r := nth_setNth_self _ _ _ low high

theorem State.trackerOf_setTracker_ne (s : State) {j k : Nat} (r : TrackerRecord) (h : j ≠ k) :
    (s.setTracker k r).trackerOf j = s.trackerOf j := nth_setNth_ne _ _ _ h

theorem State.pedalOf_setPedal_self (s : State) {q : Nat} (r : PedalCapture) (low : 1 ≤ q) (high : q ≤ 3) :
    (s.setPedal q r).pedalOf q = r := nth_setNth_self _ _ _ low high

theorem State.pedalOf_setPedal_ne (s : State) {p q : Nat} (r : PedalCapture) (h : p ≠ q) :
    (s.setPedal q r).pedalOf p = s.pedalOf p := nth_setNth_ne _ _ _ h

theorem State.driveOf_setDrive_self (s : State) {k : Nat} (d : KeyDrive) (low : 1 ≤ k) (high : k ≤ 97) :
    (s.setDrive k d).driveOf k = d := nth_setNth_self _ _ _ low high

theorem State.driveOf_setDrive_ne (s : State) {j k : Nat} (d : KeyDrive) (h : j ≠ k) :
    (s.setDrive k d).driveOf j = s.driveOf j := nth_setNth_ne _ _ _ h

theorem State.pedalDriveOf_setPedalDrive_self (s : State) {q : Nat} (d : PedalDrive) (low : 1 ≤ q) (high : q ≤ 3) :
    (s.setPedalDrive q d).pedalDriveOf q = d := nth_setNth_self _ _ _ low high

theorem State.pedalDriveOf_setPedalDrive_ne (s : State) {p q : Nat} (d : PedalDrive) (h : p ≠ q) :
    (s.setPedalDrive q d).pedalDriveOf p = s.pedalDriveOf p := nth_setNth_ne _ _ _ h

theorem State.windowOf_setWindow_self (s : State) {k : Nat} (w : Option Window) (low : 1 ≤ k) (high : k ≤ 97) :
    (s.setWindow k w).windowOf k = w := nth_setNth_self _ _ _ low high

theorem State.windowOf_setWindow_ne (s : State) {j k : Nat} (w : Option Window) (h : j ≠ k) :
    (s.setWindow k w).windowOf j = s.windowOf j := nth_setNth_ne _ _ _ h

theorem State.yieldOf_setYield_self (s : State) {k : Nat} (y : YieldRecord) (low : 1 ≤ k) (high : k ≤ 97) :
    (s.setYield k y).yieldOf k = y := nth_setNth_self _ _ _ low high

theorem State.yieldOf_setYield_ne (s : State) {j k : Nat} (y : YieldRecord) (h : j ≠ k) :
    (s.setYield k y).yieldOf j = s.yieldOf j := nth_setNth_ne _ _ _ h

theorem State.faulted_setFault_self (s : State) {k : Nat} (b : Bool) (low : 1 ≤ k) (high : k ≤ 97) :
    (s.setFault k b).faulted k = b := nth_setNth_self _ _ _ low high

theorem State.faulted_setFault_ne (s : State) {j k : Nat} (b : Bool) (h : j ≠ k) :
    (s.setFault k b).faulted j = s.faulted j := nth_setNth_ne _ _ _ h

theorem State.supplyIsLow_setSupplyLow_self (s : State) {b : Nat} (v : Bool) (low : 1 ≤ b) (high : b ≤ 8) :
    (s.setSupplyLow b v).supplyIsLow b = v := nth_setNth_self _ _ _ low high

theorem State.supplyIsLow_setSupplyLow_ne (s : State) {a b : Nat} (v : Bool) (h : a ≠ b) :
    (s.setSupplyLow b v).supplyIsLow a = s.supplyIsLow a := nth_setNth_ne _ _ _ h

theorem State.isHot_setOverTemp_self (s : State) {b : Nat} (v : Bool) (low : 1 ≤ b) (high : b ≤ 8) :
    (s.setOverTemp b v).isHot b = v := nth_setNth_self _ _ _ low high

theorem State.isHot_setOverTemp_ne (s : State) {a b : Nat} (v : Bool) (h : a ≠ b) :
    (s.setOverTemp b v).isHot a = s.isHot a := nth_setNth_ne _ _ _ h

theorem State.blinderOf_setBlinder_self (s : State) {k : Nat} (b : Option Nat) (low : 1 ≤ k) (high : k ≤ 97) :
    (s.setBlinder k b).blinderOf k = b := nth_setNth_self _ _ _ low high

theorem State.blinderOf_setBlinder_ne (s : State) {j k : Nat} (b : Option Nat) (h : j ≠ k) :
    (s.setBlinder k b).blinderOf j = s.blinderOf j := nth_setNth_ne _ _ _ h

theorem State.stationOf_setStation_self (s : State) {b : Nat} (e : RosterEntry) (low : 1 ≤ b) (high : b ≤ 8) :
    (s.setStation b e).stationOf b = some e := nth_setNth_self _ _ _ low high

theorem State.stationOf_setStation_ne (s : State) {a b : Nat} (e : RosterEntry) (h : a ≠ b) :
    (s.setStation b e).stationOf a = s.stationOf a := nth_setNth_ne _ _ _ h

theorem State.storeBlock_setStoreBlock_self (s : State) {b : Nat} (x : StoreBlock) (h : b ≤ 36) :
    (s.setStoreBlock b x).storeBlock b = x := by
  simp [State.storeBlock, show b < 37 by omega]

theorem State.storeBlock_setStoreBlock_ne (s : State) {a b : Nat} (x : StoreBlock) (h : a ≠ b) :
    (s.setStoreBlock b x).storeBlock a = s.storeBlock a := by
  simp [State.storeBlock, Ne.symm h]

/-! ### What each accessor reads -/

variable {s t : State}

theorem State.trackerOf_congr (h : t.tracker.keys = s.tracker.keys) (k : Nat) : t.trackerOf k = s.trackerOf k := by
  simp only [State.trackerOf, h]

theorem State.pedalOf_congr (h : t.tracker.pedals = s.tracker.pedals) (q : Nat) : t.pedalOf q = s.pedalOf q := by
  simp only [State.pedalOf, h]

theorem State.driveOf_congr (h : t.sched.keys = s.sched.keys) (k : Nat) : t.driveOf k = s.driveOf k := by
  simp only [State.driveOf, h]

theorem State.pedalDriveOf_congr (h : t.sched.pedals = s.sched.pedals) (q : Nat) : t.pedalDriveOf q = s.pedalDriveOf q := by
  simp only [State.pedalDriveOf, h]

theorem State.windowOf_congr (h : t.duplex.windows = s.duplex.windows) (k : Nat) : t.windowOf k = s.windowOf k := by
  simp only [State.windowOf, h]

theorem State.yieldOf_congr (h : t.duplex.yields = s.duplex.yields) (k : Nat) : t.yieldOf k = s.yieldOf k := by
  simp only [State.yieldOf, h]

theorem State.waitingYield_congr (h : t.duplex.yields = s.duplex.yields) (k : Nat) :
    t.waitingYield k = s.waitingYield k := by
  simp only [State.waitingYield, State.yieldOf_congr h]

theorem State.stationOf_congr (h : t.link.roster = s.link.roster) (b : Nat) : t.stationOf b = s.stationOf b := by
  simp only [State.stationOf, h]

theorem State.driverOf_congr (h : t.link.roster = s.link.roster) (k : Nat) : t.driverOf k = s.driverOf k := by
  simp only [State.driverOf, State.findStation, State.stationOf_congr h]

theorem State.sensorOf_congr (h : t.link.roster = s.link.roster) (k : Nat) : t.sensorOf k = s.sensorOf k := by
  simp only [State.sensorOf, State.findStation, State.stationOf_congr h]

theorem State.faulted_congr (h : t.link.faults = s.link.faults) (k : Nat) : t.faulted k = s.faulted k := by
  simp only [State.faulted, h]

theorem State.armed_congr (h : t.sched.entries = s.sched.entries) (k : Nat) : t.armed k = s.armed k := by
  simp only [State.armed, h]

theorem State.now_congr (h : t.time = s.time) : t.now = s.now := by
  simp only [State.now, State.startTick, State.takeCycle, State.takeCycleOf, h]

theorem State.takeCycle_congr (h : t.time = s.time) : t.takeCycle = s.takeCycle := by
  simp only [State.takeCycle, State.takeCycleOf, h]

theorem State.earliest_congr (h : t.time = s.time) : t.earliest = s.earliest := by
  simp only [State.earliest, State.takeCycle_congr h]

theorem State.count_congr (h : t.port.counters = s.port.counters) (c : Counter) : t.count c = s.count c := by
  simp only [State.count, h]

theorem State.keyCount_congr (h : t.port.profile = s.port.profile) : t.keyCount = s.keyCount := by
  simp only [State.keyCount, h]

theorem State.boundary_congr (h : t.port.profile = s.port.profile) : t.boundary = s.boundary := by
  simp only [State.boundary, h]

theorem State.storeBlock_congr (h : t.store.blocks = s.store.blocks) (b : Nat) : t.storeBlock b = s.storeBlock b := by
  simp only [State.storeBlock, h]

/-! ### Table Memory -/

theorem TableMemory.descriptor_setDescriptor_self (m : TableMemory) {set voice : Nat} (d : VoiceDescriptor) (hs : set ≤ 3)
    (hv : voice ≤ 127) : (m.setDescriptor set voice d).descriptor set voice = some d := by
  have h1 : set < 4 := by omega
  have h2 : voice < 128 := by omega
  simp [TableMemory.setDescriptor, TableMemory.descriptor, h1, h2]

theorem TableMemory.descriptor_setDescriptor_ne (m : TableMemory) {set voice i j : Nat} (d : VoiceDescriptor)
    (h : (i, j) ≠ (set, voice)) : (m.setDescriptor set voice d).descriptor i j = m.descriptor i j := by
  unfold TableMemory.setDescriptor
  split
  · rfl
  · next v hv =>
    have h1 : set < 4 := by
      by_contra hc
      simp [Vector.getElem?_eq_none (show 4 ≤ set by omega)] at hv
    simp only [TableMemory.descriptor, Vector.getElem?_setIfInBounds]
    by_cases hi : set = i
    · subst hi
      have hj : voice ≠ j := fun he => h (by rw [he])
      rw [if_pos rfl, if_pos h1, hv]
      simp [hj]
    · rw [if_neg hi]

@[simp] theorem TableMemory.setDescriptor_pages (m : TableMemory) (set voice : Nat) (d : VoiceDescriptor) :
    (m.setDescriptor set voice d).pages = m.pages := by unfold TableMemory.setDescriptor; split <;> rfl

@[simp] theorem TableMemory.setDescriptor_sense (m : TableMemory) (set voice : Nat) (d : VoiceDescriptor) :
    (m.setDescriptor set voice d).sense = m.sense := by unfold TableMemory.setDescriptor; split <;> rfl

theorem TableMemory.page_setPage_self (m : TableMemory) {slot : Nat} (p : Option Page) (h : slot ≤ 511) :
    (m.setPage slot p).page slot = p := by
  have h1 : slot / 16 < 32 := by omega
  have h2 : slot % 16 < 16 := by omega
  simp [TableMemory.setPage, TableMemory.page, h1, h2]

theorem TableMemory.page_setPage_ne (m : TableMemory) {slot i : Nat} (p : Option Page) (h : i ≠ slot) :
    (m.setPage slot p).page i = m.page i := by
  unfold TableMemory.setPage
  split
  · rfl
  · next b hb =>
    have h1 : slot / 16 < 32 := by
      by_contra hc
      simp [Vector.getElem?_eq_none (show 32 ≤ slot / 16 by omega)] at hb
    simp only [TableMemory.page, Vector.getElem?_setIfInBounds]
    by_cases hi : slot / 16 = i / 16
    · have hj : slot % 16 ≠ i % 16 := by omega
      rw [if_pos hi, if_pos h1, ← hi, hb]
      simp [hj]
    · rw [if_neg hi]

@[simp] theorem TableMemory.setPage_sets (m : TableMemory) (slot : Nat) (p : Option Page) :
    (m.setPage slot p).sets = m.sets := by unfold TableMemory.setPage; split <;> rfl

@[simp] theorem TableMemory.setPage_sense (m : TableMemory) (slot : Nat) (p : Option Page) :
    (m.setPage slot p).sense = m.sense := by unfold TableMemory.setPage; split <;> rfl

end Sys2Proof.Machine
end

