-- ==== Sys2Proof/Laws/Transmit.lean ====
section
/-! SUPPORT. The counters (R177) and the transmit side (R171 to R173): what counting, handing a frame and offering one can
do. Whatever is offered, no block but the Score Port Controller changes. -/

namespace Sys2Proof.Machine

/-! ### Counters -/

theorem countUp_le (n : Nat) : n ≤ 65535 → countUp n ≤ 65535 := by unfold countUp; split <;> omega

theorem le_countUp (n : Nat) : n ≤ countUp n := by unfold countUp; split <;> omega

theorem countUp_below {n : Nat} (h : n < 65535) : countUp n = n + 1 := by simp [countUp, h]

theorem Counter.index_lt (c : Counter) : c.index < 22 := by cases c <;> decide

theorem Counter.index_inj {a b : Counter} (h : a.index = b.index) : a = b := by
  cases a <;> cases b <;> first | rfl | exact absurd h (by decide)

theorem State.count_bump_self (s : State) (c : Counter) : (s.bump c).count c = countUp (s.count c) := by
  simp [State.count, Counter.index_lt c]

theorem State.count_bump_ne (s : State) {c d : Counter} (h : d ≠ c) : (s.bump c).count d = s.count d := by
  have : c.index ≠ d.index := fun he => h (Counter.index_inj he).symm
  simp [State.count, this]

/-- Counting, everything else left as it was. -/
theorem State.bump_eq (s : State) (c : Counter) :
    s.bump c = { s with port := { s.port with counters := (s.bump c).port.counters } } := rfl

theorem State.bumpIf_cases (s : State) (b : Bool) (c : Counter) :
    (b = true ∧ s.bumpIf b c = s.bump c) ∨ (b = false ∧ s.bumpIf b c = s) := by cases b <;> simp [State.bumpIf]

@[simp] theorem State.bumpTimes_queue (s : State) (c : Counter) (n : Nat) :
    (s.bumpTimes c n).port.queue = s.port.queue := by
  induction n generalizing s with
  | zero => rfl
  | succ n ih => exact ih (s.bump c)

theorem State.count_bumpTimes_ne (s : State) {c d : Counter} (h : d ≠ c) (n : Nat) :
    (s.bumpTimes c n).count d = s.count d := by
  induction n generalizing s with
  | zero => rfl
  | succ n ih => exact (ih (s.bump c)).trans (s.count_bump_ne h)

theorem State.count_bumpTimes_self (s : State) (c : Counter) (n : Nat) (h : s.count c + n ≤ 65535) :
    (s.bumpTimes c n).count c = s.count c + n := by
  induction n generalizing s with
  | zero => rfl
  | succ n ih =>
    have hb : (s.bump c).count c = s.count c + 1 := by rw [State.count_bump_self, countUp_below (by omega)]
    have := ih (s.bump c) (by omega)
    simp only [State.bumpTimes, this, hb]; omega

/-! ### Beginning to send (R171) -/

/-- Either nothing, or the line takes the head of the queue with the intake space of the moment. -/
theorem State.beginSending_cases (s : State) :
    s.beginSending = s ∨
      (s.port.line = none ∧ s.port.queue ≠ [] ∧ s.port.restart ≠ .due ∧
        s.beginSending = { s with port := { s.port with line := some s.intakeSpace } }) := by
  unfold State.beginSending
  split
  · next hl hq =>
    by_cases hr : s.port.restart = .due
    · simp [hr]
    · right; simp [hl, hq, hr]
  · exact .inl rfl

@[simp] theorem State.beginSending_queue (s : State) : s.beginSending.port.queue = s.port.queue := by
  rcases s.beginSending_cases with h | ⟨-, -, -, h⟩ <;> rw [h]

@[simp] theorem State.beginSending_counters (s : State) : s.beginSending.port.counters = s.port.counters := by
  rcases s.beginSending_cases with h | ⟨-, -, -, h⟩ <;> rw [h]

@[simp] theorem State.beginSending_options (s : State) : s.beginSending.port.options = s.port.options := by
  rcases s.beginSending_cases with h | ⟨-, -, -, h⟩ <;> rw [h]

@[simp] theorem State.beginSending_profile (s : State) : s.beginSending.port.profile = s.port.profile := by
  rcases s.beginSending_cases with h | ⟨-, -, -, h⟩ <;> rw [h]

@[simp] theorem State.beginSending_restart (s : State) : s.beginSending.port.restart = s.port.restart := by
  rcases s.beginSending_cases with h | ⟨-, -, -, h⟩ <;> rw [h]

@[simp] theorem State.beginSending_received (s : State) : s.beginSending.port.received = s.port.received := by
  rcases s.beginSending_cases with h | ⟨-, -, -, h⟩ <;> rw [h]

@[simp] theorem State.beginSending_timer (s : State) : s.beginSending.port.timer = s.port.timer := by
  rcases s.beginSending_cases with h | ⟨-, -, -, h⟩ <;> rw [h]

/-- While a frame is being sent nothing begins. -/
theorem State.beginSending_busy (s : State) {n : Nat} (h : s.port.line = some n) : s.beginSending = s := by
  rcases s.beginSending_cases with h' | ⟨hl, -⟩
  · exact h'
  · rw [h] at hl; cases hl

/-! ### Handing and offering (R171, R172) -/

@[simp] theorem State.hand_queue (s : State) (f : Upstream) : (s.hand f).port.queue = s.port.queue ++ [f] := by
  simp [State.hand]

@[simp] theorem State.hand_counters (s : State) (f : Upstream) : (s.hand f).port.counters = s.port.counters := by
  simp [State.hand]

/-- A frame handed stands behind the frames queued, and is being sent if the line was free. -/
theorem State.hand_eq (s : State) (f : Upstream) :
    s.hand f = { s with port := { s.port with
      queue := s.port.queue ++ [f],
      line := if s.port.line = none ∧ s.port.restart ≠ .due then some s.intakeSpace else s.port.line } } := by
  unfold State.hand State.beginSending
  cases hl : s.port.line with
  | some n => simp [hl]
  | none => cases s.port.queue <;> by_cases hr : s.port.restart = .due <;> simp [hl, hr, State.intakeSpace]

/-- A frame offered is taken whole below 64 frames, and is otherwise discarded and counted. -/
theorem State.offer_cases (s : State) (f : Upstream) :
    (s.queued < 64 ∧ s.offer f = s.hand f) ∨ (64 ≤ s.queued ∧ s.offer f = s.bump .transmitDrops) := by
  unfold State.offer; split
  · exact .inl ⟨by assumption, rfl⟩
  · exact .inr ⟨by omega, rfl⟩

@[simp] theorem State.offer_options (s : State) (f : Upstream) : (s.offer f).port.options = s.port.options := by
  rcases s.offer_cases f with ⟨-, h⟩ | ⟨-, h⟩ <;> rw [h] <;> simp [State.hand]

@[simp] theorem State.offer_profile (s : State) (f : Upstream) : (s.offer f).port.profile = s.port.profile := by
  rcases s.offer_cases f with ⟨-, h⟩ | ⟨-, h⟩ <;> rw [h] <;> simp [State.hand]

@[simp] theorem State.offer_restart (s : State) (f : Upstream) : (s.offer f).port.restart = s.port.restart := by
  rcases s.offer_cases f with ⟨-, h⟩ | ⟨-, h⟩ <;> rw [h] <;> simp [State.hand]

@[simp] theorem State.offer_received (s : State) (f : Upstream) : (s.offer f).port.received = s.port.received := by
  rcases s.offer_cases f with ⟨-, h⟩ | ⟨-, h⟩ <;> rw [h] <;> simp [State.hand]

@[simp] theorem State.offer_timer (s : State) (f : Upstream) : (s.offer f).port.timer = s.port.timer := by
  rcases s.offer_cases f with ⟨-, h⟩ | ⟨-, h⟩ <;> rw [h] <;> simp [State.hand]

/-- An offer is a change of the Score Port Controller alone. -/
theorem State.offer_eq (s : State) (f : Upstream) : s.offer f = { s with port := (s.offer f).port } := by
  rcases s.offer_cases f with ⟨-, h⟩ | ⟨-, h⟩ <;> rw [h]
  · unfold State.hand
    rcases State.beginSending_cases { s with port := { s.port with queue := s.port.queue ++ [f] } } with h' | ⟨-, -, -, h'⟩ <;>
      rw [h']
  · rfl

/-- What an offer makes of the Score Port Controller depends on it and on the intake alone. -/
theorem State.offer_port_congr {s t : State} (f : Upstream) (hp : t.port = s.port) (hi : t.intake = s.intake) :
    (t.offer f).port = (s.offer f).port := by
  unfold State.offer State.hand State.beginSending State.queued State.bump State.count State.intakeSpace
  simp only [hp, hi]
  split
  · split <;> (try split) <;> rfl
  · rfl

theorem State.reply_eq (s : State) (tag : Byte) (code : Nat) (r : Result) (d : ReplyData) :
    s.reply tag code r d = { s with port := (s.reply tag code r d).port } := s.offer_eq _

theorem State.report_eq (s : State) (r : Report) : s.report r = { s with port := (s.report r).port } := s.offer_eq _

theorem State.reply_port_congr {s t : State} (tag : Byte) (code : Nat) (r : Result) (d : ReplyData)
    (hp : t.port = s.port) (hi : t.intake = s.intake) : (t.reply tag code r d).port = (s.reply tag code r d).port :=
  State.offer_port_congr _ hp hi

theorem State.report_port_congr {s t : State} (r : Report) (hp : t.port = s.port) (hi : t.intake = s.intake)
    (hc : t.time.linkCycle = s.time.linkCycle) : (t.report r).port = (s.report r).port := by
  unfold State.report; rw [hc]; exact State.offer_port_congr _ hp hi

/-! ### Refusals -/

/-- A request that a restore in flight refuses is answered BUSY, or its owner judges it (R185). -/
theorem State.unlessRestoring_cases (s : State) (tag : Byte) (code : Nat) (owner : State → State) :
    (s.restoring = true ∧ s.unlessRestoring tag code owner = s.reply tag code .busy .nothing) ∨
      (s.restoring = false ∧ s.unlessRestoring tag code owner = owner s) := by
  unfold State.unlessRestoring; cases s.restoring <;> simp

/-- The same for a request that a save refuses too. -/
theorem State.unlessStoring_cases (s : State) (tag : Byte) (code : Nat) (owner : State → State) :
    (s.storeBusy = true ∧ s.unlessStoring tag code owner = s.reply tag code .busy .nothing) ∨
      (s.storeBusy = false ∧ s.unlessStoring tag code owner = owner s) := by
  unfold State.unlessStoring; cases s.storeBusy <;> simp

/-- A judged request is refused with RANGE and its place, or done. -/
theorem State.judged_cases (s : State) (tag : Byte) (code : Nat) (failure : Option Nat) (done : State → State) :
    (∃ place, failure = some place ∧ s.judged tag code failure done = s.reply tag code .range (.field place)) ∨
      (failure = none ∧ s.judged tag code failure done = done s) := by
  cases failure with
  | none => exact .inr ⟨rfl, rfl⟩
  | some p => exact .inl ⟨p, rfl, rfl⟩

/-- After a Restart's answer nothing received has an effect (R179). -/
theorem State.heard_cases (s : State) (owner : State → State) :
    (s.port.restart = .none ∧ s.heard owner = owner s) ∨ (s.port.restart ≠ .none ∧ s.heard owner = s) := by
  unfold State.heard; split
  · exact .inl ⟨by assumption, rfl⟩
  · exact .inr ⟨by assumption, rfl⟩

/-! ### The receive side (R169) -/

/-- A frame complete behind a delimiter: its judgement, and where the hunt goes on. -/
theorem completeFrame_some {body rest : List Byte} {f : Frame} (h : completeFrame body = some (f, rest)) :
    f = judgeFrame body ∧ 6 + fieldAt body 3 1 ≤ body.length ∧ (f = .bad → rest = body) ∧
      (f ≠ .bad → rest = body.drop (6 + fieldAt body 3 1)) := by
  unfold completeFrame frameSize at h
  split at h
  · cases h
  · next size hs =>
    split at hs
    · cases hs
    · cases hs
      split at h
      · cases h
      · cases h
        exact ⟨rfl, by omega, fun hb => by simp [hb], fun hb => by simp [hb]⟩

/-- One byte received: the hunt goes on, a frame stays incomplete, or a frame's receipt is complete. -/
theorem State.receiveByte_cases (s : State) (b : Byte) :
    (∃ kept, hunt (s.port.received ++ [b]) = (none, kept) ∧ s.receiveByte b = s.setReceived kept) ∨
    (∃ body kept, hunt (s.port.received ++ [b]) = (some body, kept) ∧ completeFrame body = none ∧
      s.receiveByte b = s.setReceived (126 :: 165 :: body)) ∨
    ∃ body kept f rest, hunt (s.port.received ++ [b]) = (some body, kept) ∧ completeFrame body = some (f, rest) ∧
      s.receiveByte b = State.takeFrames (s.port.received.length + 1) (s.handOn f rest) := by
  have step : s.receiveByte b =
      match hunt (s.port.received ++ [b]) with
      | (none, kept) => s.setReceived kept
      | (some body, _) =>
        match completeFrame body with
        | none => s.setReceived (126 :: 165 :: body)
        | some (f, rest) => State.takeFrames (s.port.received.length + 1) (s.handOn f rest) := rfl
  rw [step]
  cases hh : hunt (s.port.received ++ [b]) with
  | mk found kept =>
    cases found with
    | none => exact .inl ⟨kept, rfl, rfl⟩
    | some body =>
      cases hf : completeFrame body with
      | none => exact .inr (.inl ⟨body, kept, rfl, hf, by simp [hf]⟩)
      | some x => exact .inr (.inr ⟨body, kept, x.1, x.2, rfl, hf, by simp [hf]⟩)

end Sys2Proof.Machine
end

