-- ==== Sys2Proof/Laws/Drive.lean ====
section
/-! SUPPORT. The shared operations of the Drive Schedule (R125, R126, R128 to R131, R135, R138, R141) and of the jobs' ends
(R164 to R166): what each leaves in the schedule, in the key it names and in every other key. -/

namespace Sys2Proof.Machine

variable {j k : Nat}

/-! ### Deciding a key's state afresh (R126) -/

theorem State.driveOf_redecide_self (s : State) (low : 1 ≤ k) (high : k ≤ 97) :
    (s.redecide k).driveOf k = { s.driveOf k with state := s.decideDrive k } :=
  s.driveOf_setDrive_self _ low high

theorem State.driveOf_redecide_ne (s : State) (h : j ≠ k) : (s.redecide k).driveOf j = s.driveOf j :=
  s.driveOf_setDrive_ne _ h

@[simp] theorem State.redecide_entries (s : State) (k : Nat) : (s.redecide k).sched.entries = s.sched.entries := rfl

/-- The decision reads the fault set, the yield record, the key's own record, its entries and now. -/
theorem State.decideDrive_congr {s t : State} (hf : t.faulted k = s.faulted k) (hy : t.waitingYield k = s.waitingYield k)
    (hd : (t.driveOf k).driven = (s.driveOf k).driven) (hr : (t.driveOf k).releaseEnd = (s.driveOf k).releaseEnd)
    (ha : t.armed k = s.armed k) (hn : t.now = s.now) : t.decideDrive k = s.decideDrive k := by
  simp only [State.decideDrive, hf, hy, hd, hr, ha, hn]

theorem State.decideDrive_faulted {s : State} (h : s.faulted k = true) : s.decideDrive k = .faulted := by
  simp [State.decideDrive, h]

theorem State.decideDrive_yielded {s : State} (hf : s.faulted k = false) (h : s.waitingYield k = true) :
    s.decideDrive k = .yielded := by
  simp [State.decideDrive, hf, h]

/-! ### Notes (R125) -/

theorem length_appendNote (notes : List Note) (n : Note) (h : notes.length ≤ 4) : (appendNote notes n).length ≤ 4 := by
  unfold appendNote; split <;> simp <;> omega

theorem appendNote_nil (n : Note) : appendNote [] n = [n] := rfl

theorem State.driveOf_mapNotes_self (s : State) (f : Note → Note) (low : 1 ≤ k) (high : k ≤ 97) :
    (s.mapNotes k f).driveOf k = { s.driveOf k with notes := (s.driveOf k).notes.map f } :=
  s.driveOf_setDrive_self _ low high

theorem State.driveOf_mapNotes_ne (s : State) (f : Note → Note) (h : j ≠ k) : (s.mapNotes k f).driveOf j = s.driveOf j :=
  s.driveOf_setDrive_ne _ h

@[simp] theorem State.mapNotes_entries (s : State) (k : Nat) (f : Note → Note) :
    (s.mapNotes k f).sched.entries = s.sched.entries := rfl

@[simp] theorem State.modNote_entries (s : State) (k id : Nat) (f : Note → Note) :
    (s.modNote k id f).sched.entries = s.sched.entries := rfl

theorem State.driveOf_modNote_ne (s : State) (id : Nat) (f : Note → Note) (h : j ≠ k) :
    (s.modNote k id f).driveOf j = s.driveOf j := s.driveOf_mapNotes_ne _ h

/-! ### Moving entries (R124, R135, R136) -/

@[simp] theorem State.noteLater_entries (s : State) (d : Nat) (e : Entry) :
    (s.noteLater d e).sched.entries = s.sched.entries := by
  unfold State.noteLater
  split
  · rfl
  · split <;> rfl

/-- What a move leaves: the moved entries reinserted in their order, the others where they stood. -/
theorem State.moveEntries_entries (s : State) (by' : Entry → Nat) :
    (s.moveEntries by').sched.entries =
      insertEntries ((s.sched.entries.filter (fun e => by' e != 0)).map (fun e => e.later (by' e)))
        (s.sched.entries.filter (fun e => by' e == 0)) := by
  unfold State.moveEntries
  have fold : ∀ (l : List Entry) (u : State),
      (l.foldl (fun s e => s.noteLater (by' e) e) u).sched.entries = u.sched.entries := by
    intro l
    induction l with
    | nil => intro u; rfl
    | cons e l ih => intro u; simp only [List.foldl_cons]; rw [ih]; simp
  rw [fold]; rfl

/-- A move neither adds nor removes an entry. -/
theorem State.length_moveEntries (s : State) (by' : Entry → Nat) :
    (s.moveEntries by').sched.entries.length = s.sched.entries.length := by
  rw [State.moveEntries_entries, length_insertEntries, List.length_map]
  have h := List.length_eq_length_filter_add (l := s.sched.entries) (fun e => by' e != 0)
  have e : (s.sched.entries.filter (fun e => by' e == 0)) = s.sched.entries.filter (fun e => !(by' e != 0)) := by
    congr 1; funext x; simp [bne]
  rw [e]; omega

/-- A move keeps the order of R124. -/
theorem State.ordered_moveEntries (s : State) (by' : Entry → Nat)
    (h : s.sched.entries.Pairwise (fun a b => b.before a = false)) :
    (s.moveEntries by').sched.entries.Pairwise (fun a b => b.before a = false) := by
  rw [State.moveEntries_entries]
  exact ordered_insertEntries (h.sublist List.filter_sublist)

/-! ### Immediate Offs (R138) -/

/-- An immediate Off of a driven key: driven no, the Off asked, the ends formed from E; nothing for a key not driven. -/
theorem State.askOff_cases (s : State) (k : Nat) :
    ((s.driveOf k).driven = false ∧ s.askOff k = s) ∨
      ((s.driveOf k).driven = true ∧ s.askOff k = s.setDrive k { s.driveOf k with
        driven := false, immediateOff := true,
        releaseEnd := some (laterOf (s.driveOf k).releaseEnd (s.earliest + (s.driveOf k).lastRearm.getD 0)),
        rearmBase := some (laterOf (s.driveOf k).attackEnd s.earliest) }) := by
  cases h : (s.driveOf k).driven <;> simp [State.askOff, h]

@[simp] theorem State.askOff_entries (s : State) (k : Nat) : (s.askOff k).sched.entries = s.sched.entries := by
  rcases s.askOff_cases k with ⟨-, h⟩ | ⟨-, h⟩ <;> rw [h]; rfl

theorem State.driveOf_askOff_ne (s : State) (h : j ≠ k) : (s.askOff k).driveOf j = s.driveOf j := by
  rcases s.askOff_cases k with ⟨-, h'⟩ | ⟨-, h'⟩ <;> rw [h']
  exact s.driveOf_setDrive_ne _ h

/-- After it the key is not driven, and if it was its immediate Off is asked; its notes stand. -/
theorem State.driveOf_askOff_self (s : State) (low : 1 ≤ k) (high : k ≤ 97) :
    ((s.askOff k).driveOf k).driven = false ∧
      ((s.driveOf k).driven = true → ((s.askOff k).driveOf k).immediateOff = true) ∧
      ((s.askOff k).driveOf k).notes = (s.driveOf k).notes := by
  rcases s.askOff_cases k with ⟨hd, h⟩ | ⟨-, h⟩ <;> rw [h]
  · exact ⟨hd, by simp [hd], rfl⟩
  · rw [s.driveOf_setDrive_self _ low high]; exact ⟨rfl, fun _ => rfl, rfl⟩

/-! ### Withdrawal (R141) -/

theorem State.withdraw_entries (s : State) (k : Nat) :
    (s.withdraw k).sched.entries = s.sched.entries.filter (fun e => !e.ofKey k) := by
  simp [State.withdraw, State.redecide]

theorem State.driveOf_withdraw_ne (s : State) (h : j ≠ k) : (s.withdraw k).driveOf j = s.driveOf j := by
  unfold State.withdraw
  simp only
  rw [State.driveOf_redecide_ne _ h, State.driveOf_setDrive_ne _ _ h, State.driveOf_askOff_ne _ h]
  exact State.driveOf_congr rfl j

theorem State.withdraw_no_entry (s : State) (k : Nat) : ∀ e ∈ (s.withdraw k).sched.entries, e.ofKey k = false := by
  rw [State.withdraw_entries]
  intro e he
  simpa using (List.mem_filter.1 he).2

/-- The withdrawn key: no note, not driven, its immediate Off asked if it was driven. -/
theorem State.driveOf_withdraw_self (s : State) (low : 1 ≤ k) (high : k ≤ 97) :
    ((s.withdraw k).driveOf k).notes = [] ∧ ((s.withdraw k).driveOf k).driven = false ∧
      ((s.driveOf k).driven = true → ((s.withdraw k).driveOf k).immediateOff = true) := by
  unfold State.withdraw
  simp only
  rw [State.driveOf_redecide_self _ low high, State.driveOf_setDrive_self _ _ low high]
  obtain ⟨h1, h2, -⟩ := State.driveOf_askOff_self (s.setEntries (s.sched.entries.filter (fun e => !e.ofKey k))) low high
  exact ⟨rfl, h1, h2⟩

/-! ### A new note (R125, R130, R134) -/

/-- The entries behind a new note: the key's detached Offs gone, its Attack or Hold and its Off inserted. -/
theorem State.makeNote_entries (s : State) (k : Nat) (m : NewNote) :
    ∃ strikeEntry offEntry : Entry,
      strikeEntry.kind = m.kind ∧ strikeEntry.onset = m.onset ∧ strikeEntry.target = k ∧ strikeEntry.level = m.level ∧
      strikeEntry.via = m.via ∧ strikeEntry.note = some s.sched.nextNote ∧ offEntry.kind = .off ∧ offEntry.onset = m.off ∧
      offEntry.target = k ∧ offEntry.note = some s.sched.nextNote ∧
      (s.makeNote k m).sched.entries = insertEntry offEntry (insertEntry strikeEntry
        (s.sched.entries.filter (fun e => !(e.offOf k && e.note == none)))) :=
  ⟨_, _, rfl, rfl, rfl, rfl, rfl, rfl, rfl, rfl, rfl, rfl, rfl⟩

theorem State.driveOf_makeNote_ne (s : State) (m : NewNote) (h : j ≠ k) : (s.makeNote k m).driveOf j = s.driveOf j := by
  unfold State.makeNote
  simp only
  rw [State.driveOf_redecide_ne _ h, State.driveOf_setDrive_ne _ _ h]
  exact State.driveOf_congr rfl j

/-- A new note needs two free entries. -/
theorem State.length_makeNote (s : State) (k : Nat) (m : NewNote) :
    (s.makeNote k m).sched.entries.length ≤ s.sched.entries.length + 2 := by
  obtain ⟨a, o, -, -, -, -, -, -, -, -, -, -, h⟩ := s.makeNote_entries k m
  rw [h, length_insertEntry, length_insertEntry]
  have := List.length_filter_le (fun e => !(e.offOf k && e.note == none)) s.sched.entries
  omega

theorem State.ordered_makeNote (s : State) (k : Nat) (m : NewNote)
    (h : s.sched.entries.Pairwise (fun a b => b.before a = false)) :
    (s.makeNote k m).sched.entries.Pairwise (fun a b => b.before a = false) := by
  obtain ⟨a, o, -, -, -, -, -, -, -, -, -, -, he⟩ := s.makeNote_entries k m
  rw [he]
  exact ordered_insertEntry (ordered_insertEntry (h.sublist List.filter_sublist))

/-! ### Moving a note's Off, and the spacing of notes (R128, R129, R131) -/

/-- What a moved Off leaves: its entry reinserted at the new tick, the others where they stood. -/
@[simp] theorem State.moveOff_entries (s : State) (k id tick : Nat) (origin : OffOrigin) :
    (s.moveOff k id tick origin).sched.entries =
      insertEntries ((s.sched.entries.filter (fun e => e.offOf k && e.note == some id)).map (fun e => { e with onset := tick }))
        (s.sched.entries.filter (fun e => !(e.offOf k && e.note == some id))) := rfl

theorem State.driveOf_moveOff_self (s : State) (id tick : Nat) (origin : OffOrigin) (low : 1 ≤ k) (high : k ≤ 97) :
    (s.moveOff k id tick origin).driveOf k = { s.driveOf k with
      notes := (s.driveOf k).notes.map (fun n => if n.id = id then { n with off := tick, origin := origin } else n) } :=
  State.driveOf_mapNotes_self _ _ low high

theorem State.driveOf_moveOff_ne (s : State) (id tick : Nat) (origin : OffOrigin) (h : j ≠ k) :
    (s.moveOff k id tick origin).driveOf j = s.driveOf j :=
  (State.driveOf_modNote_ne _ id _ h).trans (State.driveOf_congr rfl j)

theorem State.ordered_moveOff (s : State) (k id tick : Nat) (origin : OffOrigin)
    (h : s.sched.entries.Pairwise (fun a b => b.before a = false)) :
    (s.moveOff k id tick origin).sched.entries.Pairwise (fun a b => b.before a = false) :=
  ordered_insertEntries (h.sublist List.filter_sublist)

/-- All the spacing can do: behind the open note defer the new one, advance the open one, or neither; with no open note defer it
behind the rearm base, or not. -/
theorem State.spaceNote_cases (s : State) (k onset rearm : Nat) :
    (∃ p floor, (s.driveOf k).openNote = some p ∧ floor = max (p.onset + p.attack) s.earliest ∧
        ((onset < floor + rearm ∧ s.spaceNote k onset rearm =
            ((s.moveOff k p.id floor .advanced).bump .deferred, floor + rearm - onset)) ∨
          (floor + rearm ≤ onset ∧ onset - rearm < p.off ∧
            s.spaceNote k onset rearm = (s.moveOff k p.id (onset - rearm) .advanced, 0)) ∨
          (floor + rearm ≤ onset ∧ p.off ≤ onset - rearm ∧ s.spaceNote k onset rearm = (s, 0)))) ∨
      ((s.driveOf k).openNote = none ∧
        ((∃ base, (s.driveOf k).rearmBase = some base ∧ onset < base + rearm ∧
            s.spaceNote k onset rearm = (s.bump .deferred, base + rearm - onset)) ∨
          ((∀ base, (s.driveOf k).rearmBase = some base → base + rearm ≤ onset) ∧ s.spaceNote k onset rearm = (s, 0)))) := by
  rcases ho : (s.driveOf k).openNote with _ | p
  · refine .inr ⟨rfl, ?_⟩
    rcases hb : (s.driveOf k).rearmBase with _ | base
    · exact .inr ⟨by simp, by simp [State.spaceNote, ho, hb]⟩
    · by_cases h : onset < base + rearm
      · exact .inl ⟨base, rfl, h, by simp [State.spaceNote, ho, hb, h]⟩
      · exact .inr ⟨fun b e => by obtain rfl := Option.some.inj e; omega, by simp [State.spaceNote, ho, hb, h]⟩
  · refine .inl ⟨p, _, rfl, rfl, ?_⟩
    by_cases h : onset < max (p.onset + p.attack) s.earliest + rearm
    · exact .inl ⟨h, by unfold State.spaceNote; simp only [ho, if_pos h]⟩
    · by_cases g : onset - rearm < p.off
      · exact .inr (.inl ⟨by omega, g, by unfold State.spaceNote; simp only [ho, if_neg h, if_pos g]⟩)
      · exact .inr (.inr ⟨by omega, by omega, by unfold State.spaceNote; simp only [ho, if_neg h, if_neg g]⟩)

/-- Moving a note's Off neither adds nor removes an entry. -/
theorem State.length_moveOff (s : State) (k id tick : Nat) (origin : OffOrigin) :
    (s.moveOff k id tick origin).sched.entries.length = s.sched.entries.length := by
  unfold State.moveOff
  simp only [State.modNote_entries, State.setEntries_sched_entries]
  rw [length_insertEntries, List.length_map]
  have h := List.length_eq_length_filter_add (l := s.sched.entries) (fun e => e.offOf k && e.note == some id)
  omega

/-- R128, R129: an admission is deferred behind the key's open note or its rearm base, or not at all; the key's open note
may be advanced and Deferred counted, and no entry comes or goes. -/
theorem State.length_spaceNote (s : State) (k onset rearm : Nat) :
    (s.spaceNote k onset rearm).1.sched.entries.length = s.sched.entries.length := by
  unfold State.spaceNote
  split
  · simp only
    split
    · simp only [State.bump_sched]; exact s.length_moveOff ..
    · split
      · exact s.length_moveOff ..
      · rfl
  · split
    · rfl
    · split <;> rfl

theorem State.spaceNote_free (s : State) (k onset rearm : Nat) (hn : (s.driveOf k).notes = [])
    (hb : (s.driveOf k).rearmBase = none) : s.spaceNote k onset rearm = (s, 0) := by
  simp [State.spaceNote, KeyDrive.openNote, hn, hb]

/-! ### Walks and places (R98, R136) -/

theorem State.walkRead_idle (s : State) (h : s.voices.walk = none) : s.walkRead = s := by
  simp [State.walkRead, h]

theorem State.walkEnd_idle (s : State) (h : s.voices.walk = none) : s.walkEnd = s := by
  simp [State.walkEnd, h]

/-- All a read of the walk can do: nothing, the walk's end with VoiceAbsent, or the walk holds the descriptor or the page. -/
theorem State.walkRead_cases (s : State) :
    s.walkRead = s ∨ ∃ w, s.voices.walk = some w ∧
      ((w.descriptor = none ∧ ∃ d, s.mem.descriptor w.set w.voice = some d ∧
          ((d.present = false ∧ s.walkRead = s.walkAbsent) ∨
            (d.present = true ∧
              s.walkRead = { s with voices := { s.voices with walk := some { w with descriptor := some d } } }))) ∨
        (∃ d, w.descriptor = some d ∧ w.page = none ∧ s.walkRead = s.walkPage w d.page)) := by
  rcases hw : s.voices.walk with _ | w
  · exact .inl (s.walkRead_idle hw)
  rcases hd : w.descriptor with _ | d
  · rcases hm : s.mem.descriptor w.set w.voice with _ | d
    · exact .inl (by simp [State.walkRead, State.walkDescriptor, hw, hd, hm])
    · refine .inr ⟨w, rfl, .inl ⟨hd, d, hm, ?_⟩⟩
      cases hp : d.present <;> simp [State.walkRead, State.walkDescriptor, hw, hd, hm, hp]
  · rcases hp : w.page with _ | p
    · exact .inr ⟨w, rfl, .inr ⟨d, hd, hp, by simp [State.walkRead, hw, hd, hp]⟩⟩
    · exact .inl (by simp [State.walkRead, hw, hd, hp])

/-- An entry of the window is held back by one of its target, at or before it, or of its note, that found no place. -/
theorem heldBack_iff (unplaced : List (Entry × Nat)) (x : Entry × Nat) :
    heldBack unplaced x = true ↔
      ∃ y ∈ unplaced, (y.1.sameTarget x.1 = true ∧ y.2 ≤ x.2) ∨ (y.1.note.isSome = true ∧ y.1.note = x.1.note) := by
  simp [heldBack]

/-! ### The ends of jobs (R164 to R166) -/

/-- JOB_START: no test due and nothing, a test that fails and is over, or a job made current and its strike asked. -/
theorem State.startJob_cases (s : State) :
    (s.jobTestDue = false ∧ s.startJob = s) ∨
      (s.jobTestDue = true ∧ s.startJob = { s with calib := { s.calib with testDue := false } }) ∨
        ∃ j rest c, s.jobTestDue = true ∧ s.jobsRun = true ∧ s.calib.current = none ∧ s.calib.queue = j :: rest ∧ c.job = j ∧
          c.state = .pending ∧ c.planned = s.earliest ∧
          s.startJob = State.askStrike { s with calib := { s.calib with current := some c, testDue := false } } c := by
  unfold State.startJob
  split
  · next hd => exact .inl ⟨by simpa using hd, rfl⟩
  · next hd =>
    have due : s.jobTestDue = true := by simpa using hd
    split
    · next j rest hc hq hr => exact .inr (.inr ⟨j, rest, _, due, hr, hc, hq, rfl, rfl, rfl, rfl⟩)
    · exact .inr (.inl ⟨due, rfl⟩)

/-- A failure of the jobs that concern a key: none current, or the current one spared, or failed. -/
theorem State.failJobIf_cases (s : State) (p : CurrentJob → Bool) (reason : JobReason) :
    (s.calib.current = none ∧ s.failJobIf p reason = s) ∨
      (∃ c, s.calib.current = some c ∧ p c = false ∧ s.failJobIf p reason = s) ∨
        ∃ c, s.calib.current = some c ∧ p c = true ∧ s.failJobIf p reason = s.failJob c reason := by
  unfold State.failJobIf
  cases s.calib.current with
  | none => exact .inl ⟨rfl, rfl⟩
  | some c =>
    cases hp : p c
    · exact .inr (.inl ⟨c, rfl, hp, by simp [hp]⟩)
    · exact .inr (.inr ⟨c, rfl, hp, by simp [hp]⟩)

/-- An abort with no job does nothing; any other leaves no job at all. -/
theorem State.abortJobs_cases (s : State) (cause : AbortCause) :
    (s.calib.current = none ∧ s.calib.queue = [] ∧ s.abortJobs cause = s) ∨
      ((s.abortJobs cause).calib.queue = [] ∧ (s.abortJobs cause).calib.current = none) := by
  unfold State.abortJobs
  split
  · next h =>
    simp only [Bool.and_eq_true, Option.isNone_iff_eq_none, List.isEmpty_iff] at h
    exact .inl ⟨h.1, h.2, rfl⟩
  · right
    simp only
    rw [State.report_eq]
    exact ⟨rfl, rfl⟩

/-! ### The retry of a cycle start (R158) and the abandonment of a stroke (R61) -/

/-- A strike waits where the current job's stands Pending. -/
theorem State.strikeWaits_iff (s : State) :
    s.strikeWaits = true ↔ ∃ c, s.calib.current = some c ∧ c.state = .pending := by
  simp [State.strikeWaits, Option.any_eq_true]

/-- Where no strike waits the retry does nothing. -/
theorem State.retryStrike_of_not_waits {s : State} (h : s.strikeWaits = false) : s.retryStrike = s := by
  unfold State.retryStrike State.strikeWaits at *
  cases hc : s.calib.current with
  | none => rfl
  | some c => simp_all

/-- The acts of a cycle start are those of its order; the retry is one of them only where a strike stood Pending before. -/
theorem State.mem_startActs {s : State} {order : List StartAction} {a : StartAction} :
    a ∈ s.startActs order ↔ a ∈ startOrder order ∧ (a = .retry → s.strikeWaits = true) := by
  unfold State.startActs
  split
  · next h => simp [h]
  · next h => simp [h, List.mem_filter]

/-- An abandonment makes the record Down without its H1 instant, or nothing. -/
theorem State.abandon_cases (s : State) (x : Instant) (k : Nat) :
    (∃ h, (s.trackerOf k).state = .rising ∧ (s.trackerOf k).h1 = some h ∧ (Config.strokeLimit : Int) < interval h x ∧
        s.abandon x k = s.setTracker k { s.trackerOf k with state := .down, h1 := none }) ∨ s.abandon x k = s := by
  unfold State.abandon
  simp only
  split
  · next h hr hh =>
    split
    · next hi => exact .inl ⟨h, hr, hh, hi, rfl⟩
    · exact .inr rfl
  · exact .inr rfl

end Sys2Proof.Machine
end

