-- ==== Sys2Proof/Laws/Footprint.lean ====
section
/-! SUPPORT. Footprints: which blocks of the state each operation can change. One lemma for each operation; what an
operation leaves alone is read off it, as in `(closeKeys_touches s into keys).link rfl`. -/

namespace Sys2Proof.Machine

/-- The blocks of either. -/
def Blocks.union (a b : Blocks) : Blocks :=
  { time := a.time || b.time,
    link := a.link || b.link,
    tracker := a.tracker || b.tracker,
    capture := a.capture || b.capture,
    mem := a.mem || b.mem,
    voices := a.voices || b.voices,
    intake := a.intake || b.intake,
    sched := a.sched || b.sched,
    duplex := a.duplex || b.duplex,
    calib := a.calib || b.calib,
    port := a.port || b.port,
    store := a.store || b.store,
    pending := a.pending || b.pending }

/-- Every block of `a` is one of `b`. -/
def Blocks.within (a b : Blocks) : Bool :=
  (!a.time || b.time) &&
    (!a.link || b.link) &&
    (!a.tracker || b.tracker) &&
    (!a.capture || b.capture) &&
    (!a.mem || b.mem) &&
    (!a.voices || b.voices) &&
    (!a.intake || b.intake) &&
    (!a.sched || b.sched) &&
    (!a.duplex || b.duplex) &&
    (!a.calib || b.calib) &&
    (!a.port || b.port) &&
    (!a.store || b.store) &&
    (!a.pending || b.pending)

theorem Touches.refl (b : Blocks) (s : State) : Touches b s s := by constructor <;> intro _ <;> rfl

theorem Touches.trans {a b : Blocks} {s t u : State} (h : Touches a s t) (k : Touches b t u) :
    Touches (a.union b) s u := by
  constructor <;> intro e <;> simp only [Blocks.union, Bool.or_eq_false_iff] at e
  · rw [k.time e.2, h.time e.1]
  · rw [k.link e.2, h.link e.1]
  · rw [k.tracker e.2, h.tracker e.1]
  · rw [k.capture e.2, h.capture e.1]
  · rw [k.mem e.2, h.mem e.1]
  · rw [k.voices e.2, h.voices e.1]
  · rw [k.intake e.2, h.intake e.1]
  · rw [k.sched e.2, h.sched e.1]
  · rw [k.duplex e.2, h.duplex e.1]
  · rw [k.calib e.2, h.calib e.1]
  · rw [k.port e.2, h.port e.1]
  · rw [k.store e.2, h.store e.1]
  · rw [k.pending e.2, h.pending e.1]

theorem Touches.mono {a b : Blocks} {s t : State} (h : Touches a s t) (le : a.within b = true) : Touches b s t := by
  simp only [Blocks.within, Bool.and_eq_true, Bool.or_eq_true, Bool.not_eq_true'] at le
  constructor <;> intro e
  · exact h.time ((le.1.1.1.1.1.1.1.1.1.1.1.1).resolve_right (by simp [e]))
  · exact h.link ((le.1.1.1.1.1.1.1.1.1.1.1.2).resolve_right (by simp [e]))
  · exact h.tracker ((le.1.1.1.1.1.1.1.1.1.1.2).resolve_right (by simp [e]))
  · exact h.capture ((le.1.1.1.1.1.1.1.1.1.2).resolve_right (by simp [e]))
  · exact h.mem ((le.1.1.1.1.1.1.1.1.2).resolve_right (by simp [e]))
  · exact h.voices ((le.1.1.1.1.1.1.1.2).resolve_right (by simp [e]))
  · exact h.intake ((le.1.1.1.1.1.1.2).resolve_right (by simp [e]))
  · exact h.sched ((le.1.1.1.1.1.2).resolve_right (by simp [e]))
  · exact h.duplex ((le.1.1.1.1.2).resolve_right (by simp [e]))
  · exact h.calib ((le.1.1.1.2).resolve_right (by simp [e]))
  · exact h.port ((le.1.1.2).resolve_right (by simp [e]))
  · exact h.store ((le.1.2).resolve_right (by simp [e]))
  · exact h.pending ((le.2).resolve_right (by simp [e]))

/-- Two steps within the same blocks. -/
theorem Touches.seq {b : Blocks} {s t u : State} (h : Touches b s t) (k : Touches b t u) : Touches b s u :=
  (h.trans k).mono (by cases b; simp [Blocks.within, Blocks.union])

/-- Before a last step that keeps to fewer blocks. -/
theorem Touches.via {a b : Blocks} {s t u : State} (k : Touches a t u) (h : Touches b s t) (le : a.within b = true) :
    Touches b s u := h.seq (k.mono le)

theorem Touches.foldl {α : Type} {b : Blocks} {f : State → α → State} (h : ∀ s a, Touches b s (f s a)) (l : List α)
    (s : State) : Touches b s (l.foldl f s) := by
  induction l generalizing s with
  | nil => exact Touches.refl b s
  | cons a l ih => exact (h s a).seq (ih (f s a))

theorem Touches.foldlOn {α : Type} {b : Blocks} {f : State → α → State} {l : List α} {s t : State} (h : Touches b s t)
    (k : ∀ s a, Touches b s (f s a)) : Touches b s (l.foldl f t) := h.seq (Touches.foldl k l t)

theorem Touches.ite {b : Blocks} {s t u : State} {p : Prop} [Decidable p] (h : p → Touches b s t)
    (k : ¬p → Touches b s u) : Touches b s (if p then t else u) := by
  by_cases e : p <;> simp only [e, if_true, if_false]
  · exact h e
  · exact k e

theorem Touches.on_time {b : Blocks} {s t : State} {x : _} (h : Touches b s t) (e : b.time = true) :
    Touches b s { t with time := x } :=
  h.seq (by constructor <;> intro k <;> first | rfl | (rw [e] at k; cases k))

theorem Touches.on_link {b : Blocks} {s t : State} {x : _} (h : Touches b s t) (e : b.link = true) :
    Touches b s { t with link := x } :=
  h.seq (by constructor <;> intro k <;> first | rfl | (rw [e] at k; cases k))

theorem Touches.on_tracker {b : Blocks} {s t : State} {x : _} (h : Touches b s t) (e : b.tracker = true) :
    Touches b s { t with tracker := x } :=
  h.seq (by constructor <;> intro k <;> first | rfl | (rw [e] at k; cases k))

theorem Touches.on_capture {b : Blocks} {s t : State} {x : _} (h : Touches b s t) (e : b.capture = true) :
    Touches b s { t with capture := x } :=
  h.seq (by constructor <;> intro k <;> first | rfl | (rw [e] at k; cases k))

theorem Touches.on_mem {b : Blocks} {s t : State} {x : _} (h : Touches b s t) (e : b.mem = true) :
    Touches b s { t with mem := x } :=
  h.seq (by constructor <;> intro k <;> first | rfl | (rw [e] at k; cases k))

theorem Touches.on_voices {b : Blocks} {s t : State} {x : _} (h : Touches b s t) (e : b.voices = true) :
    Touches b s { t with voices := x } :=
  h.seq (by constructor <;> intro k <;> first | rfl | (rw [e] at k; cases k))

theorem Touches.on_intake {b : Blocks} {s t : State} {x : _} (h : Touches b s t) (e : b.intake = true) :
    Touches b s { t with intake := x } :=
  h.seq (by constructor <;> intro k <;> first | rfl | (rw [e] at k; cases k))

theorem Touches.on_sched {b : Blocks} {s t : State} {x : _} (h : Touches b s t) (e : b.sched = true) :
    Touches b s { t with sched := x } :=
  h.seq (by constructor <;> intro k <;> first | rfl | (rw [e] at k; cases k))

theorem Touches.on_duplex {b : Blocks} {s t : State} {x : _} (h : Touches b s t) (e : b.duplex = true) :
    Touches b s { t with duplex := x } :=
  h.seq (by constructor <;> intro k <;> first | rfl | (rw [e] at k; cases k))

theorem Touches.on_calib {b : Blocks} {s t : State} {x : _} (h : Touches b s t) (e : b.calib = true) :
    Touches b s { t with calib := x } :=
  h.seq (by constructor <;> intro k <;> first | rfl | (rw [e] at k; cases k))

theorem Touches.on_port {b : Blocks} {s t : State} {x : _} (h : Touches b s t) (e : b.port = true) :
    Touches b s { t with port := x } :=
  h.seq (by constructor <;> intro k <;> first | rfl | (rw [e] at k; cases k))

theorem Touches.on_store {b : Blocks} {s t : State} {x : _} (h : Touches b s t) (e : b.store = true) :
    Touches b s { t with store := x } :=
  h.seq (by constructor <;> intro k <;> first | rfl | (rw [e] at k; cases k))

theorem Touches.on_pending {b : Blocks} {s t : State} {x : _} (h : Touches b s t) (e : b.pending = true) :
    Touches b s { t with pending := x } :=
  h.seq (by constructor <;> intro k <;> first | rfl | (rw [e] at k; cases k))


theorem State.setTracker_touches (s : State) (k : Nat) (r : TrackerRecord) :
    Touches { tracker := true } s (s.setTracker k r) := by
  unfold State.setTracker
  repeat' first
    | with_reducible exact Touches.refl _ _
    | (show Blocks.within _ _ = true; rfl)
    | with_reducible exact rfl
  all_goals (constructor <;> intro e <;> first | (cases e; done) | with_reducible rfl)

theorem State.setPedal_touches (s : State) (q : Nat) (r : PedalCapture) :
    Touches { tracker := true } s (s.setPedal q r) := by
  unfold State.setPedal
  repeat' first
    | with_reducible exact Touches.refl _ _
    | (show Blocks.within _ _ = true; rfl)
    | with_reducible exact rfl
  all_goals (constructor <;> intro e <;> first | (cases e; done) | with_reducible rfl)

theorem State.setDrive_touches (s : State) (k : Nat) (d : KeyDrive) :
    Touches { sched := true } s (s.setDrive k d) := by
  unfold State.setDrive
  repeat' first
    | with_reducible exact Touches.refl _ _
    | (show Blocks.within _ _ = true; rfl)
    | with_reducible exact rfl
  all_goals (constructor <;> intro e <;> first | (cases e; done) | with_reducible rfl)

theorem State.setPedalDrive_touches (s : State) (q : Nat) (d : PedalDrive) :
    Touches { sched := true } s (s.setPedalDrive q d) := by
  unfold State.setPedalDrive
  repeat' first
    | with_reducible exact Touches.refl _ _
    | (show Blocks.within _ _ = true; rfl)
    | with_reducible exact rfl
  all_goals (constructor <;> intro e <;> first | (cases e; done) | with_reducible rfl)

theorem State.setWindow_touches (s : State) (k : Nat) (w : Option Window) :
    Touches { duplex := true } s (s.setWindow k w) := by
  unfold State.setWindow
  repeat' first
    | with_reducible exact Touches.refl _ _
    | (show Blocks.within _ _ = true; rfl)
    | with_reducible exact rfl
  all_goals (constructor <;> intro e <;> first | (cases e; done) | with_reducible rfl)

theorem State.setYield_touches (s : State) (k : Nat) (y : YieldRecord) :
    Touches { duplex := true } s (s.setYield k y) := by
  unfold State.setYield
  repeat' first
    | with_reducible exact Touches.refl _ _
    | (show Blocks.within _ _ = true; rfl)
    | with_reducible exact rfl
  all_goals (constructor <;> intro e <;> first | (cases e; done) | with_reducible rfl)

theorem State.setEntries_touches (s : State) (es : List Entry) :
    Touches { sched := true } s (s.setEntries es) := by
  unfold State.setEntries
  repeat' first
    | with_reducible exact Touches.refl _ _
    | (show Blocks.within _ _ = true; rfl)
    | with_reducible exact rfl
  all_goals (constructor <;> intro e <;> first | (cases e; done) | with_reducible rfl)

theorem State.bump_touches (s : State) (c : Counter) :
    Touches { port := true } s (s.bump c) := by
  unfold State.bump
  repeat' first
    | with_reducible exact Touches.refl _ _
    | (show Blocks.within _ _ = true; rfl)
    | with_reducible exact rfl
  all_goals (constructor <;> intro e <;> first | (cases e; done) | with_reducible rfl)

theorem State.bumpIf_touches (s : State) (b : Bool) (c : Counter) :
    Touches { port := true } s (s.bumpIf b c) := by
  unfold State.bumpIf
  repeat' first
    | with_reducible exact Touches.refl _ _
    | (show Blocks.within _ _ = true; rfl)
    | (with_reducible apply Touches.via; on_goal 1 => with_reducible apply State.bump_touches)
    | split

theorem State.bumpTimes_touches (s : State) (c : Counter) (n : Nat) :
    Touches { port := true } s (s.bumpTimes c n) := by
  induction n generalizing s with
  | zero => exact Touches.refl _ _
  | succ n ih => exact (State.bump_touches ..).seq (ih _)

theorem State.beginSending_touches (s : State) :
    Touches { port := true } s (s.beginSending) := by
  unfold State.beginSending
  repeat' first
    | with_reducible exact Touches.refl _ _
    | (show Blocks.within _ _ = true; rfl)
    | with_reducible exact rfl
    | split
  all_goals (constructor <;> intro e <;> first | (cases e; done) | with_reducible rfl)

theorem State.hand_touches (s : State) (f : Upstream) :
    Touches { port := true } s (s.hand f) := by
  unfold State.hand
  repeat' first
    | with_reducible exact Touches.refl _ _
    | (show Blocks.within _ _ = true; rfl)
    | with_reducible exact rfl
    | (with_reducible apply Touches.via; on_goal 1 => with_reducible apply State.beginSending_touches)
  all_goals (constructor <;> intro e <;> first | (cases e; done) | with_reducible rfl)

theorem State.offer_touches (s : State) (f : Upstream) :
    Touches { port := true } s (s.offer f) := by
  unfold State.offer
  repeat' first
    | with_reducible exact Touches.refl _ _
    | (show Blocks.within _ _ = true; rfl)
    | (with_reducible apply Touches.via; on_goal 1 => with_reducible first
      | apply State.bump_touches | apply State.hand_touches)
    | split

theorem State.reply_touches (s : State) (tag : Byte) (request : Nat) (result : Result) (data : ReplyData) :
    Touches { port := true } s (s.reply tag request result data) := by
  unfold State.reply
  repeat' first
    | with_reducible exact Touches.refl _ _
    | (show Blocks.within _ _ = true; rfl)
    | (with_reducible apply Touches.via; on_goal 1 => with_reducible apply State.offer_touches)

theorem State.report_touches (s : State) (r : Report) :
    Touches { port := true } s (s.report r) := by
  unfold State.report
  repeat' first
    | with_reducible exact Touches.refl _ _
    | (show Blocks.within _ _ = true; rfl)
    | (with_reducible apply Touches.via; on_goal 1 => with_reducible apply State.offer_touches)

theorem State.redecide_touches (s : State) (k : Nat) :
    Touches { sched := true } s (s.redecide k) := by
  unfold State.redecide
  repeat' first
    | with_reducible exact Touches.refl _ _
    | (show Blocks.within _ _ = true; rfl)
    | with_reducible exact rfl
    | (with_reducible apply Touches.via; on_goal 1 => with_reducible apply State.setDrive_touches)
  all_goals (constructor <;> intro e <;> first | (cases e; done) | with_reducible rfl)

theorem State.redecideAll_touches (s : State) (keys : List Nat) :
    Touches { sched := true } s (s.redecideAll keys) := by
  unfold State.redecideAll
  repeat' first
    | with_reducible exact Touches.refl _ _
    | (show Blocks.within _ _ = true; rfl)
    | (with_reducible apply Touches.via; on_goal 1 => with_reducible apply State.redecide_touches)
    | (with_reducible apply Touches.foldlOn; on_goal 2 => intro s a)

theorem State.mapNotes_touches (s : State) (k : Nat) (f : Note → Note) :
    Touches { sched := true } s (s.mapNotes k f) := by
  unfold State.mapNotes
  repeat' first
    | with_reducible exact Touches.refl _ _
    | (show Blocks.within _ _ = true; rfl)
    | with_reducible exact rfl
    | (with_reducible apply Touches.via; on_goal 1 => with_reducible apply State.setDrive_touches)
  all_goals (constructor <;> intro e <;> first | (cases e; done) | with_reducible rfl)

theorem State.modNote_touches (s : State) (k id : Nat) (f : Note → Note) :
    Touches { sched := true } s (s.modNote k id f) := by
  unfold State.modNote
  repeat' first
    | with_reducible exact Touches.refl _ _
    | (show Blocks.within _ _ = true; rfl)
    | (with_reducible apply Touches.via; on_goal 1 => with_reducible apply State.mapNotes_touches)
    | split

theorem State.noteLater_touches (s : State) (d : Nat) (e : Entry) :
    Touches { sched := true } s (s.noteLater d e) := by
  unfold State.noteLater
  repeat' first
    | with_reducible exact Touches.refl _ _
    | (show Blocks.within _ _ = true; rfl)
    | with_reducible exact rfl
    | (with_reducible apply Touches.via; on_goal 1 => with_reducible apply State.modNote_touches)
    | split
  all_goals (constructor <;> intro e <;> first | (cases e; done) | with_reducible rfl)

theorem State.moveEntries_touches (s : State) (by' : Entry → Nat) :
    Touches { sched := true } s (s.moveEntries by') := by
  unfold State.moveEntries
  repeat' first
    | with_reducible exact Touches.refl _ _
    | (show Blocks.within _ _ = true; rfl)
    | fail_if_no_progress extract_lets
    | (with_reducible apply Touches.via; on_goal 1 => with_reducible first
      | apply State.setEntries_touches | apply State.noteLater_touches)
    | (with_reducible apply Touches.foldlOn; on_goal 2 => intro s a)

theorem State.unlessRestoring_touches {b : Blocks} {s : State} {tag : Byte} {code : Nat} {f : State → State}
    (e : Blocks.within { port := true } b = true) (h : Touches b s (f s)) :
    Touches b s (s.unlessRestoring tag code f) := by
  unfold State.unlessRestoring
  split
  · exact (State.reply_touches ..).mono e
  · exact h

theorem State.unlessStoring_touches {b : Blocks} {s : State} {tag : Byte} {code : Nat} {f : State → State}
    (e : Blocks.within { port := true } b = true) (h : Touches b s (f s)) :
    Touches b s (s.unlessStoring tag code f) := by
  unfold State.unlessStoring
  split
  · exact (State.reply_touches ..).mono e
  · exact h

theorem State.judged_touches {b : Blocks} {s : State} {tag : Byte} {code : Nat} {o : Option Nat} {f : State → State}
    (e : Blocks.within { port := true } b = true) (h : Touches b s (f s)) : Touches b s (s.judged tag code o f) := by
  unfold State.judged
  split
  · exact (State.reply_touches ..).mono e
  · exact h

theorem State.askOff_touches (s : State) (k : Nat) :
    Touches { sched := true } s (s.askOff k) := by
  unfold State.askOff
  repeat' first
    | with_reducible exact Touches.refl _ _
    | (show Blocks.within _ _ = true; rfl)
    | fail_if_no_progress extract_lets
    | (with_reducible apply Touches.via; on_goal 1 => with_reducible apply State.setDrive_touches)
    | split

theorem State.moveOff_touches (s : State) (k id tick : Nat) (origin : OffOrigin) :
    Touches { sched := true } s (s.moveOff k id tick origin) := by
  unfold State.moveOff
  repeat' first
    | with_reducible exact Touches.refl _ _
    | (show Blocks.within _ _ = true; rfl)
    | with_reducible exact rfl
    | fail_if_no_progress extract_lets
    | (with_reducible apply Touches.via; on_goal 1 => with_reducible first
      | apply State.setEntries_touches | apply State.modNote_touches)
  all_goals (constructor <;> intro e <;> first | (cases e; done) | with_reducible rfl)

theorem State.spaceNote_touches (s : State) (k onset rearm : Nat) :
    Touches { sched := true, port := true } s (s.spaceNote k onset rearm).1 := by
  unfold State.spaceNote
  repeat' first
    | with_reducible exact Touches.refl _ _
    | (show Blocks.within _ _ = true; rfl)
    | fail_if_no_progress extract_lets
    | (with_reducible apply Touches.via; on_goal 1 => with_reducible first
      | apply State.bump_touches | apply State.moveOff_touches)
    | split

theorem State.makeNote_touches (s : State) (k : Nat) (m : NewNote) :
    Touches { sched := true } s (s.makeNote k m) := by
  unfold State.makeNote
  repeat' first
    | with_reducible exact Touches.refl _ _
    | (show Blocks.within _ _ = true; rfl)
    | with_reducible exact rfl
    | fail_if_no_progress extract_lets
    | (with_reducible apply Touches.via; on_goal 1 => with_reducible first
      | apply State.setDrive_touches | apply State.redecide_touches)
  all_goals (constructor <;> intro e <;> first | (cases e; done) | with_reducible rfl)

theorem State.countComputation_touches (s : State) (c : Computation) :
    Touches { port := true } s (s.countComputation c) := by
  unfold State.countComputation
  repeat' first
    | with_reducible exact Touches.refl _ _
    | (show Blocks.within _ _ = true; rfl)
    | (with_reducible apply Touches.via; on_goal 1 => with_reducible apply State.bumpIf_touches)

theorem State.placeComputed_touches (s : State) (k : Nat) (kind : EntryKind) (via : Via) (c : Computation) :
    Touches { sched := true, port := true } s (s.placeComputed k kind via c) := by
  unfold State.placeComputed
  repeat' first
    | with_reducible exact Touches.refl _ _
    | (show Blocks.within _ _ = true; rfl)
    | fail_if_no_progress extract_lets
    | (with_reducible apply Touches.via; on_goal 1 => with_reducible first
      | apply State.spaceNote_touches | apply State.makeNote_touches | apply State.countComputation_touches)
    | split

theorem State.admitStrike_touches (s : State) (r : EventRecord) (e : CacheEntry) (points : List Breakpoint)
    (sc : Scalars) :
    Touches { sched := true, port := true } s (s.admitStrike r e points sc) := by
  unfold State.admitStrike
  repeat' first
    | with_reducible exact Touches.refl _ _
    | (show Blocks.within _ _ = true; rfl)
    | fail_if_no_progress extract_lets
    | (with_reducible apply Touches.via; on_goal 1 => with_reducible first
      | apply State.bump_touches | apply State.placeComputed_touches)
    | split

theorem State.admitRelease_touches (s : State) (r : EventRecord) (k : Nat) :
    Touches { sched := true, port := true } s (s.admitRelease r k) := by
  unfold State.admitRelease
  repeat' first
    | with_reducible exact Touches.refl _ _
    | (show Blocks.within _ _ = true; rfl)
    | with_reducible exact rfl
    | fail_if_no_progress extract_lets
    | (with_reducible apply Touches.via; on_goal 1 => with_reducible first
      | apply State.bump_touches | apply State.modNote_touches | apply State.moveOff_touches)
    | split
  all_goals (constructor <;> intro e <;> first | (cases e; done) | with_reducible rfl)

theorem State.admitPedal_touches (s : State) (r : EventRecord) (e : CacheEntry) (points : List Breakpoint) :
    Touches { sched := true, port := true } s (s.admitPedal r e points) := by
  unfold State.admitPedal
  repeat' first
    | with_reducible exact Touches.refl _ _
    | (show Blocks.within _ _ = true; rfl)
    | fail_if_no_progress extract_lets
    | (with_reducible apply Touches.via; on_goal 1 => with_reducible first
      | apply State.setEntries_touches | apply State.bumpIf_touches)
    | split

theorem State.admitMarker_touches (s : State) (r : EventRecord) :
    Touches { sched := true } s (s.admitMarker r) := by
  unfold State.admitMarker
  repeat' first
    | with_reducible exact Touches.refl _ _
    | (show Blocks.within _ _ = true; rfl)
    | (with_reducible apply Touches.via; on_goal 1 => with_reducible apply State.setEntries_touches)
    | split

theorem State.proceed_touches (s : State) (r : EventRecord) (e : CacheEntry) :
    Touches { sched := true, port := true } s (s.proceed r e) := by
  unfold State.proceed
  repeat' first
    | with_reducible exact Touches.refl _ _
    | (show Blocks.within _ _ = true; rfl)
    | (with_reducible apply Touches.via; on_goal 1 => with_reducible first
      | apply State.bump_touches | apply State.admitStrike_touches | apply State.admitRelease_touches
      | apply State.admitPedal_touches)
    | split

theorem State.admitCalibration_touches (s : State) (k onset level hold attack rearm : Nat) :
    Touches { sched := true, port := true } s (s.admitCalibration k onset level hold attack rearm).1 := by
  unfold State.admitCalibration
  repeat' first
    | with_reducible exact Touches.refl _ _
    | (show Blocks.within _ _ = true; rfl)
    | fail_if_no_progress extract_lets
    | (with_reducible apply Touches.via; on_goal 1 => with_reducible first
      | apply State.bump_touches | apply State.spaceNote_touches | apply State.makeNote_touches)
    | split

theorem State.pauseKey_touches (s : State) (k : Nat) :
    Touches { sched := true } s (s.pauseKey k) := by
  unfold State.pauseKey
  repeat' first
    | with_reducible exact Touches.refl _ _
    | (show Blocks.within _ _ = true; rfl)
    | with_reducible exact rfl
    | fail_if_no_progress extract_lets
    | (with_reducible apply Touches.via; on_goal 1 => with_reducible first
      | apply State.setEntries_touches | apply State.redecide_touches | apply State.mapNotes_touches
      | apply State.askOff_touches)
    | split
  all_goals (constructor <;> intro e <;> first | (cases e; done) | with_reducible rfl)

theorem State.pauseSchedule_touches (s : State) :
    Touches { sched := true } s (s.pauseSchedule) := by
  unfold State.pauseSchedule
  repeat' first
    | with_reducible exact Touches.refl _ _
    | (show Blocks.within _ _ = true; rfl)
    | (with_reducible apply Touches.via; on_goal 1 => with_reducible apply State.pauseKey_touches)
    | (with_reducible apply Touches.foldlOn; on_goal 2 => intro s a)

theorem State.resumeSchedule_touches (s : State) (delta : Nat) :
    Touches { sched := true } s (s.resumeSchedule delta) := by
  unfold State.resumeSchedule
  repeat' first
    | with_reducible exact Touches.refl _ _
    | (show Blocks.within _ _ = true; rfl)
    | with_reducible exact rfl
  all_goals (constructor <;> intro e <;> first | (cases e; done) | with_reducible rfl)

theorem State.stopKey_touches (s : State) (k : Nat) :
    Touches { sched := true } s (s.stopKey k) := by
  unfold State.stopKey
  repeat' first
    | with_reducible exact Touches.refl _ _
    | (show Blocks.within _ _ = true; rfl)
    | with_reducible exact rfl
    | fail_if_no_progress extract_lets
    | (with_reducible apply Touches.via; on_goal 1 => with_reducible first
      | apply State.setDrive_touches | apply State.redecide_touches | apply State.askOff_touches)
  all_goals (constructor <;> intro e <;> first | (cases e; done) | with_reducible rfl)

theorem State.stopSchedule_touches (s : State) :
    Touches { sched := true } s (s.stopSchedule) := by
  unfold State.stopSchedule
  repeat' first
    | with_reducible exact Touches.refl _ _
    | (show Blocks.within _ _ = true; rfl)
    | with_reducible exact rfl
    | fail_if_no_progress extract_lets
    | (with_reducible apply Touches.via; on_goal 1 => with_reducible first
      | apply State.setEntries_touches | apply State.stopKey_touches)
    | (with_reducible apply Touches.foldlOn; on_goal 2 => intro s a)
  all_goals try first
    | with_reducible refine Touches.on_sched ?_ ?_
  all_goals repeat' first
    | with_reducible exact Touches.refl _ _
    | (show Blocks.within _ _ = true; rfl)
    | with_reducible exact rfl
    | fail_if_no_progress extract_lets
    | (with_reducible apply Touches.via; on_goal 1 => with_reducible first
      | apply State.setEntries_touches | apply State.stopKey_touches)
    | (with_reducible apply Touches.foldlOn; on_goal 2 => intro s a)
  all_goals try first
    | with_reducible refine Touches.on_sched ?_ ?_
  all_goals repeat' first
    | with_reducible exact Touches.refl _ _
    | (show Blocks.within _ _ = true; rfl)
    | with_reducible exact rfl
    | fail_if_no_progress extract_lets
    | (with_reducible apply Touches.via; on_goal 1 => with_reducible first
      | apply State.setEntries_touches | apply State.stopKey_touches)
    | (with_reducible apply Touches.foldlOn; on_goal 2 => intro s a)
  all_goals (constructor <;> intro e <;> first | (cases e; done) | with_reducible rfl)

theorem State.startSchedule_touches (s : State) :
    Touches { sched := true } s (s.startSchedule) := by
  unfold State.startSchedule
  repeat' first
    | with_reducible exact Touches.refl _ _
    | (show Blocks.within _ _ = true; rfl)
    | with_reducible exact rfl
  all_goals (constructor <;> intro e <;> first | (cases e; done) | with_reducible rfl)

theorem State.linkSilence_touches (s : State) :
    Touches { sched := true } s (s.linkSilence) := by
  unfold State.linkSilence
  repeat' first
    | with_reducible exact Touches.refl _ _
    | (show Blocks.within _ _ = true; rfl)
    | with_reducible exact rfl
  all_goals (constructor <;> intro e <;> first | (cases e; done) | with_reducible rfl)

theorem State.withdraw_touches (s : State) (k : Nat) :
    Touches { sched := true } s (s.withdraw k) := by
  unfold State.withdraw
  repeat' first
    | with_reducible exact Touches.refl _ _
    | (show Blocks.within _ _ = true; rfl)
    | with_reducible exact rfl
    | fail_if_no_progress extract_lets
    | (with_reducible apply Touches.via; on_goal 1 => with_reducible first
      | apply State.setDrive_touches | apply State.setEntries_touches | apply State.redecide_touches
      | apply State.askOff_touches)
  all_goals (constructor <;> intro e <;> first | (cases e; done) | with_reducible rfl)

theorem State.unavailKey_touches (s : State) (k : Nat) :
    Touches { sched := true } s (s.unavailKey k) := by
  unfold State.unavailKey
  repeat' first
    | with_reducible exact Touches.refl _ _
    | (show Blocks.within _ _ = true; rfl)
    | with_reducible exact rfl
    | fail_if_no_progress extract_lets
    | (with_reducible apply Touches.via; on_goal 1 => with_reducible first
      | apply State.setDrive_touches | apply State.setEntries_touches | apply State.redecide_touches
      | apply State.askOff_touches)
    | split
  all_goals (constructor <;> intro e <;> first | (cases e; done) | with_reducible rfl)

theorem State.unavailable_touches (s : State) (e : RosterEntry) :
    Touches { sched := true } s (s.unavailable e) := by
  unfold State.unavailable
  repeat' first
    | with_reducible exact Touches.refl _ _
    | (show Blocks.within _ _ = true; rfl)
    | fail_if_no_progress extract_lets
    | (with_reducible apply Touches.via; on_goal 1 => with_reducible first
      | apply State.setEntries_touches | apply State.unavailKey_touches)
    | (with_reducible apply Touches.foldlOn; on_goal 2 => intro s a)

theorem State.lowerLevels_touches (s : State) (e : RosterEntry) :
    Touches { sched := true, port := true } s (s.lowerLevels e) := by
  unfold State.lowerLevels
  repeat' first
    | with_reducible exact Touches.refl _ _
    | (show Blocks.within _ _ = true; rfl)
    | fail_if_no_progress extract_lets
    | (with_reducible apply Touches.via; on_goal 1 => with_reducible first
      | apply State.setEntries_touches | apply State.bumpTimes_touches | apply State.bumpTimes_touches)
    | split

theorem State.modDescriptor_touches (s : State) (set voice : Nat) (f : VoiceDescriptor → VoiceDescriptor) :
    Touches { mem := true } s (s.modDescriptor set voice f) := by
  unfold State.modDescriptor
  repeat' first
    | with_reducible exact Touches.refl _ _
    | (show Blocks.within _ _ = true; rfl)
    | with_reducible exact rfl
    | split
  all_goals (constructor <;> intro e <;> first | (cases e; done) | with_reducible rfl)

theorem State.markPlayed_touches (s : State) (via : Option Via) :
    Touches { mem := true } s (s.markPlayed via) := by
  unfold State.markPlayed
  repeat' first
    | with_reducible exact Touches.refl _ _
    | (show Blocks.within _ _ = true; rfl)
    | with_reducible exact rfl
    | (with_reducible apply Touches.via; on_goal 1 => with_reducible apply State.modDescriptor_touches)
    | split
  all_goals (constructor <;> intro e <;> first | (cases e; done) | with_reducible rfl)

theorem State.writeTrim_touches (s : State) (v : Via) (trim : Nat) :
    Touches { mem := true, voices := true } s (s.writeTrim v trim) := by
  unfold State.writeTrim
  repeat' first
    | with_reducible exact Touches.refl _ _
    | (show Blocks.within _ _ = true; rfl)
    | with_reducible exact rfl
    | fail_if_no_progress extract_lets
    | (with_reducible apply Touches.via; on_goal 1 => with_reducible apply State.modDescriptor_touches)
    | split
  all_goals try first
    | with_reducible refine Touches.on_mem ?_ ?_
    | with_reducible refine Touches.on_voices ?_ ?_
  all_goals repeat' first
    | with_reducible exact Touches.refl _ _
    | (show Blocks.within _ _ = true; rfl)
    | with_reducible exact rfl
    | fail_if_no_progress extract_lets
    | (with_reducible apply Touches.via; on_goal 1 => with_reducible apply State.modDescriptor_touches)
    | split
  all_goals try first
    | with_reducible refine Touches.on_mem ?_ ?_
    | with_reducible refine Touches.on_voices ?_ ?_
  all_goals repeat' first
    | with_reducible exact Touches.refl _ _
    | (show Blocks.within _ _ = true; rfl)
    | with_reducible exact rfl
    | fail_if_no_progress extract_lets
    | (with_reducible apply Touches.via; on_goal 1 => with_reducible apply State.modDescriptor_touches)
    | split
  all_goals (constructor <;> intro e <;> first | (cases e; done) | with_reducible rfl)

theorem State.commitPage_touches (s : State) (slot : Nat) (p : Page) :
    Touches { mem := true, voices := true } s (s.commitPage slot p) := by
  unfold State.commitPage
  repeat' first
    | with_reducible exact Touches.refl _ _
    | (show Blocks.within _ _ = true; rfl)
    | with_reducible exact rfl
  all_goals (constructor <;> intro e <;> first | (cases e; done) | with_reducible rfl)

theorem State.touch_touches (s : State) (e : CacheEntry) :
    Touches { voices := true } s (s.touch e) := by
  unfold State.touch
  repeat' first
    | with_reducible exact Touches.refl _ _
    | (show Blocks.within _ _ = true; rfl)
    | with_reducible exact rfl
  all_goals (constructor <;> intro e <;> first | (cases e; done) | with_reducible rfl)

theorem State.cancelWalk_touches (s : State) :
    Touches { voices := true } s (s.cancelWalk) := by
  unfold State.cancelWalk
  repeat' first
    | with_reducible exact Touches.refl _ _
    | (show Blocks.within _ _ = true; rfl)
    | with_reducible exact rfl
  all_goals (constructor <;> intro e <;> first | (cases e; done) | with_reducible rfl)

theorem State.popIntake_touches (s : State) :
    Touches { intake := true } s (s.popIntake) := by
  unfold State.popIntake
  repeat' first
    | with_reducible exact Touches.refl _ _
    | (show Blocks.within _ _ = true; rfl)
    | with_reducible exact rfl
  all_goals (constructor <;> intro e <;> first | (cases e; done) | with_reducible rfl)

theorem State.walkAbsent_touches (s : State) :
    Touches { voices := true, intake := true, port := true } s (s.walkAbsent) := by
  unfold State.walkAbsent
  repeat' first
    | with_reducible exact Touches.refl _ _
    | (show Blocks.within _ _ = true; rfl)
    | (with_reducible apply Touches.via; on_goal 1 => with_reducible first
      | apply State.bump_touches | apply State.cancelWalk_touches | apply State.popIntake_touches)

theorem State.walkRead_touches (s : State) :
    Touches { voices := true, intake := true, port := true } s (s.walkRead) := by
  unfold State.walkRead State.walkDescriptor State.walkPage
  repeat' first
    | with_reducible exact Touches.refl _ _
    | (show Blocks.within _ _ = true; rfl)
    | with_reducible exact rfl
    | (with_reducible apply Touches.via; on_goal 1 => with_reducible apply State.walkAbsent_touches)
    | split
  all_goals (constructor <;> intro e <;> first | (cases e; done) | with_reducible rfl)

theorem State.walkEnd_touches (s : State) :
    Touches { mem := true, voices := true, intake := true, sched := true, port := true } s (s.walkEnd) := by
  unfold State.walkEnd
  repeat' first
    | with_reducible exact Touches.refl _ _
    | (show Blocks.within _ _ = true; rfl)
    | with_reducible exact rfl
    | fail_if_no_progress extract_lets
    | (with_reducible apply Touches.via; on_goal 1 => with_reducible first
      | apply State.proceed_touches | apply State.modDescriptor_touches | apply State.popIntake_touches
      | apply State.walkAbsent_touches)
    | split
  all_goals (constructor <;> intro e <;> first | (cases e; done) | with_reducible rfl)

theorem State.takeRecord_touches (s : State) (r : EventRecord) :
    Touches { intake := true, port := true } s (s.takeRecord r) := by
  unfold State.takeRecord
  repeat' first
    | with_reducible exact Touches.refl _ _
    | (show Blocks.within _ _ = true; rfl)
    | with_reducible exact rfl
    | (with_reducible apply Touches.via; on_goal 1 => with_reducible apply State.bump_touches)
    | split
  all_goals (constructor <;> intro e <;> first | (cases e; done) | with_reducible rfl)

theorem State.emptyIntake_touches (s : State) :
    Touches { voices := true, intake := true } s (s.emptyIntake) := by
  unfold State.emptyIntake
  repeat' first
    | with_reducible exact Touches.refl _ _
    | (show Blocks.within _ _ = true; rfl)
    | with_reducible exact rfl
    | (with_reducible apply Touches.via; on_goal 1 => with_reducible apply State.cancelWalk_touches)
  all_goals try first
    | with_reducible refine Touches.on_voices ?_ ?_
    | with_reducible refine Touches.on_intake ?_ ?_
  all_goals repeat' first
    | with_reducible exact Touches.refl _ _
    | (show Blocks.within _ _ = true; rfl)
    | with_reducible exact rfl
    | (with_reducible apply Touches.via; on_goal 1 => with_reducible apply State.cancelWalk_touches)
  all_goals try first
    | with_reducible refine Touches.on_voices ?_ ?_
    | with_reducible refine Touches.on_intake ?_ ?_
  all_goals repeat' first
    | with_reducible exact Touches.refl _ _
    | (show Blocks.within _ _ = true; rfl)
    | with_reducible exact rfl
    | (with_reducible apply Touches.via; on_goal 1 => with_reducible apply State.cancelWalk_touches)
  all_goals (constructor <;> intro e <;> first | (cases e; done) | with_reducible rfl)

theorem State.admitHead_touches (s : State) (r : EventRecord) :
    Touches { voices := true, intake := true, sched := true, port := true } s (s.admitHead r) := by
  unfold State.admitHead
  repeat' first
    | with_reducible exact Touches.refl _ _
    | (show Blocks.within _ _ = true; rfl)
    | with_reducible exact rfl
    | (with_reducible apply Touches.via; on_goal 1 => with_reducible first
      | apply State.bump_touches | apply State.admitMarker_touches | apply State.proceed_touches
      | apply State.touch_touches | apply State.popIntake_touches)
    | split
  all_goals (constructor <;> intro e <;> first | (cases e; done) | with_reducible rfl)

theorem State.testHead_touches (s : State) :
    Touches { voices := true, intake := true, sched := true, port := true } s (s.testHead) := by
  unfold State.testHead
  repeat' first
    | with_reducible exact Touches.refl _ _
    | (show Blocks.within _ _ = true; rfl)
    | (with_reducible apply Touches.via; on_goal 1 => with_reducible apply State.admitHead_touches)
    | split

theorem State.summarise_touches (s : State) (f : TakeSummary → TakeSummary) :
    Touches { capture := true } s (s.summarise f) := by
  unfold State.summarise
  repeat' first
    | with_reducible exact Touches.refl _ _
    | (show Blocks.within _ _ = true; rfl)
    | with_reducible exact rfl
    | split
  all_goals (constructor <;> intro e <;> first | (cases e; done) | with_reducible rfl)

theorem State.setEvents_touches (s : State) (es : List CaptureEvent) :
    Touches { capture := true } s (s.setEvents es) := by
  unfold State.setEvents
  repeat' first
    | with_reducible exact Touches.refl _ _
    | (show Blocks.within _ _ = true; rfl)
    | with_reducible exact rfl
  all_goals (constructor <;> intro e <;> first | (cases e; done) | with_reducible rfl)

theorem State.markGap_touches (s : State) (e : CaptureEvent) :
    Touches { capture := true } s (s.markGap e) := by
  unfold State.markGap
  repeat' first
    | with_reducible exact Touches.refl _ _
    | (show Blocks.within _ _ = true; rfl)
    | with_reducible exact rfl
    | (with_reducible apply Touches.via; on_goal 1 => with_reducible apply State.summarise_touches)
    | split
  all_goals (constructor <;> intro e <;> first | (cases e; done) | with_reducible rfl)

theorem State.takeEvent_touches (s : State) (e : CaptureEvent) :
    Touches { capture := true, port := true } s (s.takeEvent e) := by
  unfold State.takeEvent
  repeat' first
    | with_reducible exact Touches.refl _ _
    | (show Blocks.within _ _ = true; rfl)
    | with_reducible exact rfl
    | (with_reducible apply Touches.via; on_goal 1 => with_reducible first
      | apply State.bump_touches | apply State.summarise_touches | apply State.setEvents_touches
      | apply State.markGap_touches)
    | split
  all_goals (constructor <;> intro e <;> first | (cases e; done) | with_reducible rfl)

theorem State.sendEvents_touches (s : State) (n : Nat) :
    Touches { capture := true, port := true } s (s.sendEvents n) := by
  unfold State.sendEvents
  repeat' first
    | with_reducible exact Touches.refl _ _
    | (show Blocks.within _ _ = true; rfl)
    | with_reducible exact rfl
    | fail_if_no_progress extract_lets
    | (with_reducible apply Touches.via; on_goal 1 => with_reducible apply State.hand_touches)
    | (with_reducible apply Touches.foldlOn; on_goal 2 => intro s a)
  all_goals (constructor <;> intro e <;> first | (cases e; done) | with_reducible rfl)

theorem State.releaseFrames_touches (fuel : Nat) (s : State) :
    Touches { capture := true, port := true } s (State.releaseFrames fuel s) := by
  induction fuel generalizing s with
  | zero => exact Touches.refl _ _
  | succ fuel ih =>
    unfold State.releaseFrames
    dsimp only
    split
    · exact Touches.refl _ _
    · split
      · exact (State.sendEvents_touches ..).seq (ih _)
      · exact Touches.refl _ _

theorem State.captureRelease_touches (s : State) :
    Touches { capture := true, port := true } s (s.captureRelease) := by
  unfold State.captureRelease
  repeat' first
    | with_reducible exact Touches.refl _ _
    | (show Blocks.within _ _ = true; rfl)
    | (with_reducible apply Touches.via; on_goal 1 => with_reducible first
      | apply State.releaseFrames_touches | apply State.releaseFrames_touches)
    | split

theorem State.flushFrames_touches (fuel : Nat) (s : State) :
    Touches { capture := true, port := true } s (State.flushFrames fuel s) := by
  induction fuel generalizing s with
  | zero => exact Touches.refl _ _
  | succ fuel ih =>
    unfold State.flushFrames
    split
    · exact Touches.refl _ _
    · exact (State.sendEvents_touches ..).seq (ih _)

theorem State.flush_touches (s : State) (cause : StopCause) :
    Touches { capture := true, port := true } s (s.flush cause) := by
  unfold State.flush
  repeat' first
    | with_reducible exact Touches.refl _ _
    | (show Blocks.within _ _ = true; rfl)
    | with_reducible exact rfl
    | fail_if_no_progress extract_lets
    | (with_reducible apply Touches.via; on_goal 1 => with_reducible first
      | apply State.hand_touches | apply State.report_touches | apply State.flushFrames_touches
      | apply State.flushFrames_touches)
  all_goals try first
    | with_reducible refine Touches.on_capture ?_ ?_
    | with_reducible refine Touches.on_port ?_ ?_
  all_goals repeat' first
    | with_reducible exact Touches.refl _ _
    | (show Blocks.within _ _ = true; rfl)
    | with_reducible exact rfl
    | fail_if_no_progress extract_lets
    | (with_reducible apply Touches.via; on_goal 1 => with_reducible first
      | apply State.hand_touches | apply State.report_touches | apply State.flushFrames_touches
      | apply State.flushFrames_touches)
  all_goals try first
    | with_reducible refine Touches.on_capture ?_ ?_
    | with_reducible refine Touches.on_port ?_ ?_
  all_goals repeat' first
    | with_reducible exact Touches.refl _ _
    | (show Blocks.within _ _ = true; rfl)
    | with_reducible exact rfl
    | fail_if_no_progress extract_lets
    | (with_reducible apply Touches.via; on_goal 1 => with_reducible first
      | apply State.hand_touches | apply State.report_touches | apply State.flushFrames_touches
      | apply State.flushFrames_touches)
  all_goals (constructor <;> intro e <;> first | (cases e; done) | with_reducible rfl)

theorem State.openTake_touches (s : State) :
    Touches { capture := true } s (s.openTake) := by
  unfold State.openTake
  repeat' first
    | with_reducible exact Touches.refl _ _
    | (show Blocks.within _ _ = true; rfl)
    | with_reducible exact rfl
  all_goals (constructor <;> intro e <;> first | (cases e; done) | with_reducible rfl)

theorem State.trackerCount_touches (s : State) (c : Counter) :
    Touches { capture := true, port := true } s (s.trackerCount c) := by
  unfold State.trackerCount
  repeat' first
    | with_reducible exact Touches.refl _ _
    | (show Blocks.within _ _ = true; rfl)
    | with_reducible exact rfl
    | fail_if_no_progress extract_lets
    | (with_reducible apply Touches.via; on_goal 1 => with_reducible first
      | apply State.bump_touches | apply State.summarise_touches)
    | split
  all_goals (constructor <;> intro e <;> first | (cases e; done) | with_reducible rfl)

theorem State.handKeyEvent_touches (s : State) (k : Nat) (kind : CaptureKind) (value raw : Nat) :
    Touches { tracker := true, capture := true, port := true } s (s.handKeyEvent k kind value raw) := by
  unfold State.handKeyEvent
  repeat' first
    | with_reducible exact Touches.refl _ _
    | (show Blocks.within _ _ = true; rfl)
    | with_reducible exact rfl
    | fail_if_no_progress extract_lets
    | (with_reducible apply Touches.via; on_goal 1 => with_reducible first
      | apply State.setTracker_touches | apply State.takeEvent_touches)
    | split
    | (with_reducible apply Touches.ite <;> intro _)
  all_goals (constructor <;> intro e <;> first | (cases e; done) | with_reducible rfl)

theorem State.releaseKey_touches (s : State) (k raw : Nat) :
    Touches { tracker := true, capture := true, port := true } s (s.releaseKey k raw) := by
  unfold State.releaseKey
  repeat' first
    | with_reducible exact Touches.refl _ _
    | (show Blocks.within _ _ = true; rfl)
    | with_reducible exact rfl
    | fail_if_no_progress extract_lets
    | (with_reducible apply Touches.via; on_goal 1 => with_reducible first
      | apply State.setTracker_touches | apply State.handKeyEvent_touches)
    | split
    | (with_reducible apply Touches.ite <;> intro _)
  all_goals (constructor <;> intro e <;> first | (cases e; done) | with_reducible rfl)

theorem State.closeKey_touches (s : State) (into : TrackState) (k : Nat) :
    Touches { tracker := true, capture := true, port := true } s (s.closeKey into k) := by
  unfold State.closeKey
  repeat' first
    | with_reducible exact Touches.refl _ _
    | (show Blocks.within _ _ = true; rfl)
    | with_reducible exact rfl
    | fail_if_no_progress extract_lets
    | (with_reducible apply Touches.via; on_goal 1 => with_reducible first
      | apply State.setTracker_touches | apply State.releaseKey_touches)
    | split
  all_goals (constructor <;> intro e <;> first | (cases e; done) | with_reducible rfl)

theorem State.closeKeys_touches (s : State) (keys : List Nat) :
    Touches { tracker := true, capture := true, port := true } s (s.closeKeys keys) := by
  unfold State.closeKeys
  repeat' first
    | with_reducible exact Touches.refl _ _
    | (show Blocks.within _ _ = true; rfl)
    | (with_reducible apply Touches.via; on_goal 1 => with_reducible apply State.closeKey_touches)
    | (with_reducible apply Touches.foldlOn; on_goal 2 => intro s a)
    | split

theorem State.startTracker_touches (s : State) :
    Touches { tracker := true } s (s.startTracker) := by
  unfold State.startTracker
  repeat' first
    | with_reducible exact Touches.refl _ _
    | (show Blocks.within _ _ = true; rfl)
    | with_reducible exact rfl
  all_goals (constructor <;> intro e <;> first | (cases e; done) | with_reducible rfl)

theorem State.markIncomplete_touches (s : State) :
    Touches { capture := true } s (s.markIncomplete) := by
  unfold State.markIncomplete
  repeat' first
    | with_reducible exact Touches.refl _ _
    | (show Blocks.within _ _ = true; rfl)
    | with_reducible exact rfl
    | (with_reducible apply Touches.via; on_goal 1 => with_reducible apply State.summarise_touches)
    | split
  all_goals (constructor <;> intro e <;> first | (cases e; done) | with_reducible rfl)

theorem State.outcome_touches (s : State) (o : StrikeOutcome) :
    Touches { port := true } s (s.outcome o) := by
  unfold State.outcome
  repeat' first
    | with_reducible exact Touches.refl _ _
    | (show Blocks.within _ _ = true; rfl)
    | (with_reducible apply Touches.via; on_goal 1 => with_reducible apply State.report_touches)
    | split

theorem State.openMonitor_touches (s : State) (k strike velocity : Nat) (via : Via) :
    Touches { duplex := true, port := true } s (s.openMonitor k strike velocity via) := by
  unfold State.openMonitor
  dsimp only
  repeat' first
    | with_reducible exact Touches.refl _ _
    | (show Blocks.within _ _ = true; rfl)
    | fail_if_no_progress extract_lets
    | (with_reducible apply Touches.via; on_goal 1 => with_reducible first
      | apply State.setWindow_touches | apply State.outcome_touches)
    | split
    | (with_reducible apply Touches.ite <;> intro _)

theorem State.openSequencer_touches (s : State) (k onset : Nat) :
    Touches { duplex := true } s (s.openSequencer k onset) := by
  unfold State.openSequencer
  repeat' first
    | with_reducible exact Touches.refl _ _
    | (show Blocks.within _ _ = true; rfl)
    | (with_reducible apply Touches.via; on_goal 1 => with_reducible apply State.setWindow_touches)

theorem State.clearWindows_touches (s : State) :
    Touches { duplex := true } s (s.clearWindows) := by
  unfold State.clearWindows
  repeat' first
    | with_reducible exact Touches.refl _ _
    | (show Blocks.within _ _ = true; rfl)
    | with_reducible exact rfl
  all_goals (constructor <;> intro e <;> first | (cases e; done) | with_reducible rfl)

theorem State.removeWindows_touches (s : State) (keys : List Nat) :
    Touches { duplex := true } s (s.removeWindows keys) := by
  unfold State.removeWindows
  repeat' first
    | with_reducible exact Touches.refl _ _
    | (show Blocks.within _ _ = true; rfl)
    | (with_reducible apply Touches.via; on_goal 1 => with_reducible apply State.setWindow_touches)
    | (with_reducible apply Touches.foldlOn; on_goal 2 => intro s a)

theorem State.adapt_touches (s : State) (v : Via) (step : Int) :
    Touches { mem := true, voices := true } s (s.adapt v step) := by
  unfold State.adapt
  repeat' first
    | with_reducible exact Touches.refl _ _
    | (show Blocks.within _ _ = true; rfl)
    | (with_reducible apply Touches.via; on_goal 1 => with_reducible apply State.writeTrim_touches)
    | split

theorem State.conclude_touches (s : State) (k : Nat) (w : Window) (commanded : Nat) (via : Via)
    (result : StrikeResult) (measured : Option Nat) (timing : Option Int) (step : Int) :
    Touches { mem := true, voices := true, port := true } s
      (s.conclude k w commanded via result measured timing step) := by
  unfold State.conclude
  repeat' first
    | with_reducible exact Touches.refl _ _
    | (show Blocks.within _ _ = true; rfl)
    | (with_reducible apply Touches.via; on_goal 1 => with_reducible first
      | apply State.outcome_touches | apply State.adapt_touches)
    | split

theorem State.verify_touches (s : State) (k : Nat) (w : Window) (commanded : Nat) (via : Via) (measured stamp : Nat) :
    Touches { mem := true, voices := true, duplex := true, port := true } s
      (s.verify k w commanded via measured stamp) := by
  unfold State.verify
  repeat' first
    | with_reducible exact Touches.refl _ _
    | (show Blocks.within _ _ = true; rfl)
    | with_reducible exact rfl
    | fail_if_no_progress extract_lets
    | (with_reducible apply Touches.via; on_goal 1 => with_reducible first
      | apply State.setWindow_touches | apply State.setYield_touches | apply State.conclude_touches)
  all_goals (constructor <;> intro e <;> first | (cases e; done) | with_reducible rfl)

theorem State.missed_touches (s : State) (k : Nat) (w : Window) (commanded : Nat) (via : Via) :
    Touches { mem := true, voices := true, duplex := true, port := true } s (s.missed k w commanded via) := by
  unfold State.missed
  repeat' first
    | with_reducible exact Touches.refl _ _
    | (show Blocks.within _ _ = true; rfl)
    | (with_reducible apply Touches.via; on_goal 1 => with_reducible first
      | apply State.setWindow_touches | apply State.conclude_touches)

theorem State.contend_touches (s : State) (k : Nat) :
    Touches { sched := true, duplex := true, port := true } s (s.contend k) := by
  unfold State.contend
  repeat' first
    | with_reducible exact Touches.refl _ _
    | (show Blocks.within _ _ = true; rfl)
    | fail_if_no_progress extract_lets
    | (with_reducible apply Touches.via; on_goal 1 => with_reducible first
      | apply State.setWindow_touches | apply State.setYield_touches | apply State.bump_touches
      | apply State.withdraw_touches)

theorem State.endYield_touches (s : State) (k : Nat) :
    Touches { sched := true, duplex := true } s (s.endYield k) := by
  unfold State.endYield
  repeat' first
    | with_reducible exact Touches.refl _ _
    | (show Blocks.within _ _ = true; rfl)
    | with_reducible exact rfl
    | (with_reducible apply Touches.via; on_goal 1 => with_reducible first
      | apply State.setYield_touches | apply State.redecide_touches)
  all_goals (constructor <;> intro e <;> first | (cases e; done) | with_reducible rfl)

theorem State.restKey_touches (s : State) (readable : Bool) (k : Nat) :
    Touches { sched := true, duplex := true } s (s.restKey readable k) := by
  unfold State.restKey
  repeat' first
    | with_reducible exact Touches.refl _ _
    | (show Blocks.within _ _ = true; rfl)
    | with_reducible exact rfl
    | fail_if_no_progress extract_lets
    | (with_reducible apply Touches.via; on_goal 1 => with_reducible first
      | apply State.setYield_touches | apply State.endYield_touches)
    | split
  all_goals (constructor <;> intro e <;> first | (cases e; done) | with_reducible rfl)

theorem State.setJob_touches (s : State) (c : CurrentJob) :
    Touches { calib := true } s (s.setJob c) := by
  unfold State.setJob
  repeat' first
    | with_reducible exact Touches.refl _ _
    | (show Blocks.within _ _ = true; rfl)
    | with_reducible exact rfl
  all_goals (constructor <;> intro e <;> first | (cases e; done) | with_reducible rfl)

theorem State.leaveJob_touches (s : State) :
    Touches { calib := true } s (s.leaveJob) := by
  unfold State.leaveJob
  repeat' first
    | with_reducible exact Touches.refl _ _
    | (show Blocks.within _ _ = true; rfl)
    | with_reducible exact rfl
  all_goals (constructor <;> intro e <;> first | (cases e; done) | with_reducible rfl)

theorem State.removeStrike_touches (s : State) (k : Nat) :
    Touches { sched := true } s (s.removeStrike k) := by
  unfold State.removeStrike
  repeat' first
    | with_reducible exact Touches.refl _ _
    | (show Blocks.within _ _ = true; rfl)
    | with_reducible exact rfl
    | fail_if_no_progress extract_lets
    | (with_reducible apply Touches.via; on_goal 1 => with_reducible first
      | apply State.setDrive_touches | apply State.setEntries_touches | apply State.redecide_touches)
  all_goals (constructor <;> intro e <;> first | (cases e; done) | with_reducible rfl)

theorem State.endStrike_touches (s : State) (c : CurrentJob) :
    Touches { sched := true, duplex := true } s (s.endStrike c) := by
  unfold State.endStrike
  repeat' first
    | with_reducible exact Touches.refl _ _
    | (show Blocks.within _ _ = true; rfl)
    | (with_reducible apply Touches.via; on_goal 1 => with_reducible first
      | apply State.setWindow_touches | apply State.removeStrike_touches)
    | split

theorem State.failJob_touches (s : State) (c : CurrentJob) (reason : JobReason) :
    Touches { sched := true, duplex := true, calib := true, port := true } s (s.failJob c reason) := by
  unfold State.failJob
  repeat' first
    | with_reducible exact Touches.refl _ _
    | (show Blocks.within _ _ = true; rfl)
    | (with_reducible apply Touches.via; on_goal 1 => with_reducible first
      | apply State.report_touches | apply State.leaveJob_touches | apply State.endStrike_touches)

theorem State.failJobIf_touches (s : State) (p : CurrentJob → Bool) (reason : JobReason) :
    Touches { sched := true, duplex := true, calib := true, port := true } s (s.failJobIf p reason) := by
  unfold State.failJobIf
  repeat' first
    | with_reducible exact Touches.refl _ _
    | (show Blocks.within _ _ = true; rfl)
    | (with_reducible apply Touches.via; on_goal 1 => with_reducible apply State.failJob_touches)
    | split

theorem State.abortJobs_touches (s : State) (cause : AbortCause) :
    Touches { sched := true, duplex := true, calib := true, port := true } s (s.abortJobs cause) := by
  unfold State.abortJobs
  dsimp only
  repeat' first
    | with_reducible exact Touches.refl _ _
    | (show Blocks.within _ _ = true; rfl)
    | with_reducible exact rfl
    | fail_if_no_progress extract_lets
    | (with_reducible apply Touches.via; on_goal 1 => with_reducible first
      | apply State.report_touches | apply State.endStrike_touches)
    | split
    | (with_reducible apply Touches.ite <;> intro _)
  all_goals try first
    | with_reducible refine Touches.on_sched ?_ ?_
    | with_reducible refine Touches.on_duplex ?_ ?_
    | with_reducible refine Touches.on_calib ?_ ?_
    | with_reducible refine Touches.on_port ?_ ?_
  all_goals repeat' first
    | with_reducible exact Touches.refl _ _
    | (show Blocks.within _ _ = true; rfl)
    | with_reducible exact rfl
    | fail_if_no_progress extract_lets
    | (with_reducible apply Touches.via; on_goal 1 => with_reducible first
      | apply State.report_touches | apply State.endStrike_touches)
    | split
    | (with_reducible apply Touches.ite <;> intro _)
  all_goals try first
    | with_reducible refine Touches.on_sched ?_ ?_
    | with_reducible refine Touches.on_duplex ?_ ?_
    | with_reducible refine Touches.on_calib ?_ ?_
    | with_reducible refine Touches.on_port ?_ ?_
  all_goals repeat' first
    | with_reducible exact Touches.refl _ _
    | (show Blocks.within _ _ = true; rfl)
    | with_reducible exact rfl
    | fail_if_no_progress extract_lets
    | (with_reducible apply Touches.via; on_goal 1 => with_reducible first
      | apply State.report_touches | apply State.endStrike_touches)
    | split
    | (with_reducible apply Touches.ite <;> intro _)
  all_goals (constructor <;> intro e <;> first | (cases e; done) | with_reducible rfl)

theorem State.askStrike_touches (s : State) (c : CurrentJob) :
    Touches { sched := true, duplex := true, calib := true, port := true } s (s.askStrike c) := by
  unfold State.askStrike
  repeat' first
    | with_reducible exact Touches.refl _ _
    | (show Blocks.within _ _ = true; rfl)
    | with_reducible exact rfl
    | fail_if_no_progress extract_lets
    | (with_reducible apply Touches.via; on_goal 1 => with_reducible first
      | apply State.admitCalibration_touches | apply State.setJob_touches | apply State.failJob_touches)
    | split
  all_goals (constructor <;> intro e <;> first | (cases e; done) | with_reducible rfl)

theorem State.retryStrike_touches (s : State) :
    Touches { sched := true, duplex := true, calib := true, port := true } s (s.retryStrike) := by
  unfold State.retryStrike
  repeat' first
    | with_reducible exact Touches.refl _ _
    | (show Blocks.within _ _ = true; rfl)
    | (with_reducible apply Touches.via; on_goal 1 => with_reducible apply State.askStrike_touches)
    | split

theorem State.startJob_touches (s : State) :
    Touches { sched := true, duplex := true, calib := true, port := true } s (s.startJob) := by
  unfold State.startJob
  repeat' first
    | with_reducible exact Touches.refl _ _
    | (show Blocks.within _ _ = true; rfl)
    | with_reducible exact rfl
    | fail_if_no_progress extract_lets
    | (with_reducible apply Touches.via; on_goal 1 => with_reducible apply State.askStrike_touches)
    | split
  all_goals (constructor <;> intro e <;> first | (cases e; done) | with_reducible rfl)

theorem State.finishSweep_touches (s : State) (c : CurrentJob) :
    Touches { mem := true, voices := true, calib := true, port := true } s (s.finishSweep c) := by
  unfold State.finishSweep
  repeat' first
    | with_reducible exact Touches.refl _ _
    | (show Blocks.within _ _ = true; rfl)
    | fail_if_no_progress extract_lets
    | (with_reducible apply Touches.via; on_goal 1 => with_reducible first
      | apply State.report_touches | apply State.commitPage_touches | apply State.leaveJob_touches)
    | split
    | (with_reducible apply Touches.ite <;> intro _)

theorem State.advanceJob_touches (s : State) (c : CurrentJob) :
    Touches { mem := true, voices := true, sched := true, duplex := true, calib := true, port := true } s
      (s.advanceJob c) := by
  unfold State.advanceJob
  repeat' first
    | with_reducible exact Touches.refl _ _
    | (show Blocks.within _ _ = true; rfl)
    | with_reducible exact rfl
    | fail_if_no_progress extract_lets
    | (with_reducible apply Touches.via; on_goal 1 => with_reducible first
      | apply State.askStrike_touches | apply State.finishSweep_touches)
    | split
  all_goals (constructor <;> intro e <;> first | (cases e; done) | with_reducible rfl)

theorem State.measure_touches (s : State) (k velocity strikeTime : Nat) :
    Touches { mem := true, voices := true, sched := true, duplex := true, calib := true, port := true } s
      (s.measure k velocity strikeTime) := by
  unfold State.measure
  repeat' first
    | with_reducible exact Touches.refl _ _
    | (show Blocks.within _ _ = true; rfl)
    | with_reducible exact rfl
    | fail_if_no_progress extract_lets
    | (with_reducible apply Touches.via; on_goal 1 => with_reducible first
      | apply State.setWindow_touches | apply State.advanceJob_touches)
    | split
  all_goals (constructor <;> intro e <;> first | (cases e; done) | with_reducible rfl)

theorem State.noCrossing_touches (s : State) (k : Nat) :
    Touches { mem := true, voices := true, sched := true, duplex := true, calib := true, port := true } s
      (s.noCrossing k) := by
  unfold State.noCrossing
  repeat' first
    | with_reducible exact Touches.refl _ _
    | (show Blocks.within _ _ = true; rfl)
    | fail_if_no_progress extract_lets
    | (with_reducible apply Touches.via; on_goal 1 => with_reducible first
      | apply State.setWindow_touches | apply State.advanceJob_touches)
    | split

theorem State.calibrationDispatched_touches (s : State) (k onset : Nat) :
    Touches { sched := true, duplex := true, calib := true, port := true } s (s.calibrationDispatched k onset) := by
  unfold State.calibrationDispatched
  repeat' first
    | with_reducible exact Touches.refl _ _
    | (show Blocks.within _ _ = true; rfl)
    | with_reducible exact rfl
    | fail_if_no_progress extract_lets
    | (with_reducible apply Touches.via; on_goal 1 => with_reducible first
      | apply State.openSequencer_touches | apply State.setJob_touches | apply State.failJob_touches)
    | split
  all_goals (constructor <;> intro e <;> first | (cases e; done) | with_reducible rfl)

theorem State.judgeCapture_touches (s : State) (k : Nat) (kind : CaptureKind) (value raw : Nat) :
    Touches { tracker := true, capture := true, port := true } s (s.judgeCapture k kind value raw) := by
  unfold State.judgeCapture
  repeat' first
    | with_reducible exact Touches.refl _ _
    | (show Blocks.within _ _ = true; rfl)
    | (with_reducible apply Touches.via; on_goal 1 => with_reducible apply State.handKeyEvent_touches)
    | split

theorem State.routeStrike_touches (s : State) (k velocity stamp strikeTime : Nat) :
    Touches { tracker := true, capture := true, mem := true, voices := true, sched := true, duplex := true,
              calib := true, port := true } s (s.routeStrike k velocity stamp strikeTime) := by
  unfold State.routeStrike
  repeat' first
    | with_reducible exact Touches.refl _ _
    | (show Blocks.within _ _ = true; rfl)
    | with_reducible exact rfl
    | fail_if_no_progress extract_lets
    | (with_reducible apply Touches.via; on_goal 1 => with_reducible first
      | apply State.setTracker_touches | apply State.bump_touches | apply State.verify_touches
      | apply State.contend_touches | apply State.measure_touches | apply State.judgeCapture_touches)
    | split
  all_goals (constructor <;> intro e <;> first | (cases e; done) | with_reducible rfl)

theorem State.krOut_touches (s : State) (k : Nat) :
    Touches { tracker := true, sched := true, duplex := true, port := true } s (s.krOut k) := by
  unfold State.krOut
  repeat' first
    | with_reducible exact Touches.refl _ _
    | (show Blocks.within _ _ = true; rfl)
    | with_reducible exact rfl
    | fail_if_no_progress extract_lets
    | (with_reducible apply Touches.via; on_goal 1 => with_reducible first
      | apply State.setTracker_touches | apply State.contend_touches)
    | split
    | (with_reducible apply Touches.ite <;> intro _)
  all_goals (constructor <;> intro e <;> first | (cases e; done) | with_reducible rfl)

theorem State.krIn_touches (s : State) (k stamp : Nat) :
    Touches { tracker := true, capture := true, port := true } s (s.krIn k stamp) := by
  unfold State.krIn
  repeat' first
    | with_reducible exact Touches.refl _ _
    | (show Blocks.within _ _ = true; rfl)
    | with_reducible exact rfl
    | fail_if_no_progress extract_lets
    | (with_reducible apply Touches.via; on_goal 1 => with_reducible first
      | apply State.setTracker_touches | apply State.releaseKey_touches)
    | split
  all_goals (constructor <;> intro e <;> first | (cases e; done) | with_reducible rfl)

theorem State.kdDown_touches (s : State) (k stamp : Nat) :
    Touches { tracker := true, capture := true, port := true } s (s.kdDown k stamp) := by
  unfold State.kdDown
  repeat' first
    | with_reducible exact Touches.refl _ _
    | (show Blocks.within _ _ = true; rfl)
    | with_reducible exact rfl
    | fail_if_no_progress extract_lets
    | (with_reducible apply Touches.via; on_goal 1 => with_reducible first
      | apply State.setTracker_touches | apply State.judgeCapture_touches)
    | split
  all_goals (constructor <;> intro e <;> first | (cases e; done) | with_reducible rfl)

theorem State.h1Up_touches (s : State) (k : Nat) (at' : Instant) :
    Touches { tracker := true } s (s.h1Up k at') := by
  unfold State.h1Up
  repeat' first
    | with_reducible exact Touches.refl _ _
    | (show Blocks.within _ _ = true; rfl)
    | with_reducible exact rfl
    | fail_if_no_progress extract_lets
    | (with_reducible apply Touches.via; on_goal 1 => with_reducible apply State.setTracker_touches)
    | split
  all_goals (constructor <;> intro e <;> first | (cases e; done) | with_reducible rfl)

theorem State.h1Down_touches (s : State) (k : Nat) :
    Touches { tracker := true } s (s.h1Down k) := by
  unfold State.h1Down
  repeat' first
    | with_reducible exact Touches.refl _ _
    | (show Blocks.within _ _ = true; rfl)
    | with_reducible exact rfl
    | fail_if_no_progress extract_lets
    | (with_reducible apply Touches.via; on_goal 1 => with_reducible apply State.setTracker_touches)
    | split
  all_goals (constructor <;> intro e <;> first | (cases e; done) | with_reducible rfl)

theorem State.endStroke_touches (s : State) (k : Nat) (at' : Instant) :
    Touches { tracker := true, capture := true, mem := true, voices := true, sched := true, duplex := true,
              calib := true, port := true } s (s.endStroke k at') := by
  unfold State.endStroke
  repeat' first
    | with_reducible exact Touches.refl _ _
    | (show Blocks.within _ _ = true; rfl)
    | with_reducible exact rfl
    | fail_if_no_progress extract_lets
    | (with_reducible apply Touches.via; on_goal 1 => with_reducible first
      | apply State.setTracker_touches | apply State.bumpIf_touches | apply State.trackerCount_touches
      | apply State.routeStrike_touches)
    | split
    | (with_reducible apply Touches.ite <;> intro _)
  all_goals (constructor <;> intro e <;> first | (cases e; done) | with_reducible rfl)

theorem State.h2Up_touches (s : State) (k : Nat) (at' : Instant) :
    Touches { tracker := true, capture := true, mem := true, voices := true, sched := true, duplex := true,
              calib := true, port := true } s (s.h2Up k at') := by
  unfold State.h2Up
  repeat' first
    | with_reducible exact Touches.refl _ _
    | (show Blocks.within _ _ = true; rfl)
    | (with_reducible apply Touches.via; on_goal 1 => with_reducible first
      | apply State.trackerCount_touches | apply State.endStroke_touches)
    | split

theorem State.abandon_touches (s : State) (at' : Instant) (k : Nat) :
    Touches { tracker := true } s (s.abandon at' k) := by
  unfold State.abandon
  repeat' first
    | with_reducible exact Touches.refl _ _
    | (show Blocks.within _ _ = true; rfl)
    | with_reducible exact rfl
    | fail_if_no_progress extract_lets
    | (with_reducible apply Touches.via; on_goal 1 => with_reducible apply State.setTracker_touches)
    | split
  all_goals (constructor <;> intro e <;> first | (cases e; done) | with_reducible rfl)

theorem State.takeCrossing_touches (s : State) (cycle : Nat) (x : Crossing) :
    Touches { tracker := true, capture := true, mem := true, voices := true, sched := true, duplex := true,
              calib := true, port := true } s (s.takeCrossing cycle x) := by
  unfold State.takeCrossing
  repeat' first
    | with_reducible exact Touches.refl _ _
    | (show Blocks.within _ _ = true; rfl)
    | fail_if_no_progress extract_lets
    | (with_reducible apply Touches.via; on_goal 1 => with_reducible first
      | apply State.krOut_touches | apply State.krIn_touches | apply State.kdDown_touches | apply State.h1Up_touches
      | apply State.h1Down_touches | apply State.h2Up_touches | apply State.abandon_touches)
    | split

theorem State.judgeCrossing_touches (s : State) (cycle : Nat) (e : RosterEntry) (x : Crossing) :
    Touches { tracker := true, capture := true, mem := true, voices := true, sched := true, duplex := true,
              calib := true, port := true } s (s.judgeCrossing cycle e x) := by
  unfold State.judgeCrossing
  repeat' first
    | with_reducible exact Touches.refl _ _
    | (show Blocks.within _ _ = true; rfl)
    | fail_if_no_progress extract_lets
    | (with_reducible apply Touches.via; on_goal 1 => with_reducible first
      | apply State.trackerCount_touches | apply State.takeCrossing_touches)
    | split

theorem State.takePedal_touches (s : State) (cycle q raw : Nat) :
    Touches { tracker := true, capture := true, port := true } s (s.takePedal cycle q raw) := by
  unfold State.takePedal
  repeat' first
    | with_reducible exact Touches.refl _ _
    | (show Blocks.within _ _ = true; rfl)
    | with_reducible exact rfl
    | fail_if_no_progress extract_lets
    | (with_reducible apply Touches.via; on_goal 1 => with_reducible first
      | apply State.setPedal_touches | apply State.takeEvent_touches)
    | split
  all_goals (constructor <;> intro e <;> first | (cases e; done) | with_reducible rfl)

theorem State.takeSection_touches (s : State) (cycle : Nat) (sections : Vector (Option SectionReport) 8)
    (b : Nat × RosterEntry) :
    Touches { tracker := true, capture := true, mem := true, voices := true, sched := true, duplex := true,
              calib := true, port := true } s (s.takeSection cycle sections b) := by
  unfold State.takeSection
  repeat' first
    | with_reducible exact Touches.refl _ _
    | (show Blocks.within _ _ = true; rfl)
    | (with_reducible apply Touches.via; on_goal 1 => with_reducible apply State.judgeCrossing_touches)
    | (with_reducible apply Touches.foldlOn; on_goal 2 => intro s a)
    | split

theorem State.takeFlag_touches (s : State) (sections : Vector (Option SectionReport) 8) (b : Nat × RosterEntry) :
    Touches { capture := true, port := true } s (s.takeFlag sections b) := by
  unfold State.takeFlag
  repeat' first
    | with_reducible exact Touches.refl _ _
    | (show Blocks.within _ _ = true; rfl)
    | (with_reducible apply Touches.via; on_goal 1 => with_reducible apply State.trackerCount_touches)
    | split

theorem State.takePedals_touches (s : State) (cycle : Nat) (sections : Vector (Option SectionReport) 8)
    (b : Nat × RosterEntry) :
    Touches { tracker := true, capture := true, port := true } s (s.takePedals cycle sections b) := by
  unfold State.takePedals
  repeat' first
    | with_reducible exact Touches.refl _ _
    | (show Blocks.within _ _ = true; rfl)
    | (with_reducible apply Touches.via; on_goal 1 => with_reducible apply State.takePedal_touches)
    | (with_reducible apply Touches.foldlOn; on_goal 2 => intro s a)
    | split

theorem State.abandonAll_touches (s : State) (cycle : Nat) :
    Touches { tracker := true } s (s.abandonAll cycle) := by
  unfold State.abandonAll
  repeat' first
    | with_reducible exact Touches.refl _ _
    | (show Blocks.within _ _ = true; rfl)
    | (with_reducible apply Touches.via; on_goal 1 => with_reducible apply State.abandon_touches)
    | (with_reducible apply Touches.foldlOn; on_goal 2 => intro s a)

theorem State.handOver_touches (s : State) (cycle : Nat) (sections : Vector (Option SectionReport) 8) :
    Touches { tracker := true, capture := true, mem := true, voices := true, sched := true, duplex := true,
              calib := true, port := true } s (s.handOver cycle sections) := by
  unfold State.handOver
  repeat' first
    | with_reducible exact Touches.refl _ _
    | (show Blocks.within _ _ = true; rfl)
    | fail_if_no_progress extract_lets
    | (with_reducible apply Touches.via; on_goal 1 => with_reducible first
      | apply State.restKey_touches | apply State.takeSection_touches | apply State.takeFlag_touches
      | apply State.takePedals_touches | apply State.abandonAll_touches)
    | (with_reducible apply Touches.foldlOn; on_goal 2 => intro s a)

theorem State.handOverLost_touches (s : State) (cycle : Nat) :
    Touches { tracker := true, capture := true, port := true } s (s.handOverLost cycle) := by
  unfold State.handOverLost
  repeat' first
    | with_reducible exact Touches.refl _ _
    | (show Blocks.within _ _ = true; rfl)
    | fail_if_no_progress extract_lets
    | (with_reducible apply Touches.via; on_goal 1 => with_reducible first
      | apply State.trackerCount_touches | apply State.abandonAll_touches)
    | (with_reducible apply Touches.foldlOn; on_goal 2 => intro s a)
    | split

theorem State.setFault_touches (s : State) (k : Nat) (b : Bool) :
    Touches { link := true } s (s.setFault k b) := by
  unfold State.setFault
  repeat' first
    | with_reducible exact Touches.refl _ _
    | (show Blocks.within _ _ = true; rfl)
    | with_reducible exact rfl
  all_goals (constructor <;> intro e <;> first | (cases e; done) | with_reducible rfl)

theorem State.setSupplyLow_touches (s : State) (b : Nat) (v : Bool) :
    Touches { link := true } s (s.setSupplyLow b v) := by
  unfold State.setSupplyLow
  repeat' first
    | with_reducible exact Touches.refl _ _
    | (show Blocks.within _ _ = true; rfl)
    | with_reducible exact rfl
  all_goals (constructor <;> intro e <;> first | (cases e; done) | with_reducible rfl)

theorem State.setOverTemp_touches (s : State) (b : Nat) (v : Bool) :
    Touches { link := true } s (s.setOverTemp b v) := by
  unfold State.setOverTemp
  repeat' first
    | with_reducible exact Touches.refl _ _
    | (show Blocks.within _ _ = true; rfl)
    | with_reducible exact rfl
  all_goals (constructor <;> intro e <;> first | (cases e; done) | with_reducible rfl)

theorem State.setBlinder_touches (s : State) (k : Nat) (b : Option Nat) :
    Touches { link := true } s (s.setBlinder k b) := by
  unfold State.setBlinder
  repeat' first
    | with_reducible exact Touches.refl _ _
    | (show Blocks.within _ _ = true; rfl)
    | with_reducible exact rfl
  all_goals (constructor <;> intro e <;> first | (cases e; done) | with_reducible rfl)

theorem State.loseDrive_touches (s : State) (b : Nat) :
    Touches { sched := true, duplex := true, calib := true, port := true } s (s.loseDrive b) := by
  unfold State.loseDrive
  repeat' first
    | with_reducible exact Touches.refl _ _
    | (show Blocks.within _ _ = true; rfl)
    | (with_reducible apply Touches.via; on_goal 1 => with_reducible first
      | apply State.unavailable_touches | apply State.failJobIf_touches | apply State.removeWindows_touches)
    | split

theorem State.lowerStation_touches (s : State) (b : Nat) :
    Touches { sched := true, port := true } s (s.lowerStation b) := by
  unfold State.lowerStation
  repeat' first
    | with_reducible exact Touches.refl _ _
    | (show Blocks.within _ _ = true; rfl)
    | (with_reducible apply Touches.via; on_goal 1 => with_reducible apply State.lowerLevels_touches)
    | split

theorem State.coilFault_touches (s : State) (k : Nat) :
    Touches { link := true, sched := true, duplex := true, calib := true, port := true } s (s.coilFault k).1 := by
  unfold State.coilFault
  repeat' first
    | with_reducible exact Touches.refl _ _
    | (show Blocks.within _ _ = true; rfl)
    | with_reducible exact rfl
    | fail_if_no_progress extract_lets
    | (with_reducible apply Touches.via; on_goal 1 => with_reducible first
      | apply State.setWindow_touches | apply State.setYield_touches | apply State.withdraw_touches
      | apply State.failJobIf_touches | apply State.setFault_touches)
    | split
  all_goals (constructor <;> intro e <;> first | (cases e; done) | with_reducible rfl)

theorem State.sensorBlinded_touches (s : State) (b k : Nat) :
    Touches { link := true, tracker := true, capture := true, sched := true, duplex := true, calib := true,
              port := true } s (s.sensorBlinded b k).1 := by
  unfold State.sensorBlinded
  repeat' first
    | with_reducible exact Touches.refl _ _
    | (show Blocks.within _ _ = true; rfl)
    | fail_if_no_progress extract_lets
    | (with_reducible apply Touches.via; on_goal 1 => with_reducible first
      | apply State.setWindow_touches | apply State.closeKey_touches | apply State.failJobIf_touches
      | apply State.setBlinder_touches)
    | split
    | (with_reducible apply Touches.ite <;> intro _)

theorem State.sensorRestored_touches (s : State) (k : Nat) :
    Touches { link := true, tracker := true } s (s.sensorRestored k).1 := by
  unfold State.sensorRestored
  repeat' first
    | with_reducible exact Touches.refl _ _
    | (show Blocks.within _ _ = true; rfl)
    | (with_reducible apply Touches.via; on_goal 1 => with_reducible first
      | apply State.setTracker_touches | apply State.setBlinder_touches)
    | split

theorem State.supplyFalls_touches (s : State) (b : Nat) :
    Touches { link := true, sched := true, duplex := true, calib := true, port := true } s (s.supplyFalls b).1 := by
  unfold State.supplyFalls
  repeat' first
    | with_reducible exact Touches.refl _ _
    | (show Blocks.within _ _ = true; rfl)
    | (with_reducible apply Touches.via; on_goal 1 => with_reducible first
      | apply State.setSupplyLow_touches | apply State.loseDrive_touches)
    | split

theorem State.supplyReturns_touches (s : State) (b : Nat) :
    Touches { link := true } s (s.supplyReturns b).1 := by
  unfold State.supplyReturns
  repeat' first
    | with_reducible exact Touches.refl _ _
    | (show Blocks.within _ _ = true; rfl)
    | (with_reducible apply Touches.via; on_goal 1 => with_reducible apply State.setSupplyLow_touches)
    | split

theorem State.heats_touches (s : State) (b : Nat) :
    Touches { link := true, sched := true, duplex := true, calib := true, port := true } s (s.heats b).1 := by
  unfold State.heats
  repeat' first
    | with_reducible exact Touches.refl _ _
    | (show Blocks.within _ _ = true; rfl)
    | fail_if_no_progress extract_lets
    | (with_reducible apply Touches.via; on_goal 1 => with_reducible first
      | apply State.failJobIf_touches | apply State.setOverTemp_touches | apply State.lowerStation_touches)
    | split
    | (with_reducible apply Touches.ite <;> intro _)

theorem State.cools_touches (s : State) (b : Nat) :
    Touches { link := true } s (s.cools b).1 := by
  unfold State.cools
  repeat' first
    | with_reducible exact Touches.refl _ _
    | (show Blocks.within _ _ = true; rfl)
    | (with_reducible apply Touches.via; on_goal 1 => with_reducible apply State.setOverTemp_touches)
    | split

theorem State.unblind_touches (s : State) (b k : Nat) :
    Touches { link := true, tracker := true } s (s.unblind b k) := by
  unfold State.unblind
  repeat' first
    | with_reducible exact Touches.refl _ _
    | (show Blocks.within _ _ = true; rfl)
    | fail_if_no_progress extract_lets
    | (with_reducible apply Touches.via; on_goal 1 => with_reducible first
      | apply State.setTracker_touches | apply State.setBlinder_touches)
    | split

theorem State.rejoins_touches (s : State) (b : Nat) :
    Touches { link := true, tracker := true } s (s.rejoins b).1 := by
  unfold State.rejoins
  repeat' first
    | with_reducible exact Touches.refl _ _
    | (show Blocks.within _ _ = true; rfl)
    | fail_if_no_progress extract_lets
    | (with_reducible apply Touches.via; on_goal 1 => with_reducible first
      | apply State.setSupplyLow_touches | apply State.setOverTemp_touches | apply State.unblind_touches)
    | (with_reducible apply Touches.foldlOn; on_goal 2 => intro s a)
    | split

theorem State.noticeAction_touches (s : State) (kind : NoticeKind) (n : Notice) :
    Touches { link := true, tracker := true, capture := true, sched := true, duplex := true, calib := true,
              port := true } s (s.noticeAction kind n).1 := by
  unfold State.noticeAction
  repeat' first
    | with_reducible exact Touches.refl _ _
    | (show Blocks.within _ _ = true; rfl)
    | (with_reducible apply Touches.via; on_goal 1 => with_reducible first
      | apply State.coilFault_touches | apply State.sensorBlinded_touches | apply State.sensorRestored_touches
      | apply State.supplyFalls_touches | apply State.supplyReturns_touches | apply State.heats_touches
      | apply State.cools_touches | apply State.rejoins_touches)
    | split

theorem State.acceptNotice_touches (s : State) (cycle : Nat) (n : Notice) :
    Touches { link := true, tracker := true, capture := true, sched := true, duplex := true, calib := true,
              port := true } s (s.acceptNotice cycle n) := by
  unfold State.acceptNotice
  dsimp only
  repeat' first
    | with_reducible exact Touches.refl _ _
    | (show Blocks.within _ _ = true; rfl)
    | fail_if_no_progress extract_lets
    | (with_reducible apply Touches.via; on_goal 1 => with_reducible first
      | apply State.report_touches | apply State.noticeAction_touches)
    | split
    | (with_reducible apply Touches.ite <;> intro _)

theorem State.openGap_touches (s : State) (firstMissing : Nat) :
    Touches { link := true } s (s.openGap firstMissing) := by
  unfold State.openGap
  repeat' first
    | with_reducible exact Touches.refl _ _
    | (show Blocks.within _ _ = true; rfl)
    | with_reducible exact rfl
    | split
  all_goals (constructor <;> intro e <;> first | (cases e; done) | with_reducible rfl)

theorem State.closeGap_touches (s : State) :
    Touches { link := true, capture := true, port := true } s (s.closeGap) := by
  unfold State.closeGap
  repeat' first
    | with_reducible exact Touches.refl _ _
    | (show Blocks.within _ _ = true; rfl)
    | with_reducible exact rfl
    | fail_if_no_progress extract_lets
    | (with_reducible apply Touches.via; on_goal 1 => with_reducible apply State.takeEvent_touches)
    | split
  all_goals (constructor <;> intro e <;> first | (cases e; done) | with_reducible rfl)

theorem State.armPause_touches (s : State) :
    Touches { time := true } s (s.armPause) := by
  unfold State.armPause
  repeat' first
    | with_reducible exact Touches.refl _ _
    | (show Blocks.within _ _ = true; rfl)
    | with_reducible exact rfl
    | split
  all_goals (constructor <;> intro e <;> first | (cases e; done) | with_reducible rfl)

theorem State.leaveLink_touches (s : State) (into : LinkState) :
    Touches { time := true, link := true, tracker := true, capture := true, sched := true, duplex := true,
              calib := true, port := true } s (s.leaveLink into) := by
  unfold State.leaveLink
  repeat' first
    | with_reducible exact Touches.refl _ _
    | (show Blocks.within _ _ = true; rfl)
    | fail_if_no_progress extract_lets
    | (with_reducible apply Touches.via; on_goal 1 => with_reducible first
      | apply State.closeKeys_touches | apply State.clearWindows_touches | apply State.abortJobs_touches
      | apply State.openGap_touches | apply State.armPause_touches)
    | split
    | (with_reducible apply Touches.ite <;> intro _)

theorem State.enterEffects_touches (s : State) (into : LinkState) :
    Touches { link := true, capture := true, sched := true, port := true } s (s.enterEffects into) := by
  unfold State.enterEffects
  repeat' first
    | with_reducible exact Touches.refl _ _
    | (show Blocks.within _ _ = true; rfl)
    | (with_reducible apply Touches.via; on_goal 1 => with_reducible first
      | apply State.bump_touches | apply State.linkSilence_touches | apply State.closeGap_touches)
    | split

theorem State.enterLink_touches (s : State) (into : LinkState) (cause : LinkCause) :
    Touches { time := true, link := true, tracker := true, capture := true, sched := true, duplex := true,
              calib := true, port := true } s (s.enterLink into cause) := by
  unfold State.enterLink
  repeat' first
    | with_reducible exact Touches.refl _ _
    | (show Blocks.within _ _ = true; rfl)
    | with_reducible exact rfl
    | fail_if_no_progress extract_lets
    | (with_reducible apply Touches.via; on_goal 1 => with_reducible first
      | apply State.report_touches | apply State.leaveLink_touches | apply State.enterEffects_touches)
  all_goals try first
    | with_reducible refine Touches.on_time ?_ ?_
    | with_reducible refine Touches.on_link ?_ ?_
    | with_reducible refine Touches.on_tracker ?_ ?_
    | with_reducible refine Touches.on_capture ?_ ?_
    | with_reducible refine Touches.on_sched ?_ ?_
    | with_reducible refine Touches.on_duplex ?_ ?_
    | with_reducible refine Touches.on_calib ?_ ?_
    | with_reducible refine Touches.on_port ?_ ?_
  all_goals repeat' first
    | with_reducible exact Touches.refl _ _
    | (show Blocks.within _ _ = true; rfl)
    | with_reducible exact rfl
    | fail_if_no_progress extract_lets
    | (with_reducible apply Touches.via; on_goal 1 => with_reducible first
      | apply State.report_touches | apply State.leaveLink_touches | apply State.enterEffects_touches)
  all_goals try first
    | with_reducible refine Touches.on_time ?_ ?_
    | with_reducible refine Touches.on_link ?_ ?_
    | with_reducible refine Touches.on_tracker ?_ ?_
    | with_reducible refine Touches.on_capture ?_ ?_
    | with_reducible refine Touches.on_sched ?_ ?_
    | with_reducible refine Touches.on_duplex ?_ ?_
    | with_reducible refine Touches.on_calib ?_ ?_
    | with_reducible refine Touches.on_port ?_ ?_
  all_goals repeat' first
    | with_reducible exact Touches.refl _ _
    | (show Blocks.within _ _ = true; rfl)
    | with_reducible exact rfl
    | fail_if_no_progress extract_lets
    | (with_reducible apply Touches.via; on_goal 1 => with_reducible first
      | apply State.report_touches | apply State.leaveLink_touches | apply State.enterEffects_touches)
  all_goals (constructor <;> intro e <;> first | (cases e; done) | with_reducible rfl)

theorem State.enterReady_touches (s : State) (cause : LinkCause) :
    Touches { time := true, link := true, tracker := true, capture := true, sched := true, duplex := true,
              calib := true, port := true } s (s.enterReady cause) := by
  unfold State.enterReady
  repeat' first
    | with_reducible exact Touches.refl _ _
    | (show Blocks.within _ _ = true; rfl)
    | with_reducible exact rfl
    | fail_if_no_progress extract_lets
    | (with_reducible apply Touches.via; on_goal 1 => with_reducible apply State.enterLink_touches)
    | split
  all_goals try first
    | with_reducible refine Touches.on_time ?_ ?_
    | with_reducible refine Touches.on_link ?_ ?_
    | with_reducible refine Touches.on_tracker ?_ ?_
    | with_reducible refine Touches.on_capture ?_ ?_
    | with_reducible refine Touches.on_sched ?_ ?_
    | with_reducible refine Touches.on_duplex ?_ ?_
    | with_reducible refine Touches.on_calib ?_ ?_
    | with_reducible refine Touches.on_port ?_ ?_
  all_goals repeat' first
    | with_reducible exact Touches.refl _ _
    | (show Blocks.within _ _ = true; rfl)
    | with_reducible exact rfl
    | fail_if_no_progress extract_lets
    | (with_reducible apply Touches.via; on_goal 1 => with_reducible apply State.enterLink_touches)
    | split
  all_goals try first
    | with_reducible refine Touches.on_time ?_ ?_
    | with_reducible refine Touches.on_link ?_ ?_
    | with_reducible refine Touches.on_tracker ?_ ?_
    | with_reducible refine Touches.on_capture ?_ ?_
    | with_reducible refine Touches.on_sched ?_ ?_
    | with_reducible refine Touches.on_duplex ?_ ?_
    | with_reducible refine Touches.on_calib ?_ ?_
    | with_reducible refine Touches.on_port ?_ ?_
  all_goals repeat' first
    | with_reducible exact Touches.refl _ _
    | (show Blocks.within _ _ = true; rfl)
    | with_reducible exact rfl
    | fail_if_no_progress extract_lets
    | (with_reducible apply Touches.via; on_goal 1 => with_reducible apply State.enterLink_touches)
    | split
  all_goals (constructor <;> intro e <;> first | (cases e; done) | with_reducible rfl)

theorem State.collect_touches (s : State) (cycle : Nat) (r : Return) :
    Touches { link := true } s (s.collect cycle r) := by
  unfold State.collect
  repeat' first
    | with_reducible exact Touches.refl _ _
    | (show Blocks.within _ _ = true; rfl)
    | with_reducible exact rfl
    | fail_if_no_progress extract_lets
    | split
  all_goals (constructor <;> intro e <;> first | (cases e; done) | with_reducible rfl)

theorem State.applyConditions_touches (s : State) (b : Nat) :
    Touches { sched := true, duplex := true, calib := true, port := true } s (s.applyConditions b) := by
  unfold State.applyConditions
  repeat' first
    | with_reducible exact Touches.refl _ _
    | (show Blocks.within _ _ = true; rfl)
    | fail_if_no_progress extract_lets
    | (with_reducible apply Touches.via; on_goal 1 => with_reducible first
      | apply State.loseDrive_touches | apply State.lowerStation_touches)
    | split
    | (with_reducible apply Touches.ite <;> intro _)

theorem State.installRoster_touches (s : State) (records : List (Nat × StationRecord)) :
    Touches { link := true, sched := true, duplex := true, calib := true, port := true } s
      (s.installRoster records) := by
  unfold State.installRoster
  repeat' first
    | with_reducible exact Touches.refl _ _
    | (show Blocks.within _ _ = true; rfl)
    | with_reducible exact rfl
    | (with_reducible apply Touches.via; on_goal 1 => with_reducible apply State.applyConditions_touches)
    | (with_reducible apply Touches.foldlOn; on_goal 2 => intro s a)
  all_goals (constructor <;> intro e <;> first | (cases e; done) | with_reducible rfl)

theorem State.rosterCheck_touches (s : State) (c : Collection) :
    Touches { time := true, link := true, tracker := true, capture := true, sched := true, duplex := true,
              calib := true, port := true } s (s.rosterCheck c) := by
  unfold State.rosterCheck
  repeat' first
    | with_reducible exact Touches.refl _ _
    | (show Blocks.within _ _ = true; rfl)
    | with_reducible exact rfl
    | fail_if_no_progress extract_lets
    | (with_reducible apply Touches.via; on_goal 1 => with_reducible first
      | apply State.report_touches | apply State.enterReady_touches | apply State.installRoster_touches)
    | split
  all_goals (constructor <;> intro e <;> first | (cases e; done) | with_reducible rfl)

theorem State.setStation_touches (s : State) (b : Nat) (e : RosterEntry) :
    Touches { link := true } s (s.setStation b e) := by
  unfold State.setStation
  repeat' first
    | with_reducible exact Touches.refl _ _
    | (show Blocks.within _ _ = true; rfl)
    | with_reducible exact rfl
  all_goals (constructor <;> intro e <;> first | (cases e; done) | with_reducible rfl)

theorem State.updateStation_touches (s : State) (b : Nat × StationRecord) :
    Touches { link := true } s (s.updateStation b) := by
  unfold State.updateStation
  repeat' first
    | with_reducible exact Touches.refl _ _
    | (show Blocks.within _ _ = true; rfl)
    | (with_reducible apply Touches.via; on_goal 1 => with_reducible apply State.setStation_touches)
    | split

theorem State.takeRecords_touches (s : State) (c : Collection) :
    Touches { time := true, link := true, tracker := true, capture := true, sched := true, duplex := true,
              calib := true, port := true } s (s.takeRecords c) := by
  unfold State.takeRecords
  repeat' first
    | with_reducible exact Touches.refl _ _
    | (show Blocks.within _ _ = true; rfl)
    | with_reducible exact rfl
    | fail_if_no_progress extract_lets
    | (with_reducible apply Touches.via; on_goal 1 => with_reducible first
      | apply State.enterLink_touches | apply State.updateStation_touches)
    | (with_reducible apply Touches.foldlOn; on_goal 2 => intro s a)
    | split
  all_goals try first
    | with_reducible refine Touches.on_time ?_ ?_
    | with_reducible refine Touches.on_link ?_ ?_
    | with_reducible refine Touches.on_tracker ?_ ?_
    | with_reducible refine Touches.on_capture ?_ ?_
    | with_reducible refine Touches.on_sched ?_ ?_
    | with_reducible refine Touches.on_duplex ?_ ?_
    | with_reducible refine Touches.on_calib ?_ ?_
    | with_reducible refine Touches.on_port ?_ ?_
  all_goals repeat' first
    | with_reducible exact Touches.refl _ _
    | (show Blocks.within _ _ = true; rfl)
    | with_reducible exact rfl
    | fail_if_no_progress extract_lets
    | (with_reducible apply Touches.via; on_goal 1 => with_reducible first
      | apply State.enterLink_touches | apply State.updateStation_touches)
    | (with_reducible apply Touches.foldlOn; on_goal 2 => intro s a)
    | split
  all_goals try first
    | with_reducible refine Touches.on_time ?_ ?_
    | with_reducible refine Touches.on_link ?_ ?_
    | with_reducible refine Touches.on_tracker ?_ ?_
    | with_reducible refine Touches.on_capture ?_ ?_
    | with_reducible refine Touches.on_sched ?_ ?_
    | with_reducible refine Touches.on_duplex ?_ ?_
    | with_reducible refine Touches.on_calib ?_ ?_
    | with_reducible refine Touches.on_port ?_ ?_
  all_goals repeat' first
    | with_reducible exact Touches.refl _ _
    | (show Blocks.within _ _ = true; rfl)
    | with_reducible exact rfl
    | fail_if_no_progress extract_lets
    | (with_reducible apply Touches.via; on_goal 1 => with_reducible first
      | apply State.enterLink_touches | apply State.updateStation_touches)
    | (with_reducible apply Touches.foldlOn; on_goal 2 => intro s a)
    | split
  all_goals (constructor <;> intro e <;> first | (cases e; done) | with_reducible rfl)

theorem State.slowChannel_touches (s : State) (cycle : Nat) (r : Return) :
    Touches { time := true, link := true, tracker := true, capture := true, sched := true, duplex := true,
              calib := true, port := true } s (s.slowChannel cycle r) := by
  unfold State.slowChannel
  repeat' first
    | with_reducible exact Touches.refl _ _
    | (show Blocks.within _ _ = true; rfl)
    | with_reducible exact rfl
    | fail_if_no_progress extract_lets
    | (with_reducible apply Touches.via; on_goal 1 => with_reducible first
      | apply State.collect_touches | apply State.rosterCheck_touches | apply State.takeRecords_touches)
    | split
  all_goals try first
    | with_reducible refine Touches.on_time ?_ ?_
    | with_reducible refine Touches.on_link ?_ ?_
    | with_reducible refine Touches.on_tracker ?_ ?_
    | with_reducible refine Touches.on_capture ?_ ?_
    | with_reducible refine Touches.on_sched ?_ ?_
    | with_reducible refine Touches.on_duplex ?_ ?_
    | with_reducible refine Touches.on_calib ?_ ?_
    | with_reducible refine Touches.on_port ?_ ?_
  all_goals repeat' first
    | with_reducible exact Touches.refl _ _
    | (show Blocks.within _ _ = true; rfl)
    | with_reducible exact rfl
    | fail_if_no_progress extract_lets
    | (with_reducible apply Touches.via; on_goal 1 => with_reducible first
      | apply State.collect_touches | apply State.rosterCheck_touches | apply State.takeRecords_touches)
    | split
  all_goals try first
    | with_reducible refine Touches.on_time ?_ ?_
    | with_reducible refine Touches.on_link ?_ ?_
    | with_reducible refine Touches.on_tracker ?_ ?_
    | with_reducible refine Touches.on_capture ?_ ?_
    | with_reducible refine Touches.on_sched ?_ ?_
    | with_reducible refine Touches.on_duplex ?_ ?_
    | with_reducible refine Touches.on_calib ?_ ?_
    | with_reducible refine Touches.on_port ?_ ?_
  all_goals repeat' first
    | with_reducible exact Touches.refl _ _
    | (show Blocks.within _ _ = true; rfl)
    | with_reducible exact rfl
    | fail_if_no_progress extract_lets
    | (with_reducible apply Touches.via; on_goal 1 => with_reducible first
      | apply State.collect_touches | apply State.rosterCheck_touches | apply State.takeRecords_touches)
    | split
  all_goals (constructor <;> intro e <;> first | (cases e; done) | with_reducible rfl)

theorem State.stationAbsent_touches (s : State) (b : Nat) (e : RosterEntry) :
    Touches { link := true, tracker := true, capture := true, sched := true, duplex := true, calib := true,
              port := true } s (s.stationAbsent b e) := by
  unfold State.stationAbsent
  repeat' first
    | with_reducible exact Touches.refl _ _
    | (show Blocks.within _ _ = true; rfl)
    | with_reducible exact rfl
    | fail_if_no_progress extract_lets
    | (with_reducible apply Touches.via; on_goal 1 => with_reducible first
      | apply State.closeKeys_touches | apply State.markIncomplete_touches | apply State.removeWindows_touches
      | apply State.failJobIf_touches | apply State.loseDrive_touches | apply State.setStation_touches)
    | split
  all_goals (constructor <;> intro e <;> first | (cases e; done) | with_reducible rfl)

theorem State.countSection_touches (s : State) (sections : Vector (Option SectionReport) 8) (b : Nat) :
    Touches { link := true, tracker := true, capture := true, sched := true, duplex := true, calib := true,
              port := true } s (s.countSection sections b) := by
  unfold State.countSection
  repeat' first
    | with_reducible exact Touches.refl _ _
    | (show Blocks.within _ _ = true; rfl)
    | with_reducible exact rfl
    | (with_reducible apply Touches.via; on_goal 1 => with_reducible first
      | apply State.setStation_touches | apply State.stationAbsent_touches)
    | split
  all_goals (constructor <;> intro e <;> first | (cases e; done) | with_reducible rfl)

theorem State.takeSlot_touches (s : State) (cycle : Nat) (slot : List Byte) :
    Touches { link := true, tracker := true, capture := true, sched := true, duplex := true, calib := true,
              port := true } s (s.takeSlot cycle slot) := by
  unfold State.takeSlot
  repeat' first
    | with_reducible exact Touches.refl _ _
    | (show Blocks.within _ _ = true; rfl)
    | with_reducible exact rfl
    | (with_reducible apply Touches.via; on_goal 1 => with_reducible apply State.acceptNotice_touches)
    | split
  all_goals (constructor <;> intro e <;> first | (cases e; done) | with_reducible rfl)

theorem State.recover_touches (s : State) :
    Touches { time := true, link := true, tracker := true, capture := true, sched := true, duplex := true,
              calib := true, port := true } s (s.recover) := by
  unfold State.recover
  repeat' first
    | with_reducible exact Touches.refl _ _
    | (show Blocks.within _ _ = true; rfl)
    | (with_reducible apply Touches.via; on_goal 1 => with_reducible first
      | apply State.enterLink_touches | apply State.enterReady_touches)
    | split

theorem State.handReturn_touches (s : State) (cycle : Nat) (r : Return) :
    Touches { time := true, link := true, tracker := true, capture := true, mem := true, voices := true,
              sched := true, duplex := true, calib := true, port := true } s (s.handReturn cycle r) := by
  unfold State.handReturn
  repeat' first
    | with_reducible exact Touches.refl _ _
    | (show Blocks.within _ _ = true; rfl)
    | with_reducible exact rfl
    | fail_if_no_progress extract_lets
    | (with_reducible apply Touches.via; on_goal 1 => with_reducible first
      | apply State.handOver_touches | apply State.enterLink_touches | apply State.slowChannel_touches
      | apply State.countSection_touches | apply State.takeSlot_touches | apply State.recover_touches)
    | (with_reducible apply Touches.foldlOn; on_goal 2 => intro s a)
    | split
  all_goals (constructor <;> intro e <;> first | (cases e; done) | with_reducible rfl)

theorem State.validReturn_touches (s : State) (cycle elapsed : Nat) (r : Return) :
    Touches { time := true, link := true, tracker := true, capture := true, mem := true, voices := true,
              sched := true, duplex := true, calib := true, port := true } s (s.validReturn cycle elapsed r) := by
  unfold State.validReturn
  repeat' first
    | with_reducible exact Touches.refl _ _
    | (show Blocks.within _ _ = true; rfl)
    | with_reducible exact rfl
    | (with_reducible apply Touches.via; on_goal 1 => with_reducible apply State.handReturn_touches)
  all_goals (constructor <;> intro e <;> first | (cases e; done) | with_reducible rfl)

theorem State.missingReturn_touches (s : State) (cycle : Nat) :
    Touches { time := true, link := true, tracker := true, capture := true, sched := true, duplex := true,
              calib := true, port := true } s (s.missingReturn cycle) := by
  unfold State.missingReturn
  repeat' first
    | with_reducible exact Touches.refl _ _
    | (show Blocks.within _ _ = true; rfl)
    | with_reducible exact rfl
    | fail_if_no_progress extract_lets
    | (with_reducible apply Touches.via; on_goal 1 => with_reducible first
      | apply State.handOverLost_touches | apply State.enterLink_touches)
    | split
    | (with_reducible apply Touches.ite <;> intro _)
  all_goals (constructor <;> intro e <;> first | (cases e; done) | with_reducible rfl)

theorem State.takeReturn_touches (s : State) (elapsed : Nat) (bytes : List Byte) :
    Touches { time := true, link := true, tracker := true, capture := true, mem := true, voices := true,
              sched := true, duplex := true, calib := true, port := true } s (s.takeReturn elapsed bytes) := by
  unfold State.takeReturn
  repeat' first
    | with_reducible exact Touches.refl _ _
    | (show Blocks.within _ _ = true; rfl)
    | (with_reducible apply Touches.via; on_goal 1 => with_reducible first
      | apply State.validReturn_touches | apply State.missingReturn_touches)
    | split

theorem State.expireReturn_touches (s : State) :
    Touches { time := true, link := true, tracker := true, capture := true, sched := true, duplex := true,
              calib := true, port := true } s (s.expireReturn) := by
  unfold State.expireReturn
  repeat' first
    | with_reducible exact Touches.refl _ _
    | (show Blocks.within _ _ = true; rfl)
    | (with_reducible apply Touches.via; on_goal 1 => with_reducible apply State.missingReturn_touches)
    | split

theorem State.expireRecovery_touches (s : State) :
    Touches { time := true, link := true, tracker := true, capture := true, sched := true, duplex := true,
              calib := true, port := true } s (s.expireRecovery) := by
  unfold State.expireRecovery
  repeat' first
    | with_reducible exact Touches.refl _ _
    | (show Blocks.within _ _ = true; rfl)
    | (with_reducible apply Touches.via; on_goal 1 => with_reducible apply State.enterLink_touches)
    | split

theorem State.catchUp_touches (s : State) :
    Touches { sched := true } s (s.catchUp) := by
  unfold State.catchUp
  repeat' first
    | with_reducible exact Touches.refl _ _
    | (show Blocks.within _ _ = true; rfl)
    | (with_reducible apply Touches.via; on_goal 1 => with_reducible apply State.moveEntries_touches)

theorem State.offNowSent_touches (s : State) (k : Nat) :
    Touches { sched := true } s (s.offNowSent k) := by
  unfold State.offNowSent
  repeat' first
    | with_reducible exact Touches.refl _ _
    | (show Blocks.within _ _ = true; rfl)
    | fail_if_no_progress extract_lets
    | (with_reducible apply Touches.via; on_goal 1 => with_reducible first
      | apply State.setDrive_touches | apply State.redecide_touches)

theorem State.restSent_touches (s : State) (q : Nat) :
    Touches { sched := true } s (s.restSent q) := by
  unfold State.restSent
  repeat' first
    | with_reducible exact Touches.refl _ _
    | (show Blocks.within _ _ = true; rfl)
    | (with_reducible apply Touches.via; on_goal 1 => with_reducible apply State.setPedalDrive_touches)

theorem State.strikeSent_touches (s : State) (e : Entry) :
    Touches { mem := true, sched := true } s (s.strikeSent e) := by
  unfold State.strikeSent
  repeat' first
    | with_reducible exact Touches.refl _ _
    | (show Blocks.within _ _ = true; rfl)
    | with_reducible exact rfl
    | fail_if_no_progress extract_lets
    | (with_reducible apply Touches.via; on_goal 1 => with_reducible first
      | apply State.setDrive_touches | apply State.redecide_touches | apply State.markPlayed_touches)
    | split
  all_goals (constructor <;> intro e <;> first | (cases e; done) | with_reducible rfl)

theorem State.offSent_touches (s : State) (e : Entry) :
    Touches { sched := true, port := true } s (s.offSent e) := by
  unfold State.offSent
  repeat' first
    | with_reducible exact Touches.refl _ _
    | (show Blocks.within _ _ = true; rfl)
    | with_reducible exact rfl
    | fail_if_no_progress extract_lets
    | (with_reducible apply Touches.via; on_goal 1 => with_reducible first
      | apply State.setDrive_touches | apply State.bumpIf_touches | apply State.redecide_touches)
    | split
  all_goals (constructor <;> intro e <;> first | (cases e; done) | with_reducible rfl)

theorem State.sent_touches (s : State) (e : Entry) :
    Touches { time := true, mem := true, sched := true, duplex := true, calib := true, port := true } s
      (s.sent e) := by
  unfold State.sent
  repeat' first
    | with_reducible exact Touches.refl _ _
    | (show Blocks.within _ _ = true; rfl)
    | with_reducible exact rfl
    | fail_if_no_progress extract_lets
    | (with_reducible apply Touches.via; on_goal 1 => with_reducible first
      | apply State.setPedalDrive_touches | apply State.report_touches | apply State.markPlayed_touches
      | apply State.openMonitor_touches | apply State.calibrationDispatched_touches
      | apply State.strikeSent_touches | apply State.offSent_touches)
    | split
  all_goals (constructor <;> intro e <;> first | (cases e; done) | with_reducible rfl)

theorem State.dropOff_touches (s : State) (k : Nat) :
    Touches { sched := true } s (s.dropOff k) := by
  unfold State.dropOff
  repeat' first
    | with_reducible exact Touches.refl _ _
    | (show Blocks.within _ _ = true; rfl)
    | with_reducible exact rfl
    | (with_reducible apply Touches.via; on_goal 1 => with_reducible apply State.setDrive_touches)
    | split
  all_goals (constructor <;> intro e <;> first | (cases e; done) | with_reducible rfl)

theorem State.dropRest_touches (s : State) (x : Entry × Nat) :
    Touches { sched := true } s (s.dropRest x) := by
  unfold State.dropRest
  repeat' first
    | with_reducible exact Touches.refl _ _
    | (show Blocks.within _ _ = true; rfl)
    | with_reducible exact rfl
    | (with_reducible apply Touches.via; on_goal 1 => with_reducible apply State.setPedalDrive_touches)
    | split
  all_goals (constructor <;> intro e <;> first | (cases e; done) | with_reducible rfl)

theorem State.itemSent_touches (s : State) (x : Item) :
    Touches { time := true, mem := true, sched := true, duplex := true, calib := true, port := true } s (s.itemSent x) := by
  cases x with
  | entry e i => exact Touches.refl _ _
  | offNow k => exact (State.offNowSent_touches ..).mono rfl
  | rest q => exact (State.restSent_touches ..).mono rfl

theorem State.fillSections_touches (s : State) (left : List Entry) (window : List (Entry × Nat)) :
    Touches { time := true, mem := true, sched := true, duplex := true, calib := true, port := true } s
      (s.fillSections left window).1 := by
  unfold State.fillSections
  repeat' first
    | with_reducible exact Touches.refl _ _
    | (show Blocks.within _ _ = true; rfl)
    | fail_if_no_progress extract_lets
    | (with_reducible apply Touches.via; on_goal 1 => with_reducible first
      | apply State.setEntries_touches | apply State.bumpTimes_touches | apply State.moveEntries_touches
      | apply State.sent_touches | apply State.dropOff_touches | apply State.dropRest_touches
      | apply State.itemSent_touches | apply State.bumpTimes_touches | apply State.itemSent_touches)
    | (with_reducible apply Touches.foldlOn; on_goal 2 => intro s a)
    | split

theorem State.takeCommands_touches (s : State) :
    Touches { time := true, mem := true, sched := true, duplex := true, calib := true, port := true } s
      (s.takeCommands).1 := by
  unfold State.takeCommands
  repeat' first
    | with_reducible exact Touches.refl _ _
    | (show Blocks.within _ _ = true; rfl)
    | fail_if_no_progress extract_lets
    | (with_reducible apply Touches.via; on_goal 1 => with_reducible first
      | apply State.catchUp_touches | apply State.fillSections_touches)
    | split

theorem State.buildFrame_touches (s : State) :
    Touches { time := true, link := true, mem := true, sched := true, duplex := true, calib := true, port := true } s
      (s.buildFrame) := by
  unfold State.buildFrame
  repeat' first
    | with_reducible exact Touches.refl _ _
    | (show Blocks.within _ _ = true; rfl)
    | with_reducible exact rfl
    | fail_if_no_progress extract_lets
    | (with_reducible apply Touches.via; on_goal 1 => with_reducible apply State.takeCommands_touches)
    | split
  all_goals try first
    | with_reducible refine Touches.on_time ?_ ?_
    | with_reducible refine Touches.on_link ?_ ?_
    | with_reducible refine Touches.on_mem ?_ ?_
    | with_reducible refine Touches.on_sched ?_ ?_
    | with_reducible refine Touches.on_duplex ?_ ?_
    | with_reducible refine Touches.on_calib ?_ ?_
    | with_reducible refine Touches.on_port ?_ ?_
  all_goals repeat' first
    | with_reducible exact Touches.refl _ _
    | (show Blocks.within _ _ = true; rfl)
    | with_reducible exact rfl
    | fail_if_no_progress extract_lets
    | (with_reducible apply Touches.via; on_goal 1 => with_reducible apply State.takeCommands_touches)
    | split
  all_goals try first
    | with_reducible refine Touches.on_time ?_ ?_
    | with_reducible refine Touches.on_link ?_ ?_
    | with_reducible refine Touches.on_mem ?_ ?_
    | with_reducible refine Touches.on_sched ?_ ?_
    | with_reducible refine Touches.on_duplex ?_ ?_
    | with_reducible refine Touches.on_calib ?_ ?_
    | with_reducible refine Touches.on_port ?_ ?_
  all_goals repeat' first
    | with_reducible exact Touches.refl _ _
    | (show Blocks.within _ _ = true; rfl)
    | with_reducible exact rfl
    | fail_if_no_progress extract_lets
    | (with_reducible apply Touches.via; on_goal 1 => with_reducible apply State.takeCommands_touches)
    | split
  all_goals (constructor <;> intro e <;> first | (cases e; done) | with_reducible rfl)

theorem State.setTime_touches (s : State) (t : TimeBase) :
    Touches { time := true } s (s.setTime t) := by
  unfold State.setTime
  repeat' first
    | with_reducible exact Touches.refl _ _
    | (show Blocks.within _ _ = true; rfl)
    | with_reducible exact rfl
  all_goals (constructor <;> intro e <;> first | (cases e; done) | with_reducible rfl)

theorem State.pauseTake_touches (s : State) :
    Touches { time := true, sched := true, duplex := true } s (s.pauseTake) := by
  unfold State.pauseTake
  repeat' first
    | with_reducible exact Touches.refl _ _
    | (show Blocks.within _ _ = true; rfl)
    | with_reducible exact rfl
    | (with_reducible apply Touches.via; on_goal 1 => with_reducible first
      | apply State.pauseSchedule_touches | apply State.clearWindows_touches)
  all_goals (constructor <;> intro e <;> first | (cases e; done) | with_reducible rfl)

theorem State.stopDrive_touches (s : State) :
    Touches { voices := true, intake := true, sched := true, duplex := true, calib := true, port := true } s
      (s.stopDrive) := by
  unfold State.stopDrive
  repeat' first
    | with_reducible exact Touches.refl _ _
    | (show Blocks.within _ _ = true; rfl)
    | fail_if_no_progress extract_lets
    | (with_reducible apply Touches.via; on_goal 1 => with_reducible first
      | apply State.stopSchedule_touches | apply State.emptyIntake_touches | apply State.clearWindows_touches
      | apply State.abortJobs_touches)
    | split
    | (with_reducible apply Touches.ite <;> intro _)

theorem State.stopTake_touches (s : State) (cause : StopCause) :
    Touches { time := true, capture := true, voices := true, intake := true, sched := true, duplex := true,
              calib := true, port := true } s (s.stopTake cause) := by
  unfold State.stopTake
  repeat' first
    | with_reducible exact Touches.refl _ _
    | (show Blocks.within _ _ = true; rfl)
    | fail_if_no_progress extract_lets
    | (with_reducible apply Touches.via; on_goal 1 => with_reducible first
      | apply State.flush_touches | apply State.setTime_touches | apply State.stopDrive_touches)
    | split
    | (with_reducible apply Touches.ite <;> intro _)
  all_goals (constructor <;> intro e <;> first | (cases e; done) | with_reducible rfl)

theorem State.stopGap_touches (s : State) :
    Touches { link := true } s (s.stopGap) := by
  unfold State.stopGap
  repeat' first
    | with_reducible exact Touches.refl _ _
    | (show Blocks.within _ _ = true; rfl)
    | with_reducible exact rfl
  all_goals (constructor <;> intro e <;> first | (cases e; done) | with_reducible rfl)

theorem State.beginTake_touches (s : State) (preroll : Nat) :
    Touches { time := true, tracker := true, capture := true, sched := true } s (s.beginTake preroll) := by
  unfold State.beginTake
  repeat' first
    | with_reducible exact Touches.refl _ _
    | (show Blocks.within _ _ = true; rfl)
    | fail_if_no_progress extract_lets
    | (with_reducible apply Touches.via; on_goal 1 => with_reducible first
      | apply State.startSchedule_touches | apply State.openTake_touches | apply State.startTracker_touches
      | apply State.setTime_touches)
    | split
  all_goals (constructor <;> intro e <;> first | (cases e; done) | with_reducible rfl)

theorem State.transportStart_touches (s : State) (tag : Byte) (preroll : Nat) :
    Touches { time := true, tracker := true, capture := true, sched := true, port := true } s
      (s.transportStart tag preroll) := by
  unfold State.transportStart
  repeat' first
    | with_reducible exact Touches.refl _ _
    | (show Blocks.within _ _ = true; rfl)
    | (with_reducible apply Touches.via; on_goal 1 => with_reducible first
      | apply State.reply_touches | apply State.beginTake_touches)
    | with_reducible apply State.unlessRestoring_touches
    | split

theorem State.transportPause_touches (s : State) (tag : Byte) :
    Touches { time := true, sched := true, duplex := true, port := true } s (s.transportPause tag) := by
  unfold State.transportPause
  repeat' first
    | with_reducible exact Touches.refl _ _
    | (show Blocks.within _ _ = true; rfl)
    | (with_reducible apply Touches.via; on_goal 1 => with_reducible first
      | apply State.reply_touches | apply State.report_touches | apply State.pauseTake_touches)
    | with_reducible apply State.unlessRestoring_touches
    | split

theorem State.resumeTake_touches (s : State) :
    Touches { time := true, sched := true } s (s.resumeTake) := by
  unfold State.resumeTake
  repeat' first
    | with_reducible exact Touches.refl _ _
    | (show Blocks.within _ _ = true; rfl)
    | fail_if_no_progress extract_lets
    | (with_reducible apply Touches.via; on_goal 1 => with_reducible first
      | apply State.resumeSchedule_touches | apply State.setTime_touches)
  all_goals (constructor <;> intro e <;> first | (cases e; done) | with_reducible rfl)

theorem State.transportResume_touches (s : State) (tag : Byte) :
    Touches { time := true, sched := true, port := true } s (s.transportResume tag) := by
  unfold State.transportResume
  repeat' first
    | with_reducible exact Touches.refl _ _
    | (show Blocks.within _ _ = true; rfl)
    | (with_reducible apply Touches.via; on_goal 1 => with_reducible first
      | apply State.reply_touches | apply State.report_touches | apply State.resumeTake_touches)
    | with_reducible apply State.unlessRestoring_touches
    | split

theorem State.transportStop_touches (s : State) (tag : Byte) :
    Touches { time := true, link := true, capture := true, voices := true, intake := true, sched := true,
              duplex := true, calib := true, port := true } s (s.transportStop tag) := by
  unfold State.transportStop
  repeat' first
    | with_reducible exact Touches.refl _ _
    | (show Blocks.within _ _ = true; rfl)
    | fail_if_no_progress extract_lets
    | (with_reducible apply Touches.via; on_goal 1 => with_reducible first
      | apply State.reply_touches | apply State.stopTake_touches | apply State.stopGap_touches)
    | with_reducible apply State.unlessRestoring_touches
    | split

theorem State.takeCue_touches (s : State) (tag : Byte) (presence tick : Nat) :
    Touches { time := true, port := true } s (s.takeCue tag presence tick) := by
  unfold State.takeCue
  repeat' first
    | with_reducible exact Touches.refl _ _
    | (show Blocks.within _ _ = true; rfl)
    | with_reducible exact rfl
    | (with_reducible apply Touches.via; on_goal 1 => with_reducible first
      | apply State.reply_touches | apply State.setTime_touches)
    | with_reducible apply State.unlessRestoring_touches
    | split
  all_goals (constructor <;> intro e <;> first | (cases e; done) | with_reducible rfl)

theorem State.startTimer_touches (s : State) :
    Touches { port := true } s (s.startTimer) := by
  unfold State.startTimer
  repeat' first
    | with_reducible exact Touches.refl _ _
    | (show Blocks.within _ _ = true; rfl)
    | with_reducible exact rfl
  all_goals (constructor <;> intro e <;> first | (cases e; done) | with_reducible rfl)

theorem State.leaveIdle_touches (s : State) (m : Mode) :
    Touches { time := true, port := true } s (s.leaveIdle m) := by
  unfold State.leaveIdle
  repeat' first
    | with_reducible exact Touches.refl _ _
    | (show Blocks.within _ _ = true; rfl)
    | with_reducible exact rfl
    | (with_reducible apply Touches.via; on_goal 1 => with_reducible first
      | apply State.setTime_touches | apply State.startTimer_touches)
  all_goals (constructor <;> intro e <;> first | (cases e; done) | with_reducible rfl)

theorem State.enterIdle_touches (s : State) :
    Touches { time := true, link := true, capture := true, voices := true, intake := true, sched := true,
              duplex := true, calib := true, port := true } s (s.enterIdle) := by
  unfold State.enterIdle
  repeat' first
    | with_reducible exact Touches.refl _ _
    | (show Blocks.within _ _ = true; rfl)
    | with_reducible exact rfl
    | fail_if_no_progress extract_lets
    | (with_reducible apply Touches.via; on_goal 1 => with_reducible first
      | apply State.emptyIntake_touches | apply State.abortJobs_touches | apply State.setTime_touches
      | apply State.stopTake_touches | apply State.stopGap_touches)
    | split
    | (with_reducible apply Touches.ite <;> intro _)
  all_goals try first
    | with_reducible refine Touches.on_time ?_ ?_
    | with_reducible refine Touches.on_link ?_ ?_
    | with_reducible refine Touches.on_capture ?_ ?_
    | with_reducible refine Touches.on_voices ?_ ?_
    | with_reducible refine Touches.on_intake ?_ ?_
    | with_reducible refine Touches.on_sched ?_ ?_
    | with_reducible refine Touches.on_duplex ?_ ?_
    | with_reducible refine Touches.on_calib ?_ ?_
    | with_reducible refine Touches.on_port ?_ ?_
  all_goals repeat' first
    | with_reducible exact Touches.refl _ _
    | (show Blocks.within _ _ = true; rfl)
    | with_reducible exact rfl
    | fail_if_no_progress extract_lets
    | (with_reducible apply Touches.via; on_goal 1 => with_reducible first
      | apply State.emptyIntake_touches | apply State.abortJobs_touches | apply State.setTime_touches
      | apply State.stopTake_touches | apply State.stopGap_touches)
    | split
    | (with_reducible apply Touches.ite <;> intro _)
  all_goals try first
    | with_reducible refine Touches.on_time ?_ ?_
    | with_reducible refine Touches.on_link ?_ ?_
    | with_reducible refine Touches.on_capture ?_ ?_
    | with_reducible refine Touches.on_voices ?_ ?_
    | with_reducible refine Touches.on_intake ?_ ?_
    | with_reducible refine Touches.on_sched ?_ ?_
    | with_reducible refine Touches.on_duplex ?_ ?_
    | with_reducible refine Touches.on_calib ?_ ?_
    | with_reducible refine Touches.on_port ?_ ?_
  all_goals repeat' first
    | with_reducible exact Touches.refl _ _
    | (show Blocks.within _ _ = true; rfl)
    | with_reducible exact rfl
    | fail_if_no_progress extract_lets
    | (with_reducible apply Touches.via; on_goal 1 => with_reducible first
      | apply State.emptyIntake_touches | apply State.abortJobs_touches | apply State.setTime_touches
      | apply State.stopTake_touches | apply State.stopGap_touches)
    | split
    | (with_reducible apply Touches.ite <;> intro _)
  all_goals (constructor <;> intro e <;> first | (cases e; done) | with_reducible rfl)

theorem State.takeMode_touches (s : State) (tag : Byte) (code : Nat) :
    Touches { time := true, link := true, capture := true, voices := true, intake := true, sched := true,
              duplex := true, calib := true, port := true } s (s.takeMode tag code) := by
  unfold State.takeMode
  repeat' first
    | with_reducible exact Touches.refl _ _
    | (show Blocks.within _ _ = true; rfl)
    | (with_reducible apply Touches.via; on_goal 1 => with_reducible first
      | apply State.reply_touches | apply State.leaveIdle_touches | apply State.enterIdle_touches)
    | with_reducible apply State.unlessRestoring_touches
    | split

theorem State.linkLeftPause_touches (s : State) :
    Touches { time := true, sched := true, duplex := true, port := true } s (s.linkLeftPause) := by
  unfold State.linkLeftPause
  repeat' first
    | with_reducible exact Touches.refl _ _
    | (show Blocks.within _ _ = true; rfl)
    | with_reducible exact rfl
    | fail_if_no_progress extract_lets
    | (with_reducible apply Touches.via; on_goal 1 => with_reducible first
      | apply State.report_touches | apply State.setTime_touches | apply State.pauseTake_touches)
    | split
  all_goals (constructor <;> intro e <;> first | (cases e; done) | with_reducible rfl)

theorem State.reachCue_touches (s : State) :
    Touches { time := true, sched := true, duplex := true, port := true } s (s.reachCue) := by
  unfold State.reachCue
  repeat' first
    | with_reducible exact Touches.refl _ _
    | (show Blocks.within _ _ = true; rfl)
    | with_reducible exact rfl
    | fail_if_no_progress extract_lets
    | (with_reducible apply Touches.via; on_goal 1 => with_reducible first
      | apply State.report_touches | apply State.setTime_touches | apply State.pauseTake_touches)
    | split
  all_goals (constructor <;> intro e <;> first | (cases e; done) | with_reducible rfl)

theorem State.reachEnd_touches (s : State) :
    Touches { time := true, capture := true, voices := true, intake := true, sched := true, duplex := true,
              calib := true, port := true } s (s.reachEnd) := by
  unfold State.reachEnd
  repeat' first
    | with_reducible exact Touches.refl _ _
    | (show Blocks.within _ _ = true; rfl)
    | (with_reducible apply Touches.via; on_goal 1 => with_reducible first
      | apply State.report_touches | apply State.stopTake_touches)
    | split

theorem State.reachClockEnd_touches (s : State) :
    Touches { time := true, capture := true, voices := true, intake := true, sched := true, duplex := true,
              calib := true, port := true } s (s.reachClockEnd) := by
  unfold State.reachClockEnd
  repeat' first
    | with_reducible exact Touches.refl _ _
    | (show Blocks.within _ _ = true; rfl)
    | (with_reducible apply Touches.via; on_goal 1 => with_reducible apply State.stopTake_touches)
    | split

theorem State.expireWindow_touches (s : State) (k : Nat) :
    Touches { mem := true, voices := true, sched := true, duplex := true, calib := true, port := true } s
      (s.expireWindow k) := by
  unfold State.expireWindow
  repeat' first
    | with_reducible exact Touches.refl _ _
    | (show Blocks.within _ _ = true; rfl)
    | (with_reducible apply Touches.via; on_goal 1 => with_reducible first
      | apply State.missed_touches | apply State.noCrossing_touches)
    | split

theorem State.advanceCycle_touches (s : State) :
    Touches { time := true, link := true, calib := true } s (s.advanceCycle) := by
  unfold State.advanceCycle
  repeat' first
    | with_reducible exact Touches.refl _ _
    | (show Blocks.within _ _ = true; rfl)
    | with_reducible exact rfl
    | split
  all_goals (constructor <;> intro e <;> first | (cases e; done) | with_reducible rfl)

theorem State.takeTimed_touches (s : State) (r : Byte × Request) :
    Touches { time := true, link := true, tracker := true, capture := true, voices := true, intake := true,
              sched := true, duplex := true, calib := true, port := true } s (s.takeTimed r) := by
  unfold State.takeTimed
  repeat' first
    | with_reducible exact Touches.refl _ _
    | (show Blocks.within _ _ = true; rfl)
    | (with_reducible apply Touches.via; on_goal 1 => with_reducible first
      | apply State.transportStart_touches | apply State.transportPause_touches | apply State.transportResume_touches
      | apply State.transportStop_touches | apply State.takeCue_touches | apply State.takeMode_touches)
    | split

theorem State.takeNext_touches (s : State) :
    Touches { time := true, link := true, tracker := true, capture := true, voices := true, intake := true,
              sched := true, duplex := true, calib := true, port := true } s (s.takeNext) := by
  unfold State.takeNext
  repeat' first
    | with_reducible exact Touches.refl _ _
    | (show Blocks.within _ _ = true; rfl)
    | with_reducible exact rfl
    | (with_reducible apply Touches.via; on_goal 1 => with_reducible first
      | apply State.setTime_touches | apply State.takeTimed_touches)
    | split
  all_goals (constructor <;> intro e <;> first | (cases e; done) | with_reducible rfl)

theorem State.startAction_touches (s : State) (a : StartAction) :
    Touches { time := true, link := true, tracker := true, capture := true, mem := true, voices := true,
              intake := true, sched := true, duplex := true, calib := true, port := true } s (s.startAction a) := by
  unfold State.startAction
  repeat' first
    | with_reducible exact Touches.refl _ _
    | (show Blocks.within _ _ = true; rfl)
    | (with_reducible apply Touches.via; on_goal 1 => with_reducible first
      | apply State.captureRelease_touches | apply State.retryStrike_touches | apply State.startJob_touches
      | apply State.expireRecovery_touches | apply State.buildFrame_touches | apply State.linkLeftPause_touches
      | apply State.reachCue_touches | apply State.reachEnd_touches | apply State.reachClockEnd_touches
      | apply State.expireWindow_touches | apply State.takeNext_touches | apply State.testHead_touches
      | apply State.walkRead_touches | apply State.walkEnd_touches)
    | split

theorem State.cycleStart_touches (s : State) (order : List StartAction) :
    Touches { time := true, link := true, tracker := true, capture := true, mem := true, voices := true,
              intake := true, sched := true, duplex := true, calib := true, port := true } s
      (s.cycleStart order) := by
  unfold State.cycleStart
  repeat' first
    | with_reducible exact Touches.refl _ _
    | (show Blocks.within _ _ = true; rfl)
    | with_reducible exact rfl
    | fail_if_no_progress extract_lets
    | (with_reducible apply Touches.via; on_goal 1 => with_reducible first
      | apply State.setTime_touches | apply State.advanceCycle_touches | apply State.takeTimed_touches
      | apply State.startAction_touches)
    | (with_reducible apply Touches.foldlOn; on_goal 2 => intro s a)
  all_goals (constructor <;> intro e <;> first | (cases e; done) | with_reducible rfl)

theorem State.setOp_touches (s : State) (op : StoreOp) :
    Touches { store := true } s (s.setOp op) := by
  unfold State.setOp
  repeat' first
    | with_reducible exact Touches.refl _ _
    | (show Blocks.within _ _ = true; rfl)
    | with_reducible exact rfl
  all_goals (constructor <;> intro e <;> first | (cases e; done) | with_reducible rfl)

theorem State.setStoreBlock_touches (s : State) (b : Nat) (x : StoreBlock) :
    Touches { store := true } s (s.setStoreBlock b x) := by
  unfold State.setStoreBlock
  repeat' first
    | with_reducible exact Touches.refl _ _
    | (show Blocks.within _ _ = true; rfl)
    | with_reducible exact rfl
  all_goals (constructor <;> intro e <;> first | (cases e; done) | with_reducible rfl)

theorem State.saveFrom_touches (fuel : Nat) (s : State) (op : SaveOp) :
    Touches { port := true, store := true } s (State.saveFrom fuel s op) := by
  induction fuel generalizing op with
  | zero => exact ((State.setOp_touches ..).trans (State.report_touches ..)).mono rfl
  | succ fuel ih =>
    unfold State.saveFrom
    split
    · exact ((State.setOp_touches ..).trans (State.report_touches ..)).mono rfl
    · split
      · exact ih _
      · exact (State.setOp_touches ..).mono rfl

theorem State.beginSave_touches (s : State) (first last : Nat) :
    Touches { port := true, store := true } s (s.beginSave first last) := by
  unfold State.beginSave
  repeat' first
    | with_reducible exact Touches.refl _ _
    | (show Blocks.within _ _ = true; rfl)
    | (with_reducible apply Touches.via; on_goal 1 => with_reducible first
      | apply State.saveFrom_touches | apply State.saveFrom_touches)

theorem State.eraseDone_touches (s : State) :
    Touches { store := true } s (s.eraseDone) := by
  unfold State.eraseDone
  repeat' first
    | with_reducible exact Touches.refl _ _
    | (show Blocks.within _ _ = true; rfl)
    | with_reducible exact rfl
    | fail_if_no_progress extract_lets
    | (with_reducible apply Touches.via; on_goal 1 => with_reducible first
      | apply State.setOp_touches | apply State.setStoreBlock_touches)
    | split
    | (with_reducible apply Touches.ite <;> intro _)
  all_goals (constructor <;> intro e <;> first | (cases e; done) | with_reducible rfl)

theorem State.programDone_touches (s : State) (medium : Option StoreBlock) :
    Touches { store := true } s (s.programDone medium) := by
  unfold State.programDone
  repeat' first
    | with_reducible exact Touches.refl _ _
    | (show Blocks.within _ _ = true; rfl)
    | with_reducible exact rfl
    | (with_reducible apply Touches.via; on_goal 1 => with_reducible first
      | apply State.setOp_touches | apply State.setStoreBlock_touches)
    | split
  all_goals (constructor <;> intro e <;> first | (cases e; done) | with_reducible rfl)

theorem State.verifyDone_touches (s : State) :
    Touches { port := true, store := true } s (s.verifyDone) := by
  unfold State.verifyDone
  repeat' first
    | with_reducible exact Touches.refl _ _
    | (show Blocks.within _ _ = true; rfl)
    | with_reducible exact rfl
    | fail_if_no_progress extract_lets
    | (with_reducible apply Touches.via; on_goal 1 => with_reducible first
      | apply State.saveFrom_touches | apply State.saveFrom_touches)
    | split
    | (with_reducible apply Touches.ite <;> intro _)
  all_goals (constructor <;> intro e <;> first | (cases e; done) | with_reducible rfl)

theorem State.beginRestore_touches (s : State) (cause : RestoreCause) :
    Touches { voices := true, store := true } s (s.beginRestore cause) := by
  unfold State.beginRestore
  repeat' first
    | with_reducible exact Touches.refl _ _
    | (show Blocks.within _ _ = true; rfl)
    | with_reducible exact rfl
    | (with_reducible apply Touches.via; on_goal 1 => with_reducible apply State.setOp_touches)
  all_goals (constructor <;> intro e <;> first | (cases e; done) | with_reducible rfl)

theorem State.readDone_touches (s : State) :
    Touches { mem := true, port := true, store := true } s (s.readDone) := by
  unfold State.readDone
  repeat' first
    | with_reducible exact Touches.refl _ _
    | (show Blocks.within _ _ = true; rfl)
    | with_reducible exact rfl
    | fail_if_no_progress extract_lets
    | (with_reducible apply Touches.via; on_goal 1 => with_reducible first
      | apply State.report_touches | apply State.setOp_touches)
    | split
    | (with_reducible apply Touches.ite <;> intro _)
  all_goals (constructor <;> intro e <;> first | (cases e; done) | with_reducible rfl)

theorem State.linkStart_touches (s : State) (tag : Byte) :
    Touches { time := true, link := true, tracker := true, capture := true, sched := true, duplex := true,
              calib := true, port := true } s (s.linkStart tag) := by
  unfold State.linkStart
  repeat' first
    | with_reducible exact Touches.refl _ _
    | (show Blocks.within _ _ = true; rfl)
    | (with_reducible apply Touches.via; on_goal 1 => with_reducible first
      | apply State.reply_touches | apply State.enterLink_touches)
    | with_reducible apply State.unlessRestoring_touches
    | split

theorem State.linkStop_touches (s : State) (tag : Byte) :
    Touches { time := true, link := true, tracker := true, capture := true, sched := true, duplex := true,
              calib := true, port := true } s (s.linkStop tag) := by
  unfold State.linkStop
  repeat' first
    | with_reducible exact Touches.refl _ _
    | (show Blocks.within _ _ = true; rfl)
    | fail_if_no_progress extract_lets
    | (with_reducible apply Touches.via; on_goal 1 => with_reducible first
      | apply State.reply_touches | apply State.enterLink_touches)
    | with_reducible apply State.unlessRestoring_touches
    | split

theorem State.setPermit_touches (s : State) (b : Bool) :
    Touches { link := true } s (s.setPermit b) := by
  unfold State.setPermit
  repeat' first
    | with_reducible exact Touches.refl _ _
    | (show Blocks.within _ _ = true; rfl)
    | with_reducible exact rfl
  all_goals (constructor <;> intro e <;> first | (cases e; done) | with_reducible rfl)

theorem State.drivePermit_touches (s : State) (tag : Byte) :
    Touches { time := true, link := true, tracker := true, capture := true, sched := true, duplex := true,
              calib := true, port := true } s (s.drivePermit tag) := by
  unfold State.drivePermit
  repeat' first
    | with_reducible exact Touches.refl _ _
    | (show Blocks.within _ _ = true; rfl)
    | (with_reducible apply Touches.via; on_goal 1 => with_reducible first
      | apply State.reply_touches | apply State.enterLink_touches | apply State.setPermit_touches)
    | with_reducible apply State.unlessRestoring_touches
    | split

theorem State.readRoster_touches (s : State) (tag : Byte) :
    Touches { port := true } s (s.readRoster tag) := by
  unfold State.readRoster
  repeat' first
    | with_reducible exact Touches.refl _ _
    | (show Blocks.within _ _ = true; rfl)
    | (with_reducible apply Touches.via; on_goal 1 => with_reducible apply State.reply_touches)
    | with_reducible apply State.unlessRestoring_touches

theorem State.clearFault_touches (s : State) (k : Nat) :
    Touches { link := true, sched := true } s (s.clearFault k) := by
  unfold State.clearFault
  repeat' first
    | with_reducible exact Touches.refl _ _
    | (show Blocks.within _ _ = true; rfl)
    | (with_reducible apply Touches.via; on_goal 1 => with_reducible first
      | apply State.redecide_touches | apply State.setFault_touches)
    | split

theorem State.clearKeyFault_touches (s : State) (tag : Byte) (key : Nat) :
    Touches { link := true, sched := true, port := true } s (s.clearKeyFault tag key) := by
  unfold State.clearKeyFault
  repeat' first
    | with_reducible exact Touches.refl _ _
    | (show Blocks.within _ _ = true; rfl)
    | (with_reducible apply Touches.via; on_goal 1 => with_reducible first
      | apply State.reply_touches | apply State.clearFault_touches)
    | (with_reducible apply Touches.foldlOn; on_goal 2 => intro s a)
    | with_reducible apply State.unlessRestoring_touches
    | with_reducible apply State.judged_touches
    | split

theorem State.writeKeySense_touches (s : State) (tag : Byte) (type number first second third : Nat) :
    Touches { mem := true, port := true } s (s.writeKeySense tag type number first second third) := by
  unfold State.writeKeySense
  repeat' first
    | with_reducible exact Touches.refl _ _
    | (show Blocks.within _ _ = true; rfl)
    | with_reducible exact rfl
    | (with_reducible apply Touches.via; on_goal 1 => with_reducible apply State.reply_touches)
    | with_reducible apply State.unlessStoring_touches
    | with_reducible apply State.judged_touches
  all_goals (constructor <;> intro e <;> first | (cases e; done) | with_reducible rfl)

theorem State.readKeySense_touches (s : State) (tag : Byte) (type number : Nat) :
    Touches { port := true } s (s.readKeySense tag type number) := by
  unfold State.readKeySense
  repeat' first
    | with_reducible exact Touches.refl _ _
    | (show Blocks.within _ _ = true; rfl)
    | (with_reducible apply Touches.via; on_goal 1 => with_reducible apply State.reply_touches)
    | with_reducible apply State.unlessRestoring_touches
    | with_reducible apply State.judged_touches
    | split

theorem State.writeDescriptor_touches (s : State) (tag : Byte) (set voice : Nat) (f : RawDescriptor) :
    Touches { mem := true, port := true } s (s.writeDescriptor tag set voice f) := by
  unfold State.writeDescriptor
  repeat' first
    | with_reducible exact Touches.refl _ _
    | (show Blocks.within _ _ = true; rfl)
    | with_reducible exact rfl
    | (with_reducible apply Touches.via; on_goal 1 => with_reducible apply State.reply_touches)
    | with_reducible apply State.unlessStoring_touches
    | with_reducible apply State.judged_touches
  all_goals (constructor <;> intro e <;> first | (cases e; done) | with_reducible rfl)

theorem State.readDescriptor_touches (s : State) (tag : Byte) (set voice : Nat) :
    Touches { port := true } s (s.readDescriptor tag set voice) := by
  unfold State.readDescriptor
  repeat' first
    | with_reducible exact Touches.refl _ _
    | (show Blocks.within _ _ = true; rfl)
    | (with_reducible apply Touches.via; on_goal 1 => with_reducible apply State.reply_touches)
    | with_reducible apply State.unlessRestoring_touches
    | with_reducible apply State.judged_touches

theorem State.writePage_touches (s : State) (tag : Byte) (slot : Nat) (p : RawPage) :
    Touches { mem := true, port := true } s (s.writePage tag slot p) := by
  unfold State.writePage
  repeat' first
    | with_reducible exact Touches.refl _ _
    | (show Blocks.within _ _ = true; rfl)
    | with_reducible exact rfl
    | (with_reducible apply Touches.via; on_goal 1 => with_reducible apply State.reply_touches)
    | with_reducible apply State.unlessStoring_touches
    | split
  all_goals (constructor <;> intro e <;> first | (cases e; done) | with_reducible rfl)

theorem State.readPage_touches (s : State) (tag : Byte) (slot : Nat) :
    Touches { port := true } s (s.readPage tag slot) := by
  unfold State.readPage
  repeat' first
    | with_reducible exact Touches.refl _ _
    | (show Blocks.within _ _ = true; rfl)
    | (with_reducible apply Touches.via; on_goal 1 => with_reducible apply State.reply_touches)
    | with_reducible apply State.unlessRestoring_touches
    | with_reducible apply State.judged_touches
    | split

theorem State.emptyCache_touches (s : State) :
    Touches { voices := true } s (s.emptyCache) := by
  unfold State.emptyCache
  repeat' first
    | with_reducible exact Touches.refl _ _
    | (show Blocks.within _ _ = true; rfl)
    | with_reducible exact rfl
  all_goals (constructor <;> intro e <;> first | (cases e; done) | with_reducible rfl)

theorem State.selectVoicing_touches (s : State) (tag : Byte) (set : Nat) :
    Touches { voices := true, port := true } s (s.selectVoicing tag set) := by
  unfold State.selectVoicing
  repeat' first
    | with_reducible exact Touches.refl _ _
    | (show Blocks.within _ _ = true; rfl)
    | with_reducible exact rfl
    | fail_if_no_progress extract_lets
    | (with_reducible apply Touches.via; on_goal 1 => with_reducible first
      | apply State.reply_touches | apply State.emptyCache_touches)
    | with_reducible apply State.unlessRestoring_touches
    | with_reducible apply State.judged_touches
    | split
  all_goals try first
    | with_reducible refine Touches.on_voices ?_ ?_
    | with_reducible refine Touches.on_port ?_ ?_
  all_goals repeat' first
    | with_reducible exact Touches.refl _ _
    | (show Blocks.within _ _ = true; rfl)
    | with_reducible exact rfl
    | fail_if_no_progress extract_lets
    | (with_reducible apply Touches.via; on_goal 1 => with_reducible first
      | apply State.reply_touches | apply State.emptyCache_touches)
    | with_reducible apply State.unlessRestoring_touches
    | with_reducible apply State.judged_touches
    | split
  all_goals try first
    | with_reducible refine Touches.on_voices ?_ ?_
    | with_reducible refine Touches.on_port ?_ ?_
  all_goals repeat' first
    | with_reducible exact Touches.refl _ _
    | (show Blocks.within _ _ = true; rfl)
    | with_reducible exact rfl
    | fail_if_no_progress extract_lets
    | (with_reducible apply Touches.via; on_goal 1 => with_reducible first
      | apply State.reply_touches | apply State.emptyCache_touches)
    | with_reducible apply State.unlessRestoring_touches
    | with_reducible apply State.judged_touches
    | split
  all_goals (constructor <;> intro e <;> first | (cases e; done) | with_reducible rfl)

theorem State.dropVoice_touches (s : State) (voice : Nat) :
    Touches { voices := true } s (s.dropVoice voice) := by
  unfold State.dropVoice
  repeat' first
    | with_reducible exact Touches.refl _ _
    | (show Blocks.within _ _ = true; rfl)
    | with_reducible exact rfl
  all_goals (constructor <;> intro e <;> first | (cases e; done) | with_reducible rfl)

theorem State.invalidateVoice_touches (s : State) (tag : Byte) (voice : Nat) :
    Touches { voices := true, port := true } s (s.invalidateVoice tag voice) := by
  unfold State.invalidateVoice
  repeat' first
    | with_reducible exact Touches.refl _ _
    | (show Blocks.within _ _ = true; rfl)
    | (with_reducible apply Touches.via; on_goal 1 => with_reducible first
      | apply State.reply_touches | apply State.dropVoice_touches)
    | with_reducible apply State.unlessRestoring_touches
    | with_reducible apply State.judged_touches
    | split

theorem State.invalidateAll_touches (s : State) (tag : Byte) :
    Touches { voices := true, port := true } s (s.invalidateAll tag) := by
  unfold State.invalidateAll
  repeat' first
    | with_reducible exact Touches.refl _ _
    | (show Blocks.within _ _ = true; rfl)
    | (with_reducible apply Touches.via; on_goal 1 => with_reducible first
      | apply State.reply_touches | apply State.emptyCache_touches)
    | with_reducible apply State.unlessRestoring_touches

theorem State.calibrateQueue_touches (s : State) (tag : Byte) (j : Job) :
    Touches { calib := true, port := true } s (s.calibrateQueue tag j) := by
  unfold State.calibrateQueue
  repeat' first
    | with_reducible exact Touches.refl _ _
    | (show Blocks.within _ _ = true; rfl)
    | with_reducible exact rfl
    | (with_reducible apply Touches.via; on_goal 1 => with_reducible apply State.reply_touches)
    | with_reducible apply State.unlessRestoring_touches
    | with_reducible apply State.judged_touches
    | split
  all_goals (constructor <;> intro e <;> first | (cases e; done) | with_reducible rfl)

theorem State.calibrateAbort_touches (s : State) (tag : Byte) :
    Touches { sched := true, duplex := true, calib := true, port := true } s (s.calibrateAbort tag) := by
  unfold State.calibrateAbort
  repeat' first
    | with_reducible exact Touches.refl _ _
    | (show Blocks.within _ _ = true; rfl)
    | (with_reducible apply Touches.via; on_goal 1 => with_reducible first
      | apply State.reply_touches | apply State.abortJobs_touches)
    | with_reducible apply State.unlessRestoring_touches

theorem State.setProfile_touches (s : State) (tag : Byte) (f : RawProfile) :
    Touches { port := true } s (s.setProfile tag f) := by
  unfold State.setProfile
  repeat' first
    | with_reducible exact Touches.refl _ _
    | (show Blocks.within _ _ = true; rfl)
    | with_reducible exact rfl
    | (with_reducible apply Touches.via; on_goal 1 => with_reducible apply State.reply_touches)
    | with_reducible apply State.unlessStoring_touches
    | with_reducible apply State.judged_touches
    | split
  all_goals (constructor <;> intro e <;> first | (cases e; done) | with_reducible rfl)

theorem State.putOptions_touches (s : State) (values : List (OptionName × Nat)) :
    Touches { port := true } s (s.putOptions values) := by
  unfold State.putOptions
  repeat' first
    | with_reducible exact Touches.refl _ _
    | (show Blocks.within _ _ = true; rfl)
    | with_reducible exact rfl
    | fail_if_no_progress extract_lets
    | (with_reducible apply Touches.via; on_goal 1 => with_reducible apply State.startTimer_touches)
    | (with_reducible apply Touches.foldlOn; on_goal 2 => intro s a)
    | split
  all_goals (constructor <;> intro e <;> first | (cases e; done) | with_reducible rfl)

theorem State.setOptions_touches (s : State) (tag : Byte) (values : List (OptionName × Nat)) :
    Touches { port := true } s (s.setOptions tag values) := by
  unfold State.setOptions
  repeat' first
    | with_reducible exact Touches.refl _ _
    | (show Blocks.within _ _ = true; rfl)
    | fail_if_no_progress extract_lets
    | (with_reducible apply Touches.via; on_goal 1 => with_reducible first
      | apply State.reply_touches | apply State.putOptions_touches)
    | with_reducible apply State.unlessRestoring_touches
    | split
  all_goals (constructor <;> intro e <;> first | (cases e; done) | with_reducible rfl)

theorem State.readStatus_touches (s : State) (tag : Byte) (clear : Nat) :
    Touches { port := true } s (s.readStatus tag clear) := by
  unfold State.readStatus
  repeat' first
    | with_reducible exact Touches.refl _ _
    | (show Blocks.within _ _ = true; rfl)
    | with_reducible exact rfl
    | fail_if_no_progress extract_lets
    | (with_reducible apply Touches.via; on_goal 1 => with_reducible first
      | apply State.offer_touches | apply State.reply_touches)
    | split
    | (with_reducible apply Touches.ite <;> intro _)
  all_goals (constructor <;> intro e <;> first | (cases e; done) | with_reducible rfl)

theorem State.storeSave_touches (s : State) (tag : Byte) (first last : Nat) :
    Touches { port := true, store := true } s (s.storeSave tag first last) := by
  unfold State.storeSave
  repeat' first
    | with_reducible exact Touches.refl _ _
    | (show Blocks.within _ _ = true; rfl)
    | (with_reducible apply Touches.via; on_goal 1 => with_reducible first
      | apply State.reply_touches | apply State.beginSave_touches)
    | with_reducible apply State.unlessStoring_touches
    | with_reducible apply State.judged_touches
    | split

theorem State.storeRestore_touches (s : State) (tag : Byte) :
    Touches { voices := true, port := true, store := true } s (s.storeRestore tag) := by
  unfold State.storeRestore
  repeat' first
    | with_reducible exact Touches.refl _ _
    | (show Blocks.within _ _ = true; rfl)
    | (with_reducible apply Touches.via; on_goal 1 => with_reducible first
      | apply State.reply_touches | apply State.beginRestore_touches)
    | with_reducible apply State.unlessStoring_touches
    | split

theorem State.takeEvents_touches (s : State) (records : List EventRecord) :
    Touches { intake := true, port := true } s (s.takeEvents records) := by
  unfold State.takeEvents
  repeat' first
    | with_reducible exact Touches.refl _ _
    | (show Blocks.within _ _ = true; rfl)
    | (with_reducible apply Touches.via; on_goal 1 => with_reducible first
      | apply State.bumpTimes_touches | apply State.takeRecord_touches | apply State.bumpTimes_touches)
    | (with_reducible apply Touches.foldlOn; on_goal 2 => intro s a)
    | split

theorem State.setReceived_touches (s : State) (l : List Byte) :
    Touches { port := true } s (s.setReceived l) := by
  unfold State.setReceived
  repeat' first
    | with_reducible exact Touches.refl _ _
    | (show Blocks.within _ _ = true; rfl)
    | with_reducible exact rfl
  all_goals (constructor <;> intro e <;> first | (cases e; done) | with_reducible rfl)

theorem State.transmitDone_touches (s : State) :
    Touches { port := true } s (s.transmitDone) := by
  unfold State.transmitDone
  repeat' first
    | with_reducible exact Touches.refl _ _
    | (show Blocks.within _ _ = true; rfl)
    | with_reducible exact rfl
    | fail_if_no_progress extract_lets
    | (with_reducible apply Touches.via; on_goal 1 => with_reducible apply State.beginSending_touches)
    | split
    | (with_reducible apply Touches.ite <;> intro _)
  all_goals (constructor <;> intro e <;> first | (cases e; done) | with_reducible rfl)

theorem State.statusExpiry_touches (s : State) :
    Touches { port := true } s (s.statusExpiry) := by
  unfold State.statusExpiry
  repeat' first
    | with_reducible exact Touches.refl _ _
    | (show Blocks.within _ _ = true; rfl)
    | (with_reducible apply Touches.via; on_goal 1 => with_reducible first
      | apply State.hand_touches | apply State.startTimer_touches)
    | split

theorem State.releaseExpiry_touches (s : State) (k : Nat) :
    Touches { time := true, sched := true } s (s.releaseExpiry k) := by
  unfold State.releaseExpiry
  repeat' first
    | with_reducible exact Touches.refl _ _
    | (show Blocks.within _ _ = true; rfl)
    | with_reducible exact rfl
    | (with_reducible apply Touches.via; on_goal 1 => with_reducible first
      | apply State.redecide_touches | apply State.setTime_touches)
    | split
  all_goals (constructor <;> intro e <;> first | (cases e; done) | with_reducible rfl)

theorem State.yieldExpiry_touches (s : State) (k : Nat) :
    Touches { sched := true, duplex := true } s (s.yieldExpiry k) := by
  unfold State.yieldExpiry
  repeat' first
    | with_reducible exact Touches.refl _ _
    | (show Blocks.within _ _ = true; rfl)
    | (with_reducible apply Touches.via; on_goal 1 => with_reducible apply State.endYield_touches)
    | split

theorem State.passTick_touches (s : State) :
    Touches { time := true } s (s.passTick) := by
  unfold State.passTick
  repeat' first
    | with_reducible exact Touches.refl _ _
    | (show Blocks.within _ _ = true; rfl)
    | with_reducible exact rfl
    | (with_reducible apply Touches.via; on_goal 1 => with_reducible apply State.setTime_touches)
  all_goals (constructor <;> intro e <;> first | (cases e; done) | with_reducible rfl)

end Sys2Proof.Machine
end

