-- ==== Sys2Proof/Laws/Receive.lean ====
section
/-! SUPPORT. The receive side (R169, R170): bytes received one after the other are hunted through as one row of bytes, and the
hunt behind a damaged frame goes on in that frame's own bytes. -/

namespace Sys2Proof.Machine

/-! ### Handing a frame on -/

@[simp] theorem State.setReceived_setReceived (s : State) (k l : List Byte) :
    (s.setReceived k).setReceived l = s.setReceived l := rfl

@[simp] theorem State.setReceived_self (s : State) : s.setReceived s.port.received = s := rfl

/-- What is handed on does not depend on the bytes held. -/
@[simp] theorem State.setReceived_handOn (s : State) (f : Frame) (k rest : List Byte) :
    (s.setReceived k).handOn f rest = s.handOn f rest := rfl

/-- Where no reset comes, the hunt goes on in the bytes left to it. -/
theorem State.handOn_of_not_reset {s : State} {f : Frame} (h : s.resetsAtOnce f = false) (rest : List Byte) :
    s.handOn f rest = ((s.setReceived []).takeFrame f).setReceived rest := by
  simp [State.handOn, h]

/-- Where one comes, nothing is left of what was received. -/
theorem State.handOn_of_reset {s : State} {f : Frame} (h : s.resetsAtOnce f = true) (rest : List Byte) :
    s.handOn f rest = s.warmReset .restart := by
  unfold State.resetsAtOnce at h
  split at h
  · next tag payload =>
    simp only [Bool.and_eq_true, beq_iff_eq, Bool.not_eq_true', decide_eq_true_eq] at h
    obtain ⟨⟨⟨hr, hn⟩, hb⟩, hq⟩ := h
    have he : s.resetsAtOnce (.request tag payload) = true := by simp [State.resetsAtOnce, hr, hn, hb, hq]
    have hb' : (s.setReceived []).storeBusy = false := hb
    have hq' : ¬(s.setReceived []).queued < 64 := Nat.not_lt.2 hq
    unfold State.handOn
    simp only [he, if_true, State.takeFrame, State.heard, State.setReceived_port_restart, hn, State.takeRequest, hr,
      Request.timed, State.takeAtOnce, State.takeRestart, State.unlessStoring, hb', hq', if_false]
    rfl
  · cases h

/-- A hand-on leaves the bytes left to it, or, behind a reset, none. -/
theorem State.handOn_received (s : State) (f : Frame) (rest : List Byte) :
    (s.handOn f rest).port.received = rest ∨ (s.handOn f rest).port.received = [] := by
  cases h : s.resetsAtOnce f
  · left; rw [State.handOn_of_not_reset h]; rfl
  · right; rw [State.handOn_of_reset h]; rfl

/-- A damaged frame is counted, unless a Restart has been answered, and the hunt goes on in the bytes left to it. -/
theorem State.handOn_bad (s : State) (rest : List Byte) (h : s.port.restart = .none) :
    s.handOn .bad rest = (s.bump .frameErrors).setReceived rest := by
  rw [State.handOn_of_not_reset rfl]
  simp [State.takeFrame, State.heard, h]
  rfl

/-! ### The hunt -/

/-- A delimiter found is two bytes, and the body stands behind it. -/
theorem hunt_some_length {l body kept : List Byte} (h : hunt l = (some body, kept)) : body.length + 2 ≤ l.length := by
  induction l using hunt.induct with
  | case1 => simp [hunt] at h
  | case2 b => simp [hunt] at h
  | case3 a b l hd => simp only [hunt, if_pos hd] at h; cases h; simp
  | case4 a b l hd ih =>
    simp only [hunt, if_neg hd] at h
    have := ih h
    simp only [List.length_cons] at *
    omega

/-- More bytes behind a delimiter that was found. -/
theorem hunt_append_some {l body kept : List Byte} (h : hunt l = (some body, kept)) (x : List Byte) :
    ∃ k, hunt (l ++ x) = (some (body ++ x), k) := by
  induction l using hunt.induct with
  | case1 => simp [hunt] at h
  | case2 b => simp [hunt] at h
  | case3 a b l hd =>
    simp only [hunt, if_pos hd] at h
    cases h
    exact ⟨[], by simp [hunt, hd]⟩
  | case4 a b l hd ih =>
    simp only [hunt, if_neg hd] at h
    obtain ⟨k, hk⟩ := ih h
    exact ⟨k, by rw [List.cons_append, List.cons_append, hunt, if_neg hd]; exact hk⟩

/-- Where no delimiter is found, only what is kept matters to what comes. -/
theorem hunt_append_none {l kept : List Byte} (h : hunt l = (none, kept)) (x : List Byte) :
    hunt (l ++ x) = hunt (kept ++ x) := by
  induction l using hunt.induct with
  | case1 => simp only [hunt] at h; cases h; rfl
  | case2 b =>
    simp only [hunt] at h
    cases h
    split
    · rfl
    · next hb =>
      cases x with
      | nil => simp only [List.append_nil, hunt, if_neg hb]
      | cons c x => rw [List.cons_append, List.nil_append, hunt, if_neg (fun h => hb h.1)]
  | case3 a b l hd => simp only [hunt, if_pos hd] at h; cases h
  | case4 a b l hd ih =>
    simp only [hunt, if_neg hd] at h
    rw [List.cons_append, List.cons_append, hunt, if_neg hd]
    exact ih h

theorem fieldAt_append_left {l x : List Byte} {i width : Nat} (h : i + width ≤ l.length) :
    fieldAt (l ++ x) i width = fieldAt l i width := by
  unfold fieldAt
  rw [List.drop_append_of_le_length (by omega), List.take_append_of_le_length (by simp; omega)]

/-- A complete frame stays the frame it is, whatever comes behind it. -/
theorem completeFrame_append {body rest : List Byte} {f : Frame} (h : completeFrame body = some (f, rest)) (x : List Byte) :
    completeFrame (body ++ x) = some (f, rest ++ x) := by
  obtain ⟨hf, hl, hb, hg⟩ := completeFrame_some h
  have field (i width : Nat) (hi : i + width ≤ 4) : fieldAt (body ++ x) i width = fieldAt body i width :=
    fieldAt_append_left (by omega)
  have judge : judgeFrame (body ++ x) = judgeFrame body := by
    unfold judgeFrame
    simp only [field 3 1 (by omega), field 0 1 (by omega)]
    rw [List.drop_append_of_le_length (by omega), List.take_append_of_le_length (by simp; omega),
      List.take_append_of_le_length (by omega), List.drop_append_of_le_length (by omega),
      List.take_append_of_le_length (by simp; omega), List.getD_append (h := by omega)]
  unfold completeFrame frameSize
  rw [if_neg (by simp; omega)]
  simp only [field 3 1 (by omega), judge, ← hf]
  rw [if_neg (by simp; omega)]
  by_cases hbad : f = .bad
  · simp [hbad, hb hbad]
  · simp [hbad, hg hbad, List.drop_append_of_le_length hl]

/-- What is left to the hunt behind a complete frame is shorter than what was held. -/
theorem rest_length {l body kept rest : List Byte} {f : Frame} (h : hunt l = (some body, kept))
    (hc : completeFrame body = some (f, rest)) : rest.length + 2 ≤ l.length := by
  have hl := hunt_some_length h
  obtain ⟨-, -, hb, hg⟩ := completeFrame_some hc
  by_cases hbad : f = .bad
  · rw [hb hbad]; exact hl
  · rw [hg hbad, List.length_drop]; omega

/-- Fuel beyond the bytes held makes no difference. -/
theorem State.takeFrames_fuel (n m : Nat) (s : State) (hn : s.port.received.length < n) (hm : s.port.received.length < m) :
    State.takeFrames n s = State.takeFrames m s := by
  induction n generalizing m s with
  | zero => omega
  | succ n ih =>
    obtain ⟨m, rfl⟩ : ∃ k, m = k + 1 := ⟨m - 1, by omega⟩
    unfold State.takeFrames
    split
    · rfl
    · next body kept hh =>
      cases hc : completeFrame body with
      | none => rfl
      | some x =>
        have := rest_length hh hc
        have hl : (s.handOn x.1 x.2).port.received.length ≤ x.2.length := by
          rcases s.handOn_received x.1 x.2 with h | h <;> simp [h]
        exact ih m _ (by omega) (by omega)

/-- What is kept where no delimiter is found holds none either. -/
theorem hunt_kept {l kept : List Byte} (h : hunt l = (none, kept)) : hunt kept = (none, kept) := by
  have := hunt_append_none h []
  simpa [h] using this.symm

theorem hunt_kept_length {l kept : List Byte} (h : hunt l = (none, kept)) : kept.length ≤ l.length := by
  induction l using hunt.induct with
  | case1 => simp only [hunt] at h; cases h; simp
  | case2 b => simp only [hunt] at h; cases h; split <;> simp
  | case3 a b l hd => simp only [hunt, if_pos hd] at h; cases h
  | case4 a b l hd ih => simp only [hunt, if_neg hd] at h; have := ih h; simp at *; omega

/-- Nothing held is complete. -/
theorem State.takeFrames_idem (n m : Nat) (s : State) (hn : s.port.received.length < n)
    (hm : (State.takeFrames n s).port.received.length < m) :
    State.takeFrames m (State.takeFrames n s) = State.takeFrames n s := by
  obtain ⟨m, rfl⟩ : ∃ k, m = k + 1 := ⟨m - 1, by omega⟩
  clear hm
  induction n generalizing s with
  | zero => omega
  | succ n ih =>
    cases hh : hunt s.port.received with
    | mk found kept =>
      cases found with
      | none =>
        have e : State.takeFrames (n + 1) s = s.setReceived kept := by simp [State.takeFrames, hh]
        rw [e]; simp [State.takeFrames, hunt_kept hh]
      | some body =>
        cases hc : completeFrame body with
        | none =>
          have e : State.takeFrames (n + 1) s = s.setReceived (126 :: 165 :: body) := by simp [State.takeFrames, hh, hc]
          rw [e]; simp [State.takeFrames, hunt, hc]
        | some x =>
          have := rest_length hh hc
          have hl : (s.handOn x.1 x.2).port.received.length ≤ x.2.length := by
            rcases s.handOn_received x.1 x.2 with h | h <;> simp [h]
          have e : State.takeFrames (n + 1) s = State.takeFrames n (s.handOn x.1 x.2) := by
            simp [State.takeFrames, hh, hc]
          rw [e]
          exact ih _ (by omega)

/-! ### Bytes that bring no reset -/

/-- No Restart frame stands in the bytes. -/
def RestartFree (l : List Byte) : Prop := ∀ tag space before after, l ≠ before ++ portFrame 2 tag space [26] ++ after

/-- No frame in the bytes resets the part: there is no Restart among them, or one has been answered. -/
def State.Calm (s : State) (l : List Byte) : Prop := s.port.restart ≠ .none ∨ RestartFree l

theorem RestartFree.suffix {l m : List Byte} (h : RestartFree (l ++ m)) : RestartFree m :=
  fun tag space before after e => h tag space (l ++ before) after (by simp [e])

theorem RestartFree.left {l m : List Byte} (h : RestartFree (l ++ m)) : RestartFree l :=
  fun tag space before after e => h tag space before (after ++ m) (by simp [e])

/-- The one payload of a Restart. -/
theorem readRequest_restart {p : List Byte} (h : readRequest p = .good .restart) : p = [26] := by
  unfold readRequest at h
  simp only at h
  have short : ∀ n r, r ≠ Request.restart → ofLength p n r ≠ .good .restart := by
    intro n r hr; unfold ofLength; split <;> simp [hr]
  split at h
  case h_26 hc =>
    have hl : p.length = 1 := by
      unfold ofLength at h; split at h
      · assumption
      · cases h
    match p, hl with
    | [b], _ =>
      have : b.toNat = 26 := by simpa [fieldAt, bytesNum] using hc
      simp only [List.cons.injEq, and_true]
      exact BitVec.eq_of_toNat_eq this
  case h_6 =>
    unfold readSetCue at h
    simp only at h
    split at h
    · cases h
    · split at h
      · cases h
      · split at h <;> cases h
  case h_16 =>
    unfold readWritePage at h
    simp only at h
    split at h
    · cases h
    · split at h
      · exact absurd h (short _ _ (by simp))
      · split at h
        · exact absurd h (short _ _ (by simp))
        · split at h
          · exact absurd h (short _ _ (by simp))
          · cases h
  case h_24 =>
    unfold readSetOptions at h
    simp only at h
    split at h
    · cases h
    · exact absurd h (short _ _ (by simp))
  all_goals first | exact absurd h (short _ _ (by simp)) | cases h

/-- A Restart that is found complete is a Restart frame's bytes. -/
theorem judgeFrame_restart {body payload : List Byte} {tag : Byte} (hl : 6 + fieldAt body 3 1 ≤ body.length)
    (h : judgeFrame body = .request tag payload) (hp : payload = [26]) :
    ∃ space after, 126 :: 165 :: body = portFrame 2 tag space [26] ++ after := by
  match body, hl with
  | a :: b :: c :: d :: l, hl =>
    have hd : fieldAt (a :: b :: c :: d :: l) 3 1 = d.toNat := by simp [fieldAt, bytesNum]
    rw [hd] at hl
    simp only [List.length_cons] at hl
    unfold judgeFrame at h
    simp only [hd] at h
    split at h
    · next hcrc =>
      unfold judgePayload at h
      split at h
      · split at h
        · cases h
        · split at h <;> cases h
      · split at h
        · next hk =>
          split at h
          · cases h
          · injection h with ht hpay
            rw [hp] at hpay
            have len := congrArg List.length hpay
            simp only [List.drop_succ_cons, List.drop_zero, List.length_take, List.length_cons, List.length_nil] at len
            have h1 : d.toNat = 1 := by omega
            rw [h1] at hpay hcrc
            match l, hl with
            | e :: x :: y :: r, _ =>
              have he : e = 26 := by simpa using hpay
              have ha : a = 2 := by
                apply BitVec.eq_of_toNat_eq; simpa [fieldAt, bytesNum] using hk
              have hd1 : d = 1 := BitVec.eq_of_toNat_eq h1
              have hb : b = tag := by simpa using ht
              subst he ha hd1 hb
              refine ⟨c, r, ?_⟩
              simp at hcrc
              simp [portFrame, portBody, ← hcrc]
            | [e, x], hl => simp at hl; omega
            | [e], hl => simp at hl; omega
            | [], hl => simp at hl; omega
        · cases h
    · cases h
  | [], hl => simp at hl
  | [_], hl => simp at hl; omega
  | [_, _], hl => simp at hl; omega
  | [_, _, _], hl => simp at hl; omega

/-- The delimiter found and the bytes behind it end the bytes hunted through. -/
theorem hunt_some_split {l body kept : List Byte} (h : hunt l = (some body, kept)) :
    ∃ before, l = before ++ 126 :: 165 :: body := by
  induction l using hunt.induct with
  | case1 => simp [hunt] at h
  | case2 b => simp [hunt] at h
  | case3 a b l hd => simp only [hunt, if_pos hd] at h; cases h; exact ⟨[], by simp [hd]⟩
  | case4 a b l hd ih =>
    simp only [hunt, if_neg hd] at h
    obtain ⟨k, hk⟩ := ih h
    exact ⟨a :: k, by simp [hk]⟩

/-- What is kept ends the bytes hunted through. -/
theorem hunt_none_split {l kept : List Byte} (h : hunt l = (none, kept)) : ∃ before, l = before ++ kept := by
  induction l using hunt.induct with
  | case1 => simp only [hunt] at h; cases h; exact ⟨[], rfl⟩
  | case2 b =>
    simp only [hunt] at h; cases h
    split
    · exact ⟨[], rfl⟩
    · exact ⟨[b], rfl⟩
  | case3 a b l hd => simp only [hunt, if_pos hd] at h; cases h
  | case4 a b l hd ih =>
    simp only [hunt, if_neg hd] at h
    obtain ⟨k, hk⟩ := ih h
    exact ⟨a :: k, by simp [hk]⟩

/-- A frame found in calm bytes brings no reset, and what is left to the hunt is calm again. -/
theorem State.Calm.handOn {s : State} {l body kept rest : List Byte} {f : Frame} (x : List Byte) (c : s.Calm (l ++ x))
    (h : hunt l = (some body, kept)) (hc : completeFrame body = some (f, rest)) :
    s.resetsAtOnce f = false ∧ (s.handOn f rest).Calm (rest ++ x) := by
  obtain ⟨hf, hl, hb, hg⟩ := completeFrame_some hc
  obtain ⟨before, hs⟩ := hunt_some_split h
  have quiet : s.resetsAtOnce f = false := by
    cases hr : s.resetsAtOnce f
    · rfl
    · unfold State.resetsAtOnce at hr
      split at hr
      · next tag payload =>
        simp only [Bool.and_eq_true, beq_iff_eq, Bool.not_eq_true', decide_eq_true_eq] at hr
        obtain ⟨space, after, e⟩ := judgeFrame_restart hl hf.symm (readRequest_restart hr.1.1.1)
        rcases c with c | c
        · exact absurd hr.1.1.2 c
        · exact absurd (by rw [hs, e]; simp) (c tag space before (after ++ x))
      · cases hr
  refine ⟨quiet, ?_⟩
  rcases c with c | c
  · left
    rw [State.handOn_of_not_reset quiet]
    have hk : (s.setReceived []).takeFrame f = s.setReceived [] := by
      unfold State.takeFrame
      exact if_neg c
    rw [hk]; exact c
  · right
    by_cases hbad : f = .bad
    · have : l ++ x = (before ++ [126, 165]) ++ (rest ++ x) := by rw [hb hbad, hs]; simp
      exact RestartFree.suffix (this ▸ c)
    · have : l ++ x = (before ++ [126, 165] ++ body.take (6 + fieldAt body 3 1)) ++ (rest ++ x) := by
        rw [hg hbad, hs]; simp [← List.append_assoc (List.take _ body)]
      exact RestartFree.suffix (this ▸ c)

/-! ### Bytes one after the other, or all at once -/

/-- The hunt over some calm bytes and then over more goes as the hunt over all of them, and what is held in between is calm with
what comes. -/
theorem State.takeFrames_append (n m k : Nat) (s t : State) (l x : List Byte) (hl : l.length < n)
    (ht : t = State.takeFrames n (s.setReceived l)) (hm : (l ++ x).length < m) (hk : (t.port.received ++ x).length < k)
    (c : s.Calm (l ++ x)) :
    State.takeFrames m (s.setReceived (l ++ x)) = State.takeFrames k (t.setReceived (t.port.received ++ x)) ∧
      t.Calm (t.port.received ++ x) := by
  induction n generalizing m s l with
  | zero => omega
  | succ n ih =>
    obtain ⟨m, rfl⟩ : ∃ j, m = j + 1 := ⟨m - 1, by omega⟩
    cases hh : hunt l with
    | mk found kept =>
      cases found with
      | none =>
        have e : t = s.setReceived kept := by rw [ht]; simp [State.takeFrames, hh]
        subst e
        obtain ⟨k, rfl⟩ : ∃ j, k = j + 1 := ⟨k - 1, by omega⟩
        have hx := hunt_append_none hh x
        refine ⟨?_, ?_⟩
        · rw [State.takeFrames_fuel (m + 1) (k + 1 + (m + 1)) _ (by simpa using hm) (by simp at hm ⊢; omega),
            State.takeFrames_fuel (k + 1) (k + 1 + (m + 1)) _ (by simpa using hk) (by simp at hk ⊢; omega)]
          simp only [State.setReceived_port_received, State.setReceived_setReceived]
          rw [show k + 1 + (m + 1) = (k + 1 + m) + 1 by omega]
          unfold State.takeFrames
          simp [hx]
        · obtain ⟨before, hb⟩ := hunt_none_split hh
          rcases c with c | c
          · exact .inl c
          · exact .inr (RestartFree.suffix (l := before) (by simpa [hb] using c))
      | some body =>
        obtain ⟨kx, hx⟩ := hunt_append_some hh x
        cases hc : completeFrame body with
        | none =>
          have e : t = s.setReceived (126 :: 165 :: body) := by rw [ht]; simp [State.takeFrames, hh, hc]
          subst e
          refine ⟨?_, ?_⟩
          · rw [State.takeFrames_fuel (m + 1) (k + (m + 1)) _ (by simpa using hm) (by simp at hm ⊢; omega),
              State.takeFrames_fuel k (k + (m + 1)) _ (by simpa using hk) (by simp at hk ⊢; omega)]
            simp only [State.setReceived_port_received, State.setReceived_setReceived]
            rw [show k + (m + 1) = (k + m) + 1 by omega]
            unfold State.takeFrames
            have hy : hunt (126 :: 165 :: body ++ x) = (some (body ++ x), []) := by simp [hunt]
            simp only [State.setReceived_port_received, hx, hy, State.setReceived_setReceived, State.setReceived_handOn]
          · obtain ⟨before, hb⟩ := hunt_some_split hh
            rcases c with c | c
            · exact .inl c
            · exact .inr (RestartFree.suffix (l := before) (by simpa [hb] using c))
        | some y =>
          obtain ⟨f, rest⟩ := y
          have hr := rest_length hh hc
          have hy := completeFrame_append hc x
          obtain ⟨quiet, calm⟩ := State.Calm.handOn x c hh hc
          have same (r : List Byte) : (s.handOn f rest).setReceived r = s.handOn f r := by
            rw [State.handOn_of_not_reset quiet, State.handOn_of_not_reset quiet]; rfl
          have e : t = State.takeFrames n ((s.handOn f rest).setReceived rest) := by
            rw [ht, same]; simp [State.takeFrames, hh, hc]
          have := ih (m := m) (s := s.handOn f rest) (l := rest) (by omega) e (by simp at hm ⊢; omega) calm
          rw [same] at this
          rw [← this.1]
          exact ⟨by simp [State.takeFrames, hx, hy], this.2⟩

/-- Calm bytes received one after the other are hunted through as one row of bytes, behind what a settled receive side held. -/
theorem State.receiveBytes_eq (bytes : List Byte) (m : Nat) (s : State)
    (settled : ∀ k, s.port.received.length < k → State.takeFrames k s = s)
    (hm : (s.port.received ++ bytes).length < m) (c : s.Calm (s.port.received ++ bytes)) :
    s.receiveBytes bytes = State.takeFrames m (s.setReceived (s.port.received ++ bytes)) := by
  induction bytes generalizing s m with
  | nil => simpa [State.receiveBytes] using (settled m (by simpa using hm)).symm
  | cons b l ih =>
    have hb : (s.setReceived (s.port.received ++ [b])).port.received.length < s.port.received.length + 2 := by simp
    have both := State.takeFrames_append (s.port.received.length + 2) m
      ((s.receiveByte b).port.received.length + l.length + 1) s (s.receiveByte b) (s.port.received ++ [b]) l (by simp) rfl
      (by simpa using hm) (by simp) (by simpa using c)
    have later := ih (s := s.receiveByte b) (m := (s.receiveByte b).port.received.length + l.length + 1)
      (fun k hk => State.takeFrames_idem _ _ _ hb hk) (by simp) both.2
    show (s.receiveByte b).receiveBytes l = _
    rw [later, ← both.1]
    simp

/-- The same from a receive side that holds nothing. -/
theorem State.receiveBytes_of_nil (bytes : List Byte) (m : Nat) (s : State) (h : s.port.received = [])
    (hm : bytes.length < m) (c : s.Calm bytes) : s.receiveBytes bytes = State.takeFrames m (s.setReceived bytes) := by
  have settled : ∀ k, s.port.received.length < k → State.takeFrames k s = s := by
    intro k hk
    obtain ⟨k, rfl⟩ : ∃ j, k = j + 1 := ⟨k - 1, by omega⟩
    unfold State.takeFrames
    simp only [h, hunt]
    rw [← h]
    rfl
  have := State.receiveBytes_eq bytes m s settled (by simpa [h] using hm) (by simpa [h] using c)
  simpa [h] using this

end Sys2Proof.Machine
end

