-- ==== Sys2Proof/Laws/Units.lean ====
section
/-! SUPPORT. The Strike Calculator's stages (R108, R111, R113) and the Calibration Store's blocks (R181, R183, R184): the
ranges and cases of each. -/

namespace Sys2Proof.Machine

/-! ### Stages of a computation -/

/-- A time in ticks covers it, by less than one tick too much (00, "Arithmetic"). -/
theorem ticksUp_bounds (us : Nat) : us ≤ 10 * ticksUp us ∧ 10 * ticksUp us < us + 10 := by
  unfold ticksUp; omega

/-- R108: the limited velocity lies on the page. -/
theorem limitTo_bounds (points : List Breakpoint) (v : Nat) (h : (curveEnds points).1 ≤ (curveEnds points).2) :
    (curveEnds points).1 ≤ (limitTo points v).1 ∧ (limitTo points v).1 ≤ (curveEnds points).2 := by
  simp only [limitTo]
  split
  · omega
  · split <;> omega

/-- R111: a derated level is at most 1023, at most 768 while the station is hot, and not below a level that was within. -/
theorem derate_bounds (d : Nat) (f : Feed) :
    (derate d f).1 ≤ (if f.hot then 768 else 1023) ∧ min d 768 ≤ (derate d f).1 := by
  have hfac : d ≤ d * derateFactor f / 1000 := by
    rw [Nat.le_div_iff_mul_le (by decide)]
    exact Nat.mul_le_mul_left _ (by unfold derateFactor; omega)
  simp only [derate, Config.topLevel, Config.hotCap]
  generalize d * derateFactor f / 1000 = d2 at *
  by_cases h1 : 1023 < d2 <;> by_cases h2 : 768 < d2 <;> cases f.hot <;> simp [h1, h2] <;> omega

/-- R113: the onset to use is never before E; a strike in time keeps its own. -/
theorem lateness_cases (onset : Int) (earliest tolerance : Nat) :
    (earliest : Int) ≤ onset ∧ lateness onset earliest tolerance = (.computed, onset.toNat, 0) ∨
      onset < earliest ∧ (lateness onset earliest tolerance).2 = (earliest, ((earliest : Int) - onset).toNat) ∧
        ((lateness onset earliest tolerance).1 = .stale ↔ tolerance < ((earliest : Int) - onset).toNat) := by
  unfold lateness
  split
  · exact .inl ⟨by assumption, rfl⟩
  · right
    refine ⟨by omega, ?_, ?_⟩ <;> simp only
    · split <;> rfl
    · split <;> simp <;> omega

theorem earliest_le_lateness (onset : Int) (earliest tolerance : Nat) :
    earliest ≤ (lateness onset earliest tolerance).2.1 := by
  rcases lateness_cases onset earliest tolerance with ⟨h, e⟩ | ⟨-, e, -⟩ <;> rw [e] <;> simp; omega

/-! ### Blocks of the store -/

theorem goodContent_seal {b : Nat} {c : BlockContent} (h : contentValid b c = true) : goodContent b (sealBlock c) = some c := by
  simp [goodContent, sealBlock, h]

theorem goodContent_some {b : Nat} {x : StoreBlock} {c : BlockContent} (h : goodContent b x = some c) :
    contentValid b c = true := by
  unfold goodContent at h
  split at h
  · cases h
  · cases h
  · split at h
    · next hc => cases h; exact hc.2
    · cases h

/-- A block loaded with a content of its kind holds it. -/
theorem TableMemory.block_load_self (m : TableMemory) {b : Nat} {c : BlockContent} (hb : b ≤ 36)
    (h : contentValid b c = true) : (m.load b c).block b = some c := by
  cases c with
  | voicing set =>
    have h4 : b < 4 := by simp [contentValid] at h; exact h.1
    simp [TableMemory.load, TableMemory.block, h4]
  | sense table =>
    have h4 : b = 4 := by simp [contentValid] at h; exact h.1.1
    subst h4; simp [TableMemory.load, TableMemory.block]
  | pages slots =>
    have h5 : 5 ≤ b := by simp [contentValid] at h; exact h.1.1
    have h1 : ¬ b < 5 := by omega
    have h2 : ¬ b < 4 := by omega
    have h3 : b ≠ 4 := by omega
    have h6 : b - 5 < 32 := by omega
    simp [TableMemory.load, TableMemory.block, h1, h2, h3, h6]

/-- A load leaves every other block as it was. -/
theorem TableMemory.block_load_ne (m : TableMemory) {a b : Nat} {c : BlockContent} (h : contentValid b c = true)
    (hab : a ≠ b) : (m.load b c).block a = m.block a := by
  cases c with
  | voicing set =>
    simp only [TableMemory.load, TableMemory.block, Vector.getElem?_setIfInBounds, if_neg (Ne.symm hab)]
  | sense table =>
    have h4 : b = 4 := by simp [contentValid] at h; exact h.1.1
    subst h4
    simp only [TableMemory.load, TableMemory.block, if_neg hab]
  | pages slots =>
    have h5 : 5 ≤ b := by simp [contentValid] at h; exact h.1.1
    have h1 : ¬ b < 5 := by omega
    simp only [TableMemory.load, if_neg h1, TableMemory.block]
    split
    · rfl
    · split
      · rfl
      · have : b - 5 ≠ a - 5 := by omega
        simp [this]

/-- A save at its next block: StoreDone with nothing more in flight, or the erase of an unprotected block of the range. -/
theorem State.saveFrom_cases (fuel : Nat) (s : State) (op : SaveOp) :
    (∃ results, State.saveFrom fuel s op = (s.setOp .idle).report (.saveDone op.first op.last results)) ∨
      ∃ b results, op.block ≤ b ∧ b ≤ op.last ∧ b < op.boundary ∧
        State.saveFrom fuel s op = s.setOp (.save { op with stage := .erasing, block := b, results := results }) := by
  induction fuel generalizing op with
  | zero => exact .inl ⟨_, rfl⟩
  | succ n ih =>
    unfold State.saveFrom
    split
    · exact .inl ⟨_, rfl⟩
    · split
      · rcases ih { op with block := op.block + 1, results := op.results ++ [.guarded] } with ⟨r, h⟩ | ⟨b, r, h1, h2, h3, h⟩
        · exact .inl ⟨r, h⟩
        · exact .inr ⟨b, r, Nat.le_of_succ_le h1, h2, h3, h⟩
      · exact .inr ⟨op.block, op.results, Nat.le_refl _, by omega, by omega, rfl⟩

end Sys2Proof.Machine
end

