-- ==== Sys2Proof/Tests/Slice0.lean ====
section
/-! SUPPORT. Tests: an ill-formed command for each check of well-formedness; the manual's worked cases, one or two per
command; and for each statement with hypotheses a state that meets them. Expected values are the manual's own. -/

namespace Sys2Proof.Tests

-- one at a time: evaluations side by side would each hold a thread
set_option Elab.async false

open Sys2Proof Sys2Proof.Machine

/-! ### Small states -/

/-- The state a command leads to. -/
def run (c : Instr) (s : State) : State :=
  match exec c s with
  | .next t => t
  | .fault _ => s
  | .refused _ => s

/-- The part with its restore over and its transmit side empty. -/
def rested : State :=
  { State.reset with
    store := { State.reset.store with op := .idle }, port := { State.reset.port with queue := [], line := none } }

/-- A Combined station for all keys and pedals, with the values of the worked case of 7.3. -/
def board : RosterEntry :=
  { present := true, role := .combined, firstKey := 1, lastKey := 88, pedals := 7, temperature := 41, measured := true,
    alpha := 3, arrival := 140, latency := 350, missing := 0 }

/-- The profile of an 88-key instrument with one station. -/
def profile88 : Profile := { keyCount := 88, stations := 1, boundary := 37, autoPermit := false }

/-- A link state, with the board in the roster. -/
def linked (l : LinkState) : State :=
  { rested with
    link := { rested.link with state := l, roster := setNth rested.link.roster 1 (some board) },
    port := { rested.port with profile := some profile88 } }

/-- A take running in a mode, in take cycle `c`, with take base 0 and the link DRIVING. -/
def playing (m : Mode) (c : Nat) : State :=
  { linked .driving with
    time := { rested.time with mode := m, transport := .running, takeBase := some 0, linkCycle := c } }

/-- A take paused in take cycle 100. -/
def paused (m : Mode) (c : Nat) : State :=
  { playing m c with
    time := { (playing m c).time with transport := .paused, pauseStart := some 2000 } }

/-- The part with a store operation. -/
def storing (op : StoreOp) : State := rested.setOp op

/-- The page of the worked case of 7.3. -/
def points : List Breakpoint := [⟨400, 180, 24000⟩, ⟨1200, 420, 9000⟩, ⟨3000, 760, 4200⟩]
def scalars : Scalars := { attack := 12000, hold := 300, rearm := 35000, silentLead := 18000 }

/-- A save of blocks 17 to 19 at a stage of block 17. -/
def saveAt (stage : SaveStage) : SaveOp :=
  { stage := stage, block := 17, first := 17, last := 19, boundary := 37, written := .erased, results := [] }

/-- An Attack entry and its Off. -/
def attackEntry (k onset id : Nat) : Entry :=
  { kind := .attack, onset := onset, target := k, level := 500, holdLevel := 300, attack := 1200, rearm := 3500,
    via := some ⟨40, 0⟩, note := some id, marker := 0, strike := onset + 736, velocity := 2000 }
def offEntry (k onset id : Nat) : Entry :=
  { kind := .off, onset := onset, target := k, level := 0, holdLevel := 0, attack := 0, rearm := 3500, via := none,
    note := some id, marker := 0, strike := 0, velocity := 0 }

/-! ### Well-formedness: each check refuses an ill-formed command -/

theorem test_wf_start_orders : Instr.wellFormed (.cycleStart [.frame, .frame]) = false ∧
    Instr.wellFormed (.cycleStart [.release, .release]) = false ∧
    Instr.wellFormed (.cycleStart [.retry, .frame, .retry]) = false := by decide +kernel

theorem test_wf_keys : Instr.wellFormed (.releaseEndExpiry 0) = false ∧ Instr.wellFormed (.yieldWaitEnd 98) = false ∧
    Instr.wellFormed (.windowExpiry 98) = false ∧ Instr.wellFormed (.clearKeyFault 0 256) = false := by decide +kernel

theorem test_wf_time_requests : Instr.wellFormed (.transportStart 0 65536) = false ∧
    Instr.wellFormed (.setCue 0 0 5) = false ∧ Instr.wellFormed (.setCue 0 1 4294967296) = false ∧
    Instr.wellFormed (.setMode 0 256) = false := by decide +kernel

theorem test_wf_frames : Instr.wellFormed (.eventsFrame 0 []) = false ∧
    Instr.wellFormed (.eventsFrame 0 [⟨.strike, 256, 0, 0⟩]) = false ∧
    Instr.wellFormed (.eventsFrame 0 [⟨.strike, 0, 65536, 0⟩]) = false ∧
    Instr.wellFormed (.eventsFrame 0 (List.replicate 31 ⟨.release, 1, 0, 0⟩)) = false ∧
    Instr.wellFormed (.requestFrame 0 []) = false ∧ Instr.wellFormed (.requestFrame 0 (List.replicate 241 0)) = false := by
  decide +kernel

theorem test_wf_tables : Instr.wellFormed (.writeKeySense 0 1 256 0 0 0) = false ∧
    Instr.wellFormed (.readKeySense 0 256 0) = false ∧
    Instr.wellFormed (.writeDescriptor 0 0 0 ⟨0, 0, 0, 65536, 0, 0, 0⟩) = false ∧
    Instr.wellFormed (.readDescriptor 0 256 0) = false ∧ Instr.wellFormed (.writePage 0 65536 .empty) = false ∧
    Instr.wellFormed (.writePage 0 0 (.other 2)) = false ∧
    Instr.wellFormed (.writePage 0 0 (.strike (List.replicate 38 ⟨1, 1, 1⟩) scalars)) = false ∧
    Instr.wellFormed (.writePage 0 0 (.pedal [⟨65536, 1, 1⟩])) = false ∧ Instr.wellFormed (.readPage 0 65536) = false := by
  decide +kernel

theorem test_wf_others : Instr.wellFormed (.selectVoicing 0 256) = false ∧
    Instr.wellFormed (.invalidateVoice 0 256) = false ∧
    Instr.wellFormed (.calibrateQueue 0 ⟨1, 65536, 4, 1, 2, 1, 250⟩) = false ∧
    Instr.wellFormed (.setProfile 0 ⟨256, 1, 0, 0⟩) = false ∧
    Instr.wellFormed (.setOptions 0 [(.lookAhead, 4), (.lateTolerance, 4)]) = false ∧
    Instr.wellFormed (.setOptions 0 [(.lookAhead, 4294967296)]) = false ∧
    Instr.wellFormed (.readStatus 0 256) = false ∧ Instr.wellFormed (.storeSave 0 0 256) = false := by decide +kernel

/-! ### The arithmetic of the worked cases -/

/-- 7.3: the worked strike. -/
theorem test_strike_computed :
    computeStrike points scalars 1040 2000 ⟨140, 350, 3, 41, false⟩ ⟨130000, 120060, 3000, 1000⟩ =
      { outcome := .computed, onset := 129264, strike := some 130000, level := 621, holdLevel := 326, attack := 1200,
        rearm := 3500, velocity := 2000, clamped := false, saturatedLevel := false, saturatedHold := false } := by decide +kernel

/-- 7.3: the same record admitted in take cycles 6,600 and 6,700. -/
theorem test_strike_late_and_stale :
    let late := computeStrike points scalars 1040 2000 ⟨140, 350, 3, 41, false⟩ ⟨130000, 132060, 3000, 1000⟩
    let stale := computeStrike points scalars 1040 2000 ⟨140, 350, 3, 41, false⟩ ⟨130000, 134060, 3000, 1000⟩
    late.outcome = .late ∧ late.onset = 132060 ∧ late.strike = some 132796 ∧ stale.outcome = .stale := by decide +kernel

/-- R115: the silent press of voice 40 with T = 140,000. -/
theorem test_silent_press :
    let c := computeSilent scalars 1040 ⟨140, 350, 3, 41, false⟩ ⟨145000, 120060, 3000, 1000⟩
    c.onset = 143151 ∧ c.level = 326 ∧ c.rearm = 3500 ∧ c.strike = none := by decide +kernel

/-- 7.5: the releases with T = 126,500, 125,800 and 125,100. -/
theorem test_release_ticks :
    [131500, 130800, 130100].map (fun due => releaseTick 129264 1200 ⟨140, 350, 3, 41, false⟩ ⟨due, 60, 3000, 1000⟩) =
      [131451, 130751, 130464] := by decide +kernel

/-- 7.6: the inverted damper. -/
theorem test_inverted_damper :
    computePedal [⟨20, 0, 30000⟩, ⟨100, 260, 26000⟩, ⟨255, 610, 18000⟩] true 1000 70 ⟨90, 420, 4, 30, false⟩
        ⟨313000, 312060, 3000, 1000⟩ =
      { onset := 312060, level := 461, late := true, clamped := false, saturated := false } := by decide +kernel

/-- 6, worked sequence: the old and the new page read at velocity 1200, and their leads. -/
theorem test_stale_page :
    readCurve points 1200 = (420, 9000) ∧ leadTicks 9000 ⟨140, 350, 0, 25, false⟩ = 949 ∧
      readCurve [⟨400, 190, 23500⟩, ⟨1200, 450, 8800⟩, ⟨3000, 790, 4100⟩] 1200 = (450, 8800) ∧
      leadTicks 8800 ⟨140, 350, 0, 25, false⟩ = 929 := by decide +kernel

/-- 4.3: the velocity, offset and stamp of the worked strike, and of the repetition. -/
theorem test_capture_arithmetic :
    interval ⟨45118, 130⟩ ⟨45124, 10⟩ = 1080 ∧ strokeVelocity 2500 1080 = 2315 ∧ strikeOffset 1800 2315 = 777 ∧
      strokeVelocity 2500 1740 = 1437 ∧ strikeOffset 1800 1437 = 1252 ∧ crossingStamp 5300 40 = 106004 := by decide +kernel

/-- 4, damper: the positions of the raw readings. -/
theorem test_pedal_positions :
    [300, 520, 540, 600, 3790, 3810].map (pedalPosition ⟨300, 3800, 2⟩) = [0, 16, 17, 21, 254, 255] := by decide +kernel

/-- 9: the verified strike's step and trim, and the missed one's. -/
theorem test_trim_steps : verifiedStep 2000 1880 = 7 ∧ newTrim 1040 7 = 1047 ∧ newTrim 1047 missedStep = 1072 := by decide +kernel

/-- 10: the levels of the worked job, the flights of its first level, and the breakpoints kept. -/
theorem test_worked_job :
    jobLevels ⟨40, 210, 5, 150, 850, 2, 500⟩ = [150, 325, 500, 675, 850] ∧
      calibrationFlight 6028470 600060 140 350 = 27380 ∧ calibrationFlight 6528511 650060 140 350 = 27421 ∧
      keptPoints (keepMarks none [⟨150, 2, some (310, 27400)⟩, ⟨325, 2, some (820, 12900)⟩, ⟨500, 2, some (790, 13400)⟩,
        ⟨675, 2, some (2050, 6100)⟩, ⟨850, 2, some (3400, 3900)⟩]) =
        [⟨310, 150, 27400⟩, ⟨820, 325, 12900⟩, ⟨2050, 675, 6100⟩, ⟨3400, 850, 3900⟩] := by decide +kernel

/-- The CRC-16 of both links has the published check value of its polynomial, initial value and form. -/
theorem test_crc_check : crc16 [0x31, 0x32, 0x33, 0x34, 0x35, 0x36, 0x37, 0x38, 0x39] = 0x29B1 := by decide +kernel

/-- 3, worked sequence: two Urgent notices written in one cycle leave a slot that is judged spoiled. -/
theorem test_slot_collision :
    judgeSlot (Notice.slot ⟨2, 1, 17, 0⟩) = .notice ⟨2, 1, 17, 0⟩ ∧
      judgeSlot (contendSlot ⟨2, 1, 17, 0⟩ (Notice.slot ⟨5, 4, 0, 0⟩)) = .spoiled := by decide +kernel

/-- 3, worked sequence: a station with one Urgent notice counts eight Idle echoes and writes at the eighth. -/
theorem test_slot_access :
    let start : SlotRecord := ⟨2, [⟨⟨2, 1, 17, 0⟩, true⟩], 0, 0, false, false, false⟩
    let seven := (List.replicate 7 Echo.idle).foldl (fun r e => (r.frame e).1) start
    seven.idles = 7 ∧ (seven.frame .idle).2 = some ⟨2, 1, 17, 0⟩ ∧
      (((seven.frame .idle).1.frame .collision).1.backoff) = 2 := by decide +kernel

/-! ### Resets -/

/-- R178, R184: power applied in the middle of a take. -/
theorem test_power_on :
    let t := run .powerOn (playing .duplex 7)
    t.time = TimeBase.initial ∧ t.link.state = .down ∧ t.port.cause = .powerOn ∧ t.port.profile = none ∧
      t.store.op = .restore ⟨0, .automatic, []⟩ := by decide +kernel

/-- 12, worked sequence: power fails while block 18 is being programmed; its next restore finds it bad. -/
theorem test_supply_low :
    let op : SaveOp := { saveAt .programming with block := 18, results := [.saved] }
    let t := run .coldResetSupplyLow (storing (.save op))
    t.port.cause = .supplyLow ∧ t.storeBlock 18 = .partly ∧ goodContent 18 (t.storeBlock 18) = none := by decide +kernel

/-- R178: the reset pin keeps Table Memory and starts no restore. -/
theorem test_reset_pin :
    let s := { playing .replay 7 with mem := rested.mem.setPage 210 (some (.pedal [⟨0, 0, 0⟩, ⟨255, 900, 0⟩])) }
    let t := run .resetPin s
    t.mem.page 210 = some (.pedal [⟨0, 0, 0⟩, ⟨255, 900, 0⟩]) ∧ t.port.cause = .pin ∧ t.store.op = .idle := by
  decide +kernel

/-- R179: the reset of a Restart comes only once its Reply has been sent. -/
theorem test_restart_reset :
    let s := run (.restart 9) (linked .ready)
    (run .restartReset s).link.state = .ready ∧ (run .restartReset (run .transmitComplete s)).link.state = .down ∧
      (run .restartReset (run .transmitComplete s)).port.cause = .restart := by decide +kernel

/-! ### Cycle starts -/

/-- R1, R16: the first cycle start after a reset is 1, and after 4,294,967,295 comes 0. -/
theorem test_cycle_start_counts :
    (run (.cycleStart []) State.reset).time.linkCycle = 1 ∧
      (run (.cycleStart []) { rested with time := { rested.time with linkCycle := 4294967295 } }).time.linkCycle = 0 := by
  decide +kernel

/-- The entries of the crowded section of 8.4: 2 Offs, 23 Attacks, the last of key 88 with its Off, two PedalSets. -/
def crowd : List Entry :=
  let pedal (onset : Nat) : Entry := { offEntry 1 onset 0 with kind := .pedalSet, level := 140, note := none }
  [offEntry 45 129260 900, offEntry 46 129260 901] ++
    (List.range 22).map (fun i => attackEntry (66 + i) 129264 i) ++
    [pedal 129270, attackEntry 88 129279 22, pedal 130400, offEntry 88 2129279 22]

/-- 8.4, a crowded section: 24 places, the last Attack and the PedalSet postponed by 20 ticks with what stands behind them. -/
theorem test_crowded_section :
    let s := { playing .replay 6460 with sched := { (playing .replay 6460).sched with entries := crowd } }
    let t := run (.cycleStart []) s
    t.sched.entries.map (fun e => (e.kind, e.target, e.onset)) =
        [(.pedalSet, 1, 129290), (.attack, 88, 129299), (.pedalSet, 1, 130420), (.off, 88, 2129299)] ∧
      t.count .postponed = 2 ∧ (t.link.frameOut.map (fun f => f.sections.map List.length)) = some [24, 0, 0, 0, 0, 0, 0, 0] ∧
      (t.driveOf 66).driven = true ∧ (t.driveOf 88).driven = false := by decide +kernel

/-- 1, worked sequence: the take begun at link cycle 40,118. -/
theorem test_transport_start :
    let s := { linked .driving with time := { rested.time with mode := .duplex, linkCycle := 40118 } }
    let t := run (.transportStart 3 5000) s
    t.time.takeBase = some 40118 ∧ t.time.preroll = 5000 ∧ t.now = 0 ∧ t.time.transport = .running ∧
      t.port.queue = [.reply 3 2 .done (.started 5000 40118)] := by decide +kernel

/-- 1, worked sequence: the Pause taken at link cycle 43,119. -/
theorem test_transport_pause :
    let s := { playing .duplex 43119 with time := { (playing .duplex 43119).time with takeBase := some 40118 } }
    (run (.transportPause 3) s).time.pauseStart = some 60020 ∧ (run (.transportPause 3) s).time.transport = .paused := by
  decide +kernel

/-- 1, worked sequence: the Resume at link cycle 43,519 shifts by 8,000 and moves the Armed entry to 137,264. -/
theorem test_transport_resume :
    let s := { playing .duplex 43519 with
      time := { (playing .duplex 43519).time with takeBase := some 40118, transport := .paused, pauseStart := some 60020 },
      sched := { (playing .duplex 43519).sched with entries := [attackEntry 40 129264 0] } }
    let t := run (.transportResume 3) s
    t.time.shift = 8000 ∧ t.sched.entries.map Entry.onset = [137264] ∧ t.sched.entries.map Entry.strike = [138000] := by
  decide +kernel

/-- R10: a Stop in Replay empties the schedule and releases the driven key. -/
theorem test_transport_stop :
    let s := State.setDrive
      { playing .replay 50 with sched := { (playing .replay 50).sched with entries := [attackEntry 40 1500 0] } } 7
      { KeyDrive.initial with driven := true, state := .sounding }
    let t := run (.transportStop 3) s
    t.sched.entries = [] ∧ (t.driveOf 7).immediateOff = true ∧ (t.driveOf 7).state = .idle ∧ t.now = 0 := by
  decide +kernel

/-- 11, replies out of order: a cue of 170,000 is accepted in take cycle 8,001; one of the current take cycle is not. -/
theorem test_set_cue :
    (run (.setCue 23 1 170000) (playing .replay 8001)).time.cue = some 170000 ∧
      (run (.setCue 23 1 160039) (playing .replay 8001)).port.queue = [.reply 23 6 .range (.field 2)] ∧
      (run (.setCue 23 1 160040) (playing .replay 8001)).time.cue = some 160040 := by decide +kernel

/-- R14: another mode is reached through Idle only. -/
theorem test_set_mode :
    (run (.setMode 1 3) rested).time.mode = .replay ∧ (run (.setMode 1 3) (playing .capture 5)).time.mode = .capture ∧
      (run (.setMode 1 1) (playing .capture 5)).time.mode = .idle ∧
      (run (.setMode 1 1) (playing .capture 5)).time.transport = .stopped := by decide +kernel

/-- 2, worked sequence: the Pause of the lost link at link cycle 52,003. -/
theorem test_pause_link_left :
    let s := { playing .duplex 52003 with
      time := { (playing .duplex 52003).time with takeBase := some 40118, linkLeft := .due } }
    (run .pauseLinkLeft s).time.pauseStart = some 237700 ∧
      (run .pauseLinkLeft s).port.queue = [.report 52003 (.paused 237700 .linkLeft)] := by decide +kernel

/-- 1, worked sequence: the cue of 200,000 pauses the take in take cycle 10,000, not before. -/
theorem test_cue_reached :
    let s (c : Nat) := { playing .duplex c with time := { (playing .duplex c).time with cue := some 200000 } }
    (run .cueReached (s 9999)).time.transport = .running ∧ (run .cueReached (s 10000)).time.pauseStart = some 200000 := by
  decide +kernel

/-- R11: the end tick ends the take with its report. -/
theorem test_end_tick :
    let s := { playing .replay 51 with time := { (playing .replay 51).time with endTick := some 1027 } }
    (run .endTick s).time.transport = .stopped ∧ (run .endTick s).port.queue = [.report 51 (.replayComplete 1027)] := by
  decide +kernel

/-- R3: take cycle 214,748,364 is the first that does not begin. -/
theorem test_clock_end :
    (run .clockEnd (playing .capture 214748363)).time.transport = .running ∧
      (run .clockEnd (playing .capture 214748364)).time.transport = .stopped := by decide +kernel

/-- R126: a key is Releasing until its release end and Idle from it on. -/
theorem test_release_end :
    let s := State.setDrive (playing .replay 50) 7
      { KeyDrive.initial with state := .releasing, releaseEnd := some 1007 }
    ((run (.releaseEndExpiry 7) s).driveOf 7).state = .idle ∧ (run (.releaseEndExpiry 7) s).now = 1007 := by
  decide +kernel

/-- 9, worked sequence: the missed strike of voice 40 raises its trim from 1,047 to 1,072 in take cycle 6,896. -/
theorem test_window_expiry :
    let w : Window := ⟨.monitor 2000 ⟨40, 0⟩, 137400, 136900, 137900, closeCycle 137900⟩
    let s (c : Nat) := State.setWindow
      { playing .duplex c with
        mem := rested.mem.setDescriptor 0 40 ⟨true, .key, 40, 210, 1047, true, true⟩,
        port := { (playing .duplex c).port with options := { Options.defaults with adaptiveTrim := true } } } 40 (some w)
    ((run (.windowExpiry 40) (s 6895)).windowOf 40) = some w ∧ (run (.windowExpiry 40) (s 6896)).windowOf 40 = none ∧
      ((run (.windowExpiry 40) (s 6896)).mem.descriptor 0 40).map VoiceDescriptor.trim = some 1072 := by decide +kernel

/-- 10, worked case: the job's first strike at 600,060 with its Off at 601,260. -/
theorem test_job_start :
    let s := { playing .calibrate 30000 with
      calib := { queue := [⟨40, 210, 5, 150, 850, 2, 500⟩], current := none, testDue := true } }
    (run .jobStart s).sched.entries.map (fun e => (e.kind, e.target, e.onset, e.level)) =
      [(.attack, 40, 600060, 150), (.off, 40, 601260, 0)] := by decide +kernel

/-! ### The Action Link -/

/-- A frame of a cycle as it comes back with no section replaced. -/
def returned (cycle : Nat) : List Byte :=
  RingFrame.bytes
    { cycle := cycle, state := .lost, position := 1, echo := .idle, slow := 0, slot := List.replicate 6 0,
      sections := List.replicate 8 (.command []) }

/-- 2, worked sequence: the sixteenth valid return of link cycle 52,025 ends the loss; the gap of 26 cycles is captured. -/
theorem test_return_frame :
    let base := playing .duplex 52025
    let s := { base with
      time := { base.time with takeBase := some 40118, transport := .paused, pauseStart := some 237700 },
      link := { base.link with
        state := .lost, valid := 15, expiry := some 52025, gap := some ⟨52000, false⟩,
        recovery := some ⟨23, .driving⟩ } }
    let t := run (.returnFrame 120 (returned 52025)) s
    t.link.state = .ready ∧ t.link.valid = 0 ∧ t.link.recovery = none ∧ t.link.gap = none ∧
      t.capture.events = [⟨.linkGap, 0, 237640, 26⟩] := by decide +kernel

/-- 2, worked sequence: the third missing return in a row, of link cycle 52,002. -/
theorem test_return_expiry :
    let base := playing .duplex 52002
    let s := { base with link := { base.link with missing := 2, firstMissing := 52000, expiry := some 52002 } }
    let t := run .returnExpiry s
    t.link.state = .lost ∧ t.count .linkLosses = 1 ∧ t.link.gap = some ⟨52000, false⟩ ∧
      t.port.queue = [.report 52002 (.linkState .lost .driving 52002 .missing)] := by decide +kernel

/-- R29: 499 cycle starts are not enough, 500 are. -/
theorem test_recovery_limit :
    let s (n : Nat) := { linked .lost with link := { (linked .lost).link with recovery := some ⟨n, .ready⟩ } }
    (run .recoveryLimitExpiry (s 499)).link.state = .lost ∧ (run .recoveryLimitExpiry (s 500)).link.state = .waking ∧
      (run .recoveryLimitExpiry (s 500)).stationOf 1 = none := by decide +kernel

/-- R24: a LinkStart needs a profile. -/
theorem test_link_start :
    (run (.linkStart 1) rested).port.queue = [.reply 1 7 .state .nothing] ∧
      (run (.linkStart 1) (linked .down)).link.state = .waking := by decide +kernel

/-- R24, R37: a LinkStop from READY opens a gap at the cycle in progress. -/
theorem test_link_stop :
    let s := { linked .ready with time := { rested.time with linkCycle := 77 } }
    (run (.linkStop 1) s).link.state = .down ∧ (run (.linkStop 1) s).link.gap = some ⟨77, false⟩ := by decide +kernel

/-- R28: the permit is refused in DOWN, held in LOST and passes READY. -/
theorem test_drive_permit :
    (run (.drivePermit 1) (linked .down)).link.permit = false ∧ (run (.drivePermit 1) (linked .lost)).link.permit = true ∧
      (run (.drivePermit 1) (linked .ready)).link.state = .driving := by decide +kernel

/-- R32: the roster and the link state are read. -/
theorem test_read_roster :
    (match (run (.readRoster 1) (linked .ready)).port.queue with
    | [.reply _ 10 .done (.roster entries state ..)] => (entries.head?, state)
    | _ => (none, .down)) = (some (some board), .ready) := by decide +kernel

/-- R45: a cleared key leaves the set, its release end still ahead making it Releasing. -/
theorem test_clear_key_fault :
    let s := State.setDrive ((playing .replay 50).setFault 17 true) 17
      { KeyDrive.initial with state := .faulted, releaseEnd := some 5000 }
    (run (.clearKeyFault 1 17) s).faulted 17 = false ∧ ((run (.clearKeyFault 1 17) s).driveOf 17).state = .releasing ∧
      (run (.clearKeyFault 1 89) s).port.queue = [.reply 1 11 .range (.field 1)] := by decide +kernel

/-! ### Replay -/

/-- The cache entry of the worked case of 7.3. -/
def entry40 : CacheEntry :=
  { voice := 40, set := 0, kind := .key, target := 40, slot := 210, trim := 1040, page := .strike points scalars }

/-- A take in Replay with preroll 5,000, the record at the head of the intake and the entry in the cache. -/
def replaying (c : Nat) (r : EventRecord) : State :=
  { playing .replay c with
    time := { (playing .replay c).time with preroll := 5000 }, intake := [r],
    voices := { activeSet := 0, entries := [entry40], walk := none } }

/-- 7.3, R130: the worked strike becomes a note with a provisional Off 20 s behind its onset. -/
theorem test_admit_strike :
    let t := run .admitRecord (replaying 6000 ⟨.strike, 40, 2000, 125000⟩)
    t.sched.entries.map (fun e => (e.kind, e.target, e.onset, e.level)) =
        [(.attack, 40, 129264, 621), (.off, 40, 2129264, 0)] ∧
      (t.driveOf 40).state = .armed ∧ t.intake = [] := by decide +kernel

/-- 8.3, a repetition deferred: Q goes 700 ticks later, P's Off comes to 201,200. -/
theorem test_admit_repetition :
    let p : Note := ⟨0, 200000, 1200, 3500, some 200736, 206000, .stream, false, false, false, some ⟨40, 0⟩, some 2000⟩
    let r := replaying 9800 ⟨.strike, 40, 2000, 199736⟩
    let s := State.setDrive
      { r with sched := { r.sched with entries := [attackEntry 40 200000 0, offEntry 40 206000 0], nextNote := 1 } } 40
      { KeyDrive.initial with notes := [p], state := .armed }
    let t := run .admitRecord s
    t.sched.entries.map (fun e => (e.kind, e.onset)) =
        [(.attack, 200000), (.off, 201200), (.attack, 204700), (.off, 2204700)] ∧
      t.count .deferred = 1 ∧ (t.driveOf 40).notes.map Note.strike = [some 200736, some 205436] := by decide +kernel

/-- A walk for voice 95 on a state with that descriptor. -/
def walking (d : VoiceDescriptor) (read : Option VoiceDescriptor) : State :=
  { playing .replay 50 with
    mem := (rested.mem.setDescriptor 0 95 d).setPage 210 (some (.strike points scalars)),
    intake := [⟨.strike, 95, 2000, 4000⟩], voices := { activeSet := 0, entries := [entry40], walk := some ⟨95, 0, read, none⟩ } }

/-- 6, a full cache: the walk of voice 95 finds Present no; the record is dropped and the cache stands. -/
theorem test_walk_descriptor_read :
    let t := run .walkDescriptorRead (walking ⟨false, .key, 60, 210, 1000, false, false⟩ none)
    t.count .voiceAbsent = 1 ∧ t.intake = [] ∧ t.voices.entries = [entry40] ∧ t.voices.walk = none := by decide +kernel

/-- 6, worked sequence, step 5: the page is cached at the front, Accessed is set, and the record proceeds. -/
theorem test_walk_complete :
    let d : VoiceDescriptor := ⟨true, .key, 60, 210, 1000, false, false⟩
    let t := run .walkComplete (walking d (some d))
    t.voices.entries.map CacheEntry.voice = [95, 40] ∧ t.mem.descriptor 0 95 = some { d with accessed := true } ∧
      t.sched.entries.map Entry.kind = [.attack, .off] := by decide +kernel

/-- 9, yield escalation: the wait of 2,500 ends at its 2,500th readable cycle. -/
theorem test_yield_wait_end :
    let s (n : Nat) := State.setDrive ((playing .duplex 22539).setYield 52 ⟨some 2500, n, 1⟩) 52
      { KeyDrive.initial with state := .yielded }
    ((run (.yieldWaitEnd 52) (s 2499)).driveOf 52).state = .yielded ∧
      ((run (.yieldWaitEnd 52) (s 2500)).driveOf 52).state = .idle ∧
      (run (.yieldWaitEnd 52) (s 2500)).yieldOf 52 = ⟨none, 0, 1⟩ := by decide +kernel

/-! ### The Score Port -/

/-- R121, R170: the 65th record is an overrun; in Capture every record is. -/
theorem test_events_frame :
    let s := { playing .replay 5 with intake := List.replicate 63 ⟨.release, 9, 0, 50⟩ }
    (run (.eventsFrame 1 [⟨.strike, 1, 5, 9⟩, ⟨.strike, 2, 5, 9⟩]) s).intake.getLast? = some ⟨.strike, 1, 5, 9⟩ ∧
      (run (.eventsFrame 1 [⟨.strike, 1, 5, 9⟩, ⟨.strike, 2, 5, 9⟩]) s).count .intakeOverrun = 1 ∧
      (run (.eventsFrame 1 [⟨.strike, 1, 5, 9⟩, ⟨.strike, 2, 5, 9⟩]) (playing .capture 5)).count .intakeOverrun = 2 := by
  decide +kernel

/-- R169: a frame with a bad check counts one error; the same bytes with the good check are a SetCue that waits. -/
theorem test_frame_errors :
    let body : List Byte := portBody 2 7 0 [6, 0]
    (run (.frameErrors ([126, 165] ++ body ++ [0, 0])) rested).count .frameErrors = 1 ∧
      (run (.frameErrors ([126, 165] ++ body ++ crcBytes (crc16 body))) rested).time.waiting = [(7, .setCue 0 0)] := by
  decide +kernel

/-- 11.3, replies out of order: the ReadPage is answered first, the Pause and the SetCue at the cycle start. -/
theorem test_request_frame :
    let s1 := run (.requestFrame 21 [3]) (playing .replay 8000)
    let s2 := run (.requestFrame 22 [17, 0, 210]) s1
    let s3 := run (.requestFrame 23 [6, 1, 0, 2, 0x98, 0x10]) s2
    (run (.cycleStart []) s3).port.queue =
      [.reply 22 17 .done (.page none), .reply 21 3 .done .nothing, .report 8001 (.paused 160020 .request),
        .reply 23 6 .done .nothing] := by decide +kernel

/-- R173: an unknown kind and a wrong length. -/
theorem test_request_frame_refused :
    (run (.requestFrame 5 [29]) rested).port.queue = [.reply 5 29 .unknown (.code 29)] ∧
      (run (.requestFrame 5 [17, 0]) rested).port.queue = [.reply 5 17 .range (.field 0)] := by decide +kernel

/-- R171: the head leaves and the next frame takes the intake space of that moment. -/
theorem test_transmit_complete :
    let s := run (.readPage 2 0) (run (.linkStart 1) { playing .replay 5 with intake := [⟨.release, 9, 0, 50⟩] })
    (run .transmitComplete s).port.queue = [.reply 2 17 .done (.page none)] ∧
      (run .transmitComplete s).port.line = some 63 := by decide +kernel

/-- R177: a period's Status frame. -/
theorem test_status_period :
    let s := run (.setMode 1 3) rested
    (run .statusPeriodExpiry s).port.queue.length = 2 ∧ (run .statusPeriodExpiry s).port.timer = some 100 ∧
      run .statusPeriodExpiry rested = rested := by decide +kernel

/-- R175: written once. -/
theorem test_set_profile :
    let s := run (.setProfile 1 ⟨88, 4, 37, 0⟩) rested
    s.port.profile = some ⟨88, 4, 37, false⟩ ∧
      (run (.setProfile 2 ⟨97, 4, 37, 0⟩) s).port.profile = some ⟨88, 4, 37, false⟩ ∧
      (run (.setProfile 2 ⟨90, 4, 37, 0⟩) rested).port.queue = [.reply 2 23 .range (.field 1)] := by decide +kernel

/-- R176: holdCap is held in ticks; one bad value and nothing changes. -/
theorem test_set_options :
    (run (.setOptions 1 [(.holdCap, 3), (.windowWidth, 100)]) rested).port.options =
        { Options.defaults with holdCap := 300000, windowWidth := 100 } ∧
      (run (.setOptions 1 [(.holdCap, 3), (.windowWidth, 99)]) rested).port.options = Options.defaults := by
  decide +kernel

/-- R177: the answer carries the counters, and clear leaves them 0. -/
theorem test_read_status :
    let s := rested.bump .late
    (run (.readStatus 1 1) s).count .late = 0 ∧
      (match (run (.readStatus 1 1) s).port.queue with
      | [.status tag r] => (tag, r.solicited, r.counters.head?)
      | _ => (0, false, none)) = (1, true, some 1) := by decide +kernel

/-- R179: after Done nothing received is handed on. -/
theorem test_restart :
    let s := run (.restart 9) (linked .ready)
    s.port.queue = [.reply 9 26 .done .nothing] ∧ run (.linkStop 1) s = s := by decide +kernel

/-! ### Tables, cache, jobs -/

/-- R54: an entry is replaced; a field outside its range is named. -/
theorem test_write_key_sense :
    (run (.writeKeySense 1 1 60 2500 1800 50) rested).keySense 60 = ⟨2500, 1800, 50⟩ ∧
      (run (.writeKeySense 1 1 60 999 1800 50) rested).port.queue = [.reply 1 12 .range (.field 3)] := by decide +kernel

theorem test_read_key_sense :
    (run (.readKeySense 1 2 1) rested).port.queue = [.reply 1 13 .done (.pedalSense ⟨0, 4095, 2⟩)] ∧
      (run (.readKeySense 1 2 4) rested).port.queue = [.reply 1 13 .range (.field 2)] := by decide +kernel

/-- R87: an InvertedPedal drives a pedal, so target 4 is refused. -/
theorem test_write_descriptor :
    (run (.writeDescriptor 1 0 120 ⟨1, 3, 1, 300, 1000, 0, 0⟩) rested).mem.descriptor 0 120 =
        some ⟨true, .invertedPedal, 1, 300, 1000, false, false⟩ ∧
      (run (.writeDescriptor 1 0 120 ⟨1, 3, 4, 300, 1000, 0, 0⟩) rested).port.queue = [.reply 1 14 .range (.field 5)] := by
  decide +kernel

theorem test_read_descriptor :
    (run (.readDescriptor 1 3 127) rested).port.queue =
        [.reply 1 15 .done (.descriptor ⟨false, .key, 1, 0, 1000, false, false⟩)] ∧
      (run (.readDescriptor 1 4 0) rested).port.queue = [.reply 1 15 .range (.field 1)] := by decide +kernel

/-- R92: the worked page is written; equal velocities are refused at breakpoint 2. -/
theorem test_write_page :
    (run (.writePage 1 210 (.strike points scalars)) rested).mem.page 210 = some (.strike points scalars) ∧
      (run (.writePage 1 210 (.strike [⟨400, 180, 24000⟩, ⟨1200, 420, 9000⟩, ⟨1200, 760, 4200⟩] scalars)) rested).port.queue =
        [.reply 1 16 .range (.pageField 4 2)] := by decide +kernel

theorem test_read_page :
    (run (.readPage 1 210) { rested with mem := rested.mem.setPage 210 (some (.strike points scalars)) }).port.queue =
        [.reply 1 17 .done (.page (some (.strike points scalars)))] ∧
      (run (.readPage 1 512) rested).port.queue = [.reply 1 17 .range (.field 1)] := by decide +kernel

/-- R95: the set already active named again empties the cache too. -/
theorem test_select_voicing :
    (run (.selectVoicing 1 0) (replaying 5 ⟨.release, 9, 0, 50⟩)).voices = ⟨0, [], none⟩ ∧
      (run (.selectVoicing 1 4) (replaying 5 ⟨.release, 9, 0, 50⟩)).voices.entries = [entry40] := by decide +kernel

/-- 6, worked sequence, step 4: the order 12, 40, 88, 120, 61 becomes 12, 88, 120, 61. -/
theorem test_invalidate_voice :
    let s := { rested with voices := { rested.voices with
      entries := [12, 40, 88, 120, 61].map (fun v => { entry40 with voice := v }) } }
    (run (.invalidateVoice 1 40) s).voices.entries.map CacheEntry.voice = [12, 88, 120, 61] ∧
      (run (.invalidateVoice 1 40) s).port.queue = [.reply 1 19 .done (.removed true)] := by decide +kernel

theorem test_invalidate_all :
    (run (.invalidateAll 1) (replaying 5 ⟨.release, 9, 0, 50⟩)).port.queue = [.reply 1 20 .done (.removedCount 1)] := by
  decide +kernel

/-- R156: the seventeenth job is refused with BUSY, after its fields have been judged. -/
theorem test_calibrate_queue :
    let j : Job := ⟨40, 210, 5, 150, 850, 2, 500⟩
    let s := { rested with calib := { rested.calib with queue := List.replicate 16 j } }
    (run (.calibrateQueue 1 j) rested).port.queue = [.reply 1 21 .done (.jobs 1)] ∧
      (run (.calibrateQueue 1 j) s).port.queue = [.reply 1 21 .busy .nothing] ∧
      (run (.calibrateQueue 1 { j with levels := 3 }) s).port.queue = [.reply 1 21 .range (.field 3)] := by decide +kernel

/-- R166: with one job queued and none current. -/
theorem test_calibrate_abort :
    let s := { rested with calib := { rested.calib with queue := [⟨40, 210, 5, 150, 850, 2, 500⟩] } }
    (run (.calibrateAbort 1) s).calib.queue = [] ∧
      (run (.calibrateAbort 1) s).port.queue =
        [.reply 1 22 .done (.aborted false 1), .report 0 (.jobAborted none none .request none 1)] := by decide +kernel

/-! ### The store -/

/-- 12, worked sequence: the save of blocks 17 to 19 begins with the erase of 17. -/
theorem test_store_save :
    (run (.storeSave 1 17 19) (linked .down)).store.op = .save (saveAt .erasing) ∧
      (run (.storeSave 1 17 19) rested).port.queue =
        [.reply 1 27 .done .nothing, .report 0 (.saveDone 17 19 [.guarded, .guarded, .guarded])] := by decide +kernel

theorem test_store_restore :
    (run (.storeRestore 1) rested).store.op = .restore ⟨0, .request, []⟩ ∧
      (run (.storeRestore 1) (playing .replay 5)).port.queue = [.reply 1 28 .state .nothing] := by decide +kernel

theorem test_store_erase :
    let s := { storing (.save (saveAt .erasing)) with store :=
      { blocks := setNth (rested.store.blocks) 18 .partly, op := .save (saveAt .erasing) } }
    (run .storeEraseComplete s).storeBlock 17 = .erased := by decide +kernel

/-- R183: the block holds what the medium took. -/
theorem test_store_program :
    (run (.storeProgramComplete (some .partly)) (storing (.save (saveAt .programming)))).storeBlock 17 = .partly ∧
      (run (.storeProgramComplete none) (storing (.save { saveAt .programming with written := .partly }))).storeBlock 17 =
        .partly := by decide +kernel

/-- 12, worked sequence: block 17 Saved, and the erase of 18 begins; a block that disagrees is Failed. -/
theorem test_store_verify :
    (run .storeVerifyComplete (storing (.save (saveAt .verifying)))).store.op =
        .save { saveAt .erasing with block := 18, results := [.saved] } ∧
      (run .storeVerifyComplete (storing (.save { saveAt .verifying with written := .partly }))).store.op =
        .save { saveAt .erasing with written := .partly, block := 18, results := [.failed] } := by decide +kernel

/-- R184: a bad page block leaves its slots empty, slot 210 of block 18 among them. -/
theorem test_store_read :
    let s := { storing (.restore ⟨18, .automatic, []⟩) with
      mem := rested.mem.setPage 210 (some (.strike points scalars)) }
    (run .storeReadComplete s).mem.page 210 = none ∧
      (run .storeReadComplete s).store.op = .restore ⟨19, .automatic, [.bad]⟩ := by decide +kernel

/-- R147: the supply-low condition of the driving station removes the windows of its keys without an outcome. -/
theorem test_supply_low_removes_windows :
    let w : Window := ⟨.monitor 2000 ⟨40, 0⟩, 137400, 136900, 137900, closeCycle 137900⟩
    let s := State.setWindow (playing .duplex 6845) 40 (some w)
    (s.windowOf 40).isSome ∧ ((s.supplyFalls 1).1.windowOf 40).isNone ∧ (s.supplyFalls 1).1.port.queue = [] := by
  decide +kernel

/-! ### Points a review raised -/

/-- 6, stale pages: a WritePage taken behind the page read of a walk does not reach the entry the walk makes. -/
theorem test_walk_holds_its_page :
    let d : VoiceDescriptor := ⟨true, .key, 60, 210, 1000, false, false⟩
    let late (s : State) := run .walkComplete (run (.writePage 1 210 .empty) s)
    (late (run .walkDescriptorRead (walking d (some d)))).voices.entries.map CacheEntry.voice = [95, 40] ∧
      (late (walking d (some d))).count .voiceAbsent = 1 := by decide +kernel

/-- R130, R136: a Hold without a place takes the Off behind it along, in the same window too, and neither is sent. -/
theorem test_hold_and_off_move_together :
    let hold : Entry := { attackEntry 88 129264 40 with kind := .hold }
    let es := (List.range 23).map (fun i => attackEntry (i + 1) 129264 i) ++ [hold, offEntry 88 129264 40]
    let s := (playing .replay 6460).setEntries (insertEntries es [])
    let t := run (.cycleStart []) s
    t.sched.entries.map (fun e => (e.kind, e.target, e.onset)) = [(.off, 88, 129284), (.hold, 88, 129284)] := by decide +kernel

/-- R36: the Offs of the Pause for a lost link go out in the frame of that very cycle. -/
theorem test_link_left_offs_go_out :
    let s := State.setDrive
      { playing .duplex 52002 with
        time := { (playing .duplex 52002).time with linkLeft := .armed },
        link := { (linked .lost).link with recovery := some ⟨0, .driving⟩ } } 40
      { KeyDrive.initial with driven := true, state := .sounding }
    let t := run (.cycleStart []) s
    t.time.transport = .paused ∧ t.link.frameOut.map (fun f => (f.sections.headD []).map (fun c => (c.kind, c.target))) =
      some [(.off, 40)] := by decide +kernel

/-- R39, R40: the echo of the last return taken in LOST survives the recovery limit, and is sent. -/
theorem test_echo_survives_the_recovery_limit :
    let s := { linked .lost with link := { (linked .lost).link with recovery := some ⟨500, .ready⟩, echo := .accepted 3 } }
    (run .recoveryLimitExpiry s).link.echo = .accepted 3 := by decide +kernel

/-- R31, R33: a record that serves a fourth pedal is discarded, and a missing count stands through a whole multiframe in LOST. -/
theorem test_records_outside_the_table :
    let l (pedals : Nat) := numBytes 1 3 ++ numBytes 1 1 ++ numBytes 1 88 ++ numBytes 1 pedals ++ numBytes 1 41 ++ numBytes 1 3 ++
      numBytes 2 140 ++ numBytes 2 350 ++ List.replicate 5 0
    let c (pedals : Nat) : Collection :=
      { positions := List.replicate 16 1, bytes := setNth (Vector.replicate 8 []) 1 (l pedals ++ [recordCheck (l pedals)]).reverse }
    let s := (linked .lost).setStation 1 { board with missing := 5 }
    (c 15).records.length = 1 ∧ (c 15).wholeRecords = [] ∧ (s.takeRecords (c 15)).link.rosterChanged = false ∧
      (s.takeRecords (c 7)).stationOf 1 = some { board with missing := 5 } ∧
      (s.takeRecords (c 3)).link.rosterChanged = true := by decide +kernel

/-- R157: the test is made at the cycle start alone, once, whatever it finds. -/
theorem test_job_tested_once :
    let s := { playing .calibrate 30000 with
      calib := { queue := [⟨40, 210, 5, 150, 850, 2, 500⟩], current := none, testDue := true } }
    let early := { s with link := { s.link with state := .ready } }
    (run .jobStart (run (.drivePermit 1) (run .jobStart early))).calib.current = none ∧
      (run .jobStart { s with time := { s.time with tick := 7 } }).calib.current = none := by decide +kernel

/-- R164, R142: the driving station lost, the Off of the job's admitted strike leaves the schedule with it. -/
theorem test_lost_drive_ends_the_strike :
    let s := run .jobStart { playing .calibrate 30000 with
      calib := { queue := [⟨40, 210, 5, 150, 850, 2, 500⟩], current := none, testDue := true } }
    s.sched.entries.length = 2 ∧ (s.supplyFalls 1).1.sched.entries = [] ∧ (s.supplyFalls 1).1.calib.current = none := by
  decide +kernel

/-- R4: a computation may come ahead of the frame of its cycle (07, R113). -/
theorem test_admission_before_the_frame :
    let s := replaying 6000 ⟨.strike, 40, 2000, 125000⟩
    (run (.cycleStart [.admitRecord, .frame]) s).intake = [] ∧ (run (.cycleStart []) s).intake ≠ [] := by decide +kernel

/-- A job waiting, with a schedule of 511 markers, the first of them due in the coming window. -/
def jobCrowded : State :=
  let marker (onset : Nat) : Entry := { offEntry 1 onset 0 with kind := .marker, target := 0, note := none }
  { playing .calibrate 30000 with
    sched := { rested.sched with entries := marker 600060 :: List.replicate 510 (marker 900000) }
    calib := { queue := [⟨40, 210, 5, 150, 850, 2, 500⟩], current := none, testDue := true } }

/-- R158: a first strike that finds no room ahead of the frame is not asked again at that cycle start, though its frame makes room,
but at the next one. -/
theorem test_refused_strike_waits_for_the_next_start :
    let s := run (.cycleStart [.jobStart, .frame]) jobCrowded
    s.calib.current.map CurrentJob.state = some .pending ∧ s.freeEntries = 2 ∧
      (run (.cycleStart []) s).calib.current.map CurrentJob.state = some .admitted := by decide +kernel

/-- R169: a good frame inside a damaged one is found, the hunt going on behind the damaged one's delimiter. -/
theorem test_frame_inside_a_damaged_one :
    let s := run (.frameErrors ([126, 165, 2, 9, 0, 9] ++ portFrame 2 7 0 [26] ++ [0, 0])) rested
    s.count .frameErrors = 1 ∧ s.port.queue = [.reply 7 26 .done .nothing] ∧ s.port.received = [] := by decide +kernel

/-- A row of bytes with a damaged frame in which a Restart and a ReadRoster stand. -/
def restartInside : List Byte :=
  [126, 165, 2, 9, 0, 18] ++ portFrame 2 7 0 [26] ++ portFrame 2 8 0 [10] ++ [0, 0]

/-- R169, R179, R180: the Restart found there, its Reply without a room, resets the part, and the request behind it is lost. -/
theorem test_reset_loses_what_was_received :
    let s := { rested with port := { rested.port with queue := List.replicate 64 (.status 0 (rested.statusRecord false)) } }
    let t := run (.frameErrors restartInside) s
    t.port.cause = .restart ∧ t.port.received = [] ∧ t.port.queue.length = 1 ∧ t.count .frameErrors = 0 := by decide +kernel

end Sys2Proof.Tests
end

