-- ==== Sys2Proof/Tests/Witnesses.lean ====
section
/-! SUPPORT. For each statement with hypotheses a concrete state and operands that meet all of them together, each clause
at a boundary value of its range. Each theorem is named for its statement. -/

namespace Sys2Proof.Tests

open Sys2Proof Sys2Proof.Machine

-- one at a time: evaluations side by side would each hold a thread
set_option Elab.async false

/-- The command answers a next state. -/
def answers (c : Instr) (s : State) : Bool :=
  match exec c s with
  | .next _ => true
  | .fault _ => false
  | .refused _ => false

/-- A command that answers leads to the state `run` gives. -/
theorem next_of_answers {c : Instr} {s : State} (h : answers c s = true) : exec c s = .next (run c s) := by
  unfold answers run at *
  split at h <;> simp_all

/-- A state whose front command is `c` steps to what `c` leads to. -/
theorem step_of_answers {c : Instr} {s : State} (h : answers c { s with pending := [] } = true) :
    step { s with pending := [c] } = .next (run c { s with pending := [] }) := next_of_answers h

theorem witness_StepRunsTheFrontCommand :
    ({ rested with pending := [.readRoster 1, .powerOn] } : State).pending = .readRoster 1 :: [.powerOn] := rfl

/-! ### Resets and cycle starts -/

/-- A save at a stage of block 17, with the reset of a Restart due. -/
def restarting (g : SaveStage) : State :=
  let s := storing (.save (saveAt g))
  { s with port := { s.port with restart := .due } }

theorem witness_ResetsLeaveTheirInitialState :
    (let s := storing (.save { saveAt .programming with block := 36, first := 36, last := 36 })
     exec .powerOn s = .next (run .powerOn s) ∧ exec .coldResetSupplyLow s = .next (run .coldResetSupplyLow s) ∧
       exec .resetPin s = .next (run .resetPin s) ∧ 36 ≤ 36 ∧ (run .resetPin s).storeBlock 36 = .partly) ∧
      (run .transmitComplete (run .transmitComplete (run (.restart 9) State.reset))).port.restart ≠ .due ∧
      (run .transmitComplete (run (.restart 9) rested)).port.restart = .due ∧ rested.port.restart ≠ .due ∧
      (∀ g ∈ [SaveStage.erasing, .programming, .verifying], (restarting g).port.restart = .due ∧
        exec .restartReset (restarting g) = .next (run .restartReset (restarting g)) ∧
        (run .restartReset (restarting g)).storeBlock 17 = (if g = .verifying then (restarting g).storeBlock 17 else .partly)) := by
  refine ⟨⟨next_of_answers ?_, next_of_answers ?_, next_of_answers ?_, ?_, ?_⟩, ?_, ?_, ?_,
    fun g hg => ⟨rfl, next_of_answers ?_, ?_⟩⟩
  all_goals first | decide +kernel | (revert g; decide +kernel)

theorem witness_CycleStartsCount :
    let s := { rested with time := { rested.time with linkCycle := 4294967295 } }
    s.link.state = .down ∧ s.link.recovery = none ∧ s.time.transport = .stopped ∧ s.time.waiting = [] ∧
      s.time.linkLeft = .none ∧ s.calib.current = none := by decide +kernel

theorem witness_ACycleStartSendsOneFrame :
    ∀ l ∈ [LinkState.waking, .aligning, .ready, .driving, .lost], (linked l).link.state ≠ .down := by decide +kernel

/-- The crowded section of 8.4, at the cycle start of its window. -/
def crowded : State := { playing .replay 6460 with sched := { (playing .replay 6460).sched with entries := crowd, nextNote := 902 } }

/-- In the crowded part each note belongs to one key. -/
theorem crowded_named : crowded.notesNamed := by
  unfold State.notesNamed
  refine ⟨?_, ?_, ?_⟩
  · decide +kernel
  · decide +kernel
  · decide +kernel

theorem witness_TheDispatchLeavesNothingBehind :
    crowded.link.state = .driving ∧ crowded.time.transport = .running ∧ crowded.time.linkLeft = .none ∧
      crowded.time.waiting = [] ∧ crowded.scheduleOrdered ∧ crowded.notesNamed ∧
      exec (.cycleStart []) crowded = .next (run (.cycleStart []) crowded) := by
  refine ⟨?_, ?_, ?_, ?_, ?_, crowded_named, next_of_answers ?_⟩ <;>
    first | decide +kernel | (unfold State.scheduleOrdered; decide +kernel)

/-- The crowded part in a link state. -/
def crowdedIn (l : LinkState) : State := { crowded with link := { crowded.link with state := l } }

/-- The window's entries of the crowded part with their numbers. -/
def crowdWindow : List (Entry × Nat) := (crowd.take 26).zipIdx

/-- A first strike refused for room at the cycle start that made it. -/
def jobRefused : State := run (.cycleStart [.jobStart]) jobCrowded

theorem witness_PlacesAreFilledInOrder :
    Keyed 88 ∧ crowded.link.state = .driving ∧ crowded.time.transport = .running ∧ crowded.time.linkLeft = .none ∧
      crowded.time.waiting = [] ∧ (∀ l ∈ [LinkState.ready, .lost, .waking, .aligning], (crowdedIn l).link.state = l) ∧
      (∃ e ∈ crowd, e.isCommand = true) ∧
      ({ crowd.headD (offEntry 1 1 1) with kind := .marker } : Entry).isCommand = false ∧
      (crowd[1]?.map (fun f => (crowd.take 1).any f.sameTarget) = some false) ∧
      outdone ((crowdWindow.take 25).map (fun x => ({ x.1 with kind := .pedalSet, target := 1 }, x.2)))
        ({ offEntry 1 129260 900 with kind := .pedalSet }, 23) = true ∧
      outdone crowdWindow ({ offEntry 1 129260 900 with kind := .pedalSet }, 25) = false ∧
      crowdWindow.length = 26 ∧ (crowded.offered crowdWindow 1).length = 26 ∧
      (crowded.offered (crowdWindow.take 24) 1).length = 24 ∧
      (∀ x ∈ crowdWindow, (crowded.stationFor x.1 = some 1 ∧ 1 ∈ allStations)) ∧
      crowded.count .postponed + 2 ≤ 65535 ∧
      (∀ c, crowded.calib.current = some c → c.state ≠ .pending) ∧
      (jobRefused.calib.current.map CurrentJob.state = some .pending ∧ jobRefused.link.state ≠ .down ∧
        jobRefused.time.linkLeft = .none ∧ jobRefused.time.waiting = []) ∧ crowded.scheduleOrdered := by
  have h : crowded.calib.current = none := by decide +kernel
  refine ⟨?_, ?_, ?_, ?_, ?_, ?_, ?_, ?_, ?_, ?_, ?_, ?_, ?_, ?_, ?_, ?_, fun c e => absurd (h.symm.trans e) nofun, ?_, ?_⟩ <;>
    first | decide +kernel | (unfold State.scheduleOrdered; decide +kernel)

/-! ### Transport and modes -/

theorem witness_TransportStartBeginsATake :
    let s (m : Mode) (l : LinkState) := { linked l with time := { rested.time with mode := m } }
    ∀ x ∈ [(Mode.capture, LinkState.down), (.replay, .driving), (.duplex, .driving), (.calibrate, .driving)],
      (s x.1 x.2).restoring = false ∧ (s x.1 x.2).time.transport = .stopped ∧ (s x.1 x.2).time.mode ≠ .idle ∧
        ((s x.1 x.2).time.mode ≠ .capture → (s x.1 x.2).link.state = .driving) ∧ Keyed 1 ∧ Keyed 97 := by decide +kernel

theorem witness_TransportResumeMovesTheSchedule :
    ∀ m ∈ [Mode.capture, .replay, .duplex], (paused m 100).restoring = false ∧
      (paused m 100).time.transport = .paused ∧ (paused m 100).time.pauseStart = some 2000 ∧
      ((paused m 100).time.mode.drives = true → (paused m 100).link.state = .driving) := by decide +kernel

theorem witness_TransportRequestsAndCuesAreJudged :
    (storing (.restore RestoreOp.automatic)).restoring = true ∧ (playing .calibrate 50).restoring = false ∧
      (playing .calibrate 50).time.transport ≠ .stopped ∧ (playing .calibrate 50).time.mode = .calibrate ∧
      (playing .calibrate 50).time.transport ≠ .paused ∧ rested.time.mode = .idle ∧ rested.restoring = false ∧
      rested.time.transport = .stopped ∧
      (let s := { paused .replay 100 with link := { rested.link with state := .lost } }
       s.time.mode.drives = true ∧ s.link.state ≠ .driving ∧ s.restoring = false) ∧
      (let s := { linked .lost with time := { rested.time with mode := .replay } }
       s.time.mode ≠ .capture ∧ s.link.state ≠ .driving ∧ s.restoring = false) ∧
      (playing .replay 50).restoring = false ∧ 1019 / 20 ≤ (playing .replay 50).takeCycle ∧
      ¬1020 / 20 ≤ (playing .replay 50).takeCycle ∧ (playing .replay 50).time.transport ≠ .stopped := by decide +kernel

theorem witness_SetModeEntersAndLeaves :
    rested.restoring = false ∧ rested.saving = false ∧ rested.time.mode = .idle ∧ Mode.replay ≠ .idle ∧
      (playing .replay 50).restoring = false ∧ (playing .replay 50).saving = false ∧
      (playing .replay 50).time.mode ≠ .idle ∧ (playing .replay 50).time.mode ≠ .calibrate ∧
      (playing .calibrate 50).time.mode = .calibrate ∧ (playing .calibrate 50).restoring = false ∧
      (playing .calibrate 50).time.transport ≠ .stopped := by decide +kernel

theorem witness_PausesHoldTheTake :
    (∀ m ∈ [Mode.capture, .replay, .duplex], (playing m 50).restoring = false ∧
      (playing m 50).time.transport = .running ∧ (playing m 50).time.mode ≠ .calibrate) ∧
    (let s (m : Mode) := { playing m 50 with time := { (playing m 50).time with linkLeft := .due } }
     ∀ m ∈ [Mode.capture, .replay, .duplex, .calibrate], (s m).time.linkLeft = .due ∧ (s m).time.transport = .running) ∧
    (let s := { paused .duplex 100 with time := { (paused .duplex 100).time with linkLeft := .due } }
     s.time.linkLeft = .due ∧ s.time.transport ≠ .running) ∧ (playing .capture 50).time.linkLeft ≠ .due ∧
    (let s (u : State) := { u with time := { u.time with cue := some 1000 } }
     (∀ m ∈ [Mode.replay, .duplex], (s (playing m 50)).time.cue = some 1000 ∧ (s (playing m 50)).time.transport = .running ∧
       (s (playing m 50)).time.mode = m ∧ 1000 / 20 ≤ (s (playing m 50)).takeCycle ∧
       (s (playing m 49)).takeCycle < 1000 / 20) ∧
     (s (paused .duplex 50)).time.transport = .paused ∧ 1000 / 20 ≤ (s (paused .duplex 50)).takeCycle ∧
     (s (playing .capture 50)).time.transport ≠ .stopped ∧ (s (playing .capture 50)).time.mode ≠ .replay ∧
     (s (playing .capture 50)).time.mode ≠ .duplex ∧ 1000 / 20 ≤ (s (playing .capture 50)).takeCycle) := by decide +kernel

theorem witness_StopsEndTheTake :
    ((playing .replay 50).restoring = false ∧ (playing .replay 50).time.transport ≠ .stopped ∧
      (paused .capture 100).restoring = false ∧ (paused .capture 100).time.transport ≠ .stopped ∧
      (playing .replay 50).time.mode = .replay ∧ (playing .duplex 50).captureMode = true ∧
      (paused .capture 100).captureMode = true) ∧
    (let s (c : Nat) := { playing .duplex c with time := { (playing .duplex c).time with endTick := some 1019 } }
     (s 50).time.endTick = some 1019 ∧ (s 50).time.transport = .running ∧ 1019 / 20 ≤ (s 50).takeCycle ∧
       (s 49).takeCycle < 1019 / 20 ∧ (s 50).captureMode = true) ∧ (playing .capture 214748364).captureMode = true ∧
    (playing .capture 214748364).time.transport ≠ .stopped ∧ 214748364 ≤ (playing .capture 214748364).takeCycle ∧
      (playing .capture 214748363).takeCycle < 214748364 := by decide +kernel

/-! ### Windows, jobs, releases and yields -/

/-- A Monitor window of key k that closes at cycle 100, with the descriptor of its voice. -/
def watching (k c : Nat) : State :=
  State.setWindow { playing .duplex c with mem := rested.mem.setDescriptor 0 40 ⟨true, .key, k, 210, 1490, true, true⟩ } k
    (some ⟨.monitor 2000 ⟨40, 0⟩, 1500, 1000, 1999, 100⟩)

/-- A job for key k waiting in Calibrate. -/
def jobReady (k : Nat) : State :=
  { playing .calibrate 30000 with calib := { queue := [⟨k, 210, 5, 150, 850, 2, 500⟩], current := none, testDue := true } }

theorem witness_AJobStartsWithItsFirstStrike :
    (jobCrowded.calib.current = none ∧ jobCrowded.time.linkLeft = .none ∧ jobCrowded.time.waiting = [] ∧
      jobCrowded.advanceCycle.startJob.calib.current.map CurrentJob.state = some .pending) ∧
    ∀ k ∈ [1, 88], let s := jobReady k
      Keyed k ∧ s.calib.queue = ⟨k, 210, 5, 150, 850, 2, 500⟩ :: [] ∧ s.calib.current = none ∧ s.calib.testDue = true ∧
      s.time.tick = 0 ∧ s.time.mode = .calibrate ∧ s.link.state = .driving ∧ s.time.transport = .running ∧
      (s.driverOf k).any s.isHot = false ∧ s.refusal k = none ∧ 2 ≤ s.freeEntries ∧ (s.driveOf k).notes = [] ∧
      (s.driveOf k).rearmBase = none ∧ ({ s with calib := { s.calib with testDue := false } } : State).calib.testDue = false ∧
      ({ s with time := { s.time with tick := 19 } } : State).time.tick ≠ 0 ∧
      ({ s with time := { s.time with transport := .paused } } : State).time.transport ≠ .running := by decide +kernel

/-- Key k Releasing until tick 1019, the last of take cycle 50. -/
def letting (k c : Nat) : State :=
  State.setDrive (playing .replay c) k { KeyDrive.initial with state := .releasing, releaseEnd := some 1019 }

/-- Key k Yielded for 2,500 readable cycles, `n` of them over. -/
def yielding (k n : Nat) : State :=
  State.setDrive ((playing .duplex 22539).setYield k ⟨some 2500, n, 1⟩) k { KeyDrive.initial with state := .yielded }

theorem witness_ReleaseAndYieldEnds :
    ∀ k ∈ [1, 97], Keyed k ∧ ((letting k 50).driveOf k).releaseEnd = some 1019 ∧
      ((letting k 50).driveOf k).state = .releasing ∧ (letting k 50).time.takeBase ≠ none ∧
      1019 ≤ (letting k 50).startTick + 19 ∧ (letting k 50).faulted k = false ∧ (letting k 50).waitingYield k = false ∧
      ((letting k 50).driveOf k).driven = false ∧ (letting k 50).armed k = false ∧ (letting k 49).startTick + 19 < 1019 ∧
      ((yielding k 2500).yieldOf k).requirement = some 2500 ∧ 2500 ≤ ((yielding k 2500).yieldOf k).rest ∧
      ((yielding k 2499).yieldOf k).rest < 2500 := by decide +kernel

theorem witness_WithdrawalsEmptyTheKey :
    ∀ k ∈ [1, 97], Keyed k ∧ (playing .duplex 50).faulted k = false ∧ ((playing .duplex 50).setFault k true).faulted k = true := by
  decide +kernel

/-! ### The Action Link -/

/-- The link in a state, waiting for the return of cycle 52,025. -/
def awaiting (l : LinkState) (valid missing : Nat) : State :=
  { linked l with link := { (linked l).link with expiry := some 52025, valid := valid, missing := missing } }

/-- A frame of a cycle as it comes back with station 1's report in its section. -/
def reported (cycle : Nat) (x : SectionReport) (n : Option Notice) : List Byte :=
  RingFrame.bytes (RingFrame.handled
    { cycle := cycle, state := .driving, position := 0, echo := .idle, slow := 0, slot := List.replicate 6 0,
      sections := List.replicate 8 (.command []) } 1 x n)

/-- A section with the pedals at rest and nothing else. -/
def quiet : SectionReport := { crossings := [], pedals := [0, 0, 0], slow := 0, lost := false }

/-- In `linked` states station 1 alone is in the roster. -/
theorem linked_stationOf (l : LinkState) (b : Nat) : (linked l).stationOf b = if b = 1 then some board else none := by
  match b with
  | 0 | 1 | 2 | 3 | 4 | 5 | 6 | 7 | 8 => rfl
  | n + 9 => rfl

/-- Station 1 has missed nothing, and its report is there. -/
theorem awaiting_reported (b : Nat) (e : RosterEntry) (h : (awaiting .driving 3 0).stationOf b = some e) :
    e.missing = 0 ∧ (sectionOf (readReturn (reported 52025 quiet none)).sections b).isSome = true := by
  have hb : (awaiting .driving 3 0).stationOf b = (linked .driving).stationOf b := rfl
  rw [hb, linked_stationOf] at h
  split at h
  · next hb => obtain rfl := hb; obtain rfl := Option.some.inj h; decide +kernel
  · cases h

theorem witness_ReturnsAreJudged :
    (linked .driving).link.expiry = none ∧ 160 ≤ 160 ∧ (159 : Nat) < 160 ∧ returnGood 52025 (returned 52025) = true ∧
      returnGood 52025 (returned 52024) = false ∧ returnGood 52025 (reported 52025 quiet none) = true ∧
      judgeSlot (readReturn (reported 52025 quiet none)).slot = .empty ∧ 52025 % 16 ≠ 15 ∧
      (∀ b e, (awaiting .driving 3 0).stationOf b = some e →
        e.missing = 0 ∧ (sectionOf (readReturn (reported 52025 quiet none)).sections b).isSome = true) ∧
      (∀ v ∈ [14, 15], (awaiting .waking v 0).link.expiry = some 52025 ∧ (awaiting .waking v 0).link.state = .waking ∧
        (awaiting .waking v 0).link.valid = v) ∧
      (∀ l ∈ [LinkState.aligning, .ready, .driving, .lost], (awaiting l 3 0).link.expiry = some 52025 ∧
        (awaiting l 3 0).link.state = l) ∧
      ∀ l ∈ [LinkState.waking, .aligning, .ready, .driving, .lost], ∀ n ∈ [0, 1, 2, 65534],
        (awaiting l 0 n).link.expiry = some 52025 ∧ (awaiting l 0 n).link.state = l ∧ (awaiting l 0 n).link.missing = n ∧
          n < 65535 := by
  refine ⟨?_, ?_, ?_, ?_, ?_, ?_, ?_, ?_, awaiting_reported, ?_, ?_, ?_⟩ <;> decide +kernel

/-- The link LOST for `n` cycle starts. -/
def lostFor (n : Nat) : State :=
  { linked .lost with link := { (linked .lost).link with recovery := some ⟨n, .driving⟩ } }

theorem witness_TheLinkIsLostAndWakes :
    (let s := awaiting .driving 0 2
     s.link.expiry = some 52025 ∧ s.link.state = .driving ∧ s.link.missing = 2 ∧ s.link.gap = none ∧ Keyed 97) ∧
      (lostFor 500).link.state = .lost ∧ (lostFor 500).link.recovery = some ⟨500, .driving⟩ ∧ (500 : Nat) ≤ 500 ∧
      (lostFor 499).link.recovery = some ⟨499, .driving⟩ ∧ (499 : Nat) < 500 ∧ (linked .driving).link.state ≠ .lost := by
  decide +kernel

/-- A station record, and the 16 slow bytes it is sent in. -/
def combined (last pedals : Nat) : StationRecord :=
  { role := .combined, firstKey := 1, lastKey := last, pedals := pedals, temperature := 41, alpha := 3, arrival := 140,
    latency := 350 }
def recordBytes (r : StationRecord) : List Byte :=
  let l := numBytes 1 3 ++ numBytes 1 r.firstKey ++ numBytes 1 r.lastKey ++ numBytes 1 r.pedals ++ numBytes 1 41 ++
    numBytes 1 r.alpha ++ numBytes 2 r.arrival ++ numBytes 2 r.latency ++ List.replicate 5 0
  l ++ [recordCheck l]

/-- A whole multiframe in which station 1 sent a record. -/
def multiframe (r : StationRecord) : Collection :=
  { positions := List.replicate 16 1, bytes := setNth (Vector.replicate 8 []) 1 (recordBytes r).reverse }

/-- The fifteenth valid return in LOST taken, with a gap open and a take being captured. -/
def recovering (source : LinkState) (stopped : Bool) : State :=
  { playing .duplex 52025 with
    link := { (awaiting .lost 15 0).link with recovery := some ⟨23, source⟩, gap := some ⟨52000, stopped⟩ } }

/-- The returns of `n` cycles of a multiframe collected in a link state. -/
def collecting (l : LinkState) (n : Nat) : State :=
  { linked l with
    link := { (linked l).link with collection := some ⟨List.replicate n 1, Vector.replicate 8 []⟩ } }

theorem witness_RosterChecksAndRecovery :
    rosterFailure 1 88 [1, 1] [combined 88 7] = none ∧ rosterFailure 1 88 [1, 2] [combined 88 7] = some (.count, none) ∧
      rosterFailure 2 88 [2] [combined 88 7] = some (.count, none) ∧
      rosterFailure 1 88 [1] [combined 87 7] = some (.keys, some 88) ∧
      rosterFailure 1 88 [1] [combined 89 7] = some (.keys, some 89) ∧
      rosterFailure 1 88 [1] [combined 88 3] = some (.pedals, some 3) ∧
      (linked .aligning).link.state = .aligning ∧
      (∀ x ∈ [(combined 88 7, none), (combined 87 7, some (RosterReason.keys, some 88))],
        rosterFailure (((linked .aligning).port.profile.map Profile.stations).getD 0) (linked .aligning).keyCount
          (multiframe x.1).positions ((multiframe x.1).records.map (fun r => r.2)) = x.2) ∧
      (let x := readReturn (reported 52015 quiet none)
       52015 % 16 = 15 ∧ 52016 % 16 = 0 ∧ 52017 % 16 ≠ 0 ∧ 52014 % 16 ≠ 15 ∧ (linked .aligning).link.collection = none ∧
         ∀ l ∈ [LinkState.aligning, .driving], ∀ n ∈ [14, 15], ((collecting l n).collect 52015 x).link.collection.map
           (fun m => m.positions.length) = some (n + 1)) ∧
      (multiframe (combined 88 7)).records = [(1, combined 88 7)] ∧
      returnGood 52025 (returned 52025) = true ∧ judgeSlot (readReturn (returned 52025)).slot = .empty ∧ 52025 % 16 ≠ 15 ∧
      (∀ l ∈ [LinkState.aligning, .ready, .driving], ∀ b ∈ [true, false],
        let s := recovering l b
        s.link.expiry = some 52025 ∧ s.link.state = .lost ∧ s.link.valid = 15 ∧ s.link.recovery = some ⟨23, l⟩ ∧
          s.link.rosterChanged = false ∧ s.stationOf 1 ≠ none ∧ s.link.gap = some ⟨52000, b⟩ ∧ s.capturing = true) := by
  refine ⟨?_, ?_, ?_, ?_, ?_, ?_, ?_, ?_, ?_, ?_, ?_, ?_, ?_, ?_⟩ <;> decide +kernel

/-- The board with a count of missing sections. -/
def boardMissing (n : Nat) : RosterEntry := { board with missing := n }

theorem witness_StationsComeAndGo :
    (let none8 : Vector (Option SectionReport) 8 := Vector.replicate 8 none
     (∀ n ∈ [0, 6, 7], ((playing .duplex 50).setStation 1 (boardMissing n)).stationOf 1 = some (boardMissing n) ∧
       (boardMissing n).present = true) ∧
     ((playing .duplex 50).setStation 1 { board with present := false }).stationOf 1 = some { board with present := false } ∧
     sectionOf none8 1 = none ∧ (sectionOf (setNth none8 1 (some quiet)) 1).isSome = true ∧ (6 : Nat) < 7 ∧ (7 : Nat) ≤ 7 ∧
     board.role ≠ .scanner ∧ board.role ≠ .driver ∧ board.hasKey 88 = true ∧ (playing .duplex 50).capturing = true) ∧
    (linked .lost).stationOf 1 = some board ∧ board.lastKey ≠ (combined 87 7).lastKey ∧
      board.role = (combined 88 7).role ∧ board.firstKey = (combined 88 7).firstKey ∧
      board.lastKey = (combined 88 7).lastKey ∧ board.pedals = (combined 88 7).pedals ∧
    ((multiframe (combined 88 7)).wholeRecords = [(1, combined 88 7)] ∧ board.agrees (combined 88 7) = true ∧
      (multiframe (combined 87 7)).wholeRecords = [(1, combined 87 7)] ∧ board.agrees (combined 87 7) = false ∧
      ∀ l ∈ [LinkState.ready, .driving, .lost], (linked l).link.state = l ∧ (linked l).stationOf 1 = some board) := by
  decide +kernel

theorem witness_LinkRequests :
    (linked .down).port.restart = .none ∧ (linked .down).restoring = false ∧ (linked .down).link.state = .down ∧
      (linked .down).port.profile ≠ none ∧ rested.port.restart = .none ∧ rested.restoring = false ∧
      rested.link.state = .down ∧ rested.port.profile = none ∧
      (linked .down).port.restart = .none ∧ (linked .down).restoring = false ∧
      ∀ l ∈ [LinkState.waking, .aligning, .ready, .driving, .lost],
        (linked l).port.restart = .none ∧ (linked l).restoring = false ∧ (linked l).link.state = l ∧ l ≠ .down := by
  decide +kernel

theorem witness_ReadsChangeNothing :
    rested.port.restart = .none ∧ rested.restoring = false ∧ (3 : Nat) ≤ 3 ∧ (127 : Nat) ≤ 127 ∧ (3 : Nat) < 4 ∧
      (127 : Nat) < 128 ∧ (storing (.restore RestoreOp.automatic)).port.restart = .none ∧
      (storing (.restore RestoreOp.automatic)).restoring = true := by decide +kernel

theorem witness_NoticesSetConditions :
    judgeSlot (List.replicate 6 0) = .empty ∧ judgeSlot (Notice.slot ⟨1, 3, 0, 0⟩) = .notice ⟨1, 3, 0, 0⟩ ∧
      judgeSlot (contendSlot ⟨2, 1, 17, 0⟩ (Notice.slot ⟨1, 3, 0, 0⟩)) = .spoiled ∧
      (linked .driving).keyCount = 88 ∧ (10 : Nat) > 9 ∧
      (let s := linked .driving
       s.supplyIsLow 1 = false ∧ (s.setSupplyLow 1 true).supplyIsLow 1 = true ∧ s.isHot 1 = false ∧
         (s.setOverTemp 1 true).isHot 1 = true ∧ s.calib.current = none ∧ s.stationOf 1 = some board ∧
         board.role ≠ .scanner ∧ s.stationOf 2 = none ∧ s.supplyIsLow 2 = false ∧ s.isHot 2 = false ∧
         s.count .saturated + s.sched.entries.length ≤ 65535) ∧
      (let s := run .jobStart (jobReady 40)
       s.calib.current.map (fun c => c.job.key) = some 40 ∧ s.driverOf 40 = some 1 ∧
         s.calib.current.any (fun c => (jobLevels c.job).any (fun l => decide (768 < l))) = true) ∧
      (∀ k ∈ [1, 97], ∀ x ∈ [TrackState.atRest, .down, .blind],
        let s := (playing .duplex 50).setTracker k { TrackerRecord.initial with state := x, sounded := true }
        Keyed k ∧ (s.trackerOf k).state = x ∧ (s.trackerOf k).sounded = true ∧ s.capturing = true ∧
          s.blinderOf k ≠ some 1 ∧ (s.setBlinder k (some 1)).blinderOf k = some 1) := by decide +kernel

theorem witness_ClearKeyFaultEmptiesTheSet :
    let s := (linked .driving).setFault 88 true
    s.port.restart = .none ∧ s.restoring = false ∧ 88 ≤ s.keyCount ∧ s.faulted 88 = true ∧ s.faulted 1 = false ∧
      s.keyCount < 89 := by decide +kernel

/-! ### Capture -/

/-- Key 40 in a tracker state, its hammer past H1 at cycle 100, in a take of a mode. -/
def tracked (m : Mode) (x : TrackState) (sounded : Bool) (owner : Owner) : State :=
  (playing m 100).setTracker 40
    { state := x, h1 := some ⟨100, 10⟩, sounded := sounded, owner := owner, lastStamp := some 1990 }

/-- The same with the key in a drive state. -/
def played (m : Mode) (x : TrackState) (d : DriveState) : State :=
  State.setDrive (tracked m x false .performer) 40 { KeyDrive.initial with state := d }

theorem witness_CrossingsMoveTheRecord :
    (let s := tracked .duplex .blind false .performer
     1 ≤ 40 ∧ 40 ≤ s.keyCount ∧ (s.trackerOf 40).state = .blind ∧ s.keyCount < 89) ∧
    (∀ x ∈ [TrackState.atRest, .down, .rising, .struck, .checked, .silentHeld], ∀ b ∈ [true, false],
      let s := tracked .duplex x b .performer
      Keyed 40 ∧ (s.trackerOf 40).state = x ∧ (s.trackerOf 40).sounded = b ∧ x ≠ .blind ∧ s.captures 40 ∧
        (s.trackerOf 40).h1 = some ⟨100, 10⟩ ∧ ¬(s.stateOf 40 = .armed) ∧
        board.role ≠ .driver ∧ board.firstKey ≤ 40 ∧ 40 ≤ board.lastKey) ∧
    ¬(tracked .duplex .down false .replay).captures 40 ∧
    (∀ x ∈ [TrackState.atRest, .down], let s := played .duplex x .armed
      s.taking = true ∧ s.time.mode = .duplex ∧ s.stateOf 40 = .armed ∧ (s.trackerOf 40).state = x) ∧
    interval ⟨100, 10⟩ ⟨427, 145⟩ = 65535 ∧ interval ⟨100, 10⟩ ⟨427, 146⟩ = 65536 ∧ 65535 < interval ⟨100, 10⟩ ⟨427, 199⟩ ∧
      interval ⟨100, 10⟩ ⟨426, 199⟩ ≤ 65535 := by
  unfold State.captures
  refine ⟨?_, ?_, ?_, ?_, ?_, ?_, ?_, ?_⟩ <;> decide +kernel

theorem witness_StrokesBecomeStrikes :
    (let s := tracked .duplex .rising false .performer
     Keyed 40 ∧ (s.trackerOf 40).state = .rising ∧ (s.trackerOf 40).h1 = some ⟨100, 10⟩ ∧
       interval ⟨100, 10⟩ ⟨100, 10⟩ = 0 ∧ interval ⟨100, 10⟩ ⟨100, 11⟩ = 1 ∧ interval ⟨100, 10⟩ ⟨427, 145⟩ = 65535 ∧
       (s.keySense 40).gap = 2500 ∧ (s.keySense 40).minVelocity = 50 ∧
       (2 * 2500 * 1000 + 1) / (2 * 1) = 2500000 ∧ min 2500000 9999 = 9999 ∧ 50 ≤ 9999 ∧
       (2 * 2500 * 1000 + 65535) / (2 * 65535) = 38 ∧ min 38 9999 < 50) ∧
    (let s := tracked .duplex .rising false .performer
     s.time.transport ≠ .stopped ∧ s.windowOf 40 = none ∧ s.captures 40 ∧
       ∀ h ∈ [Holder.monitor 2000 ⟨40, 0⟩, .sequencer], ∀ x ∈ [1000, 1999],
         (s.setWindow 40 (some ⟨h, 1500, 1000, 1999, 100⟩)).windowOf 40 = some ⟨h, 1500, 1000, 1999, 100⟩ ∧
           (1000 : Int) ≤ (x : Nat) ∧ x ≤ 1999) ∧
    (let s := played .duplex .struck .sounding
     s.time.mode = .duplex ∧ s.stateOf 40 = .sounding ∧ s.windowOf 40 = none) ∧
    (let s := { played .replay .struck .sounding with
      port := { (played .replay .struck .sounding).port with options := { Options.defaults with verify := true } } }
     s.time.mode = .replay ∧ s.port.options.verify = true ∧ s.stateOf 40 = .sounding ∧ s.time.transport ≠ .stopped) ∧
    ¬(tracked .replay .rising false .performer).captures 40 ∧ rested.time.transport = .stopped := by
  unfold State.captures
  decide +kernel

/-- Key k Yielded for two readable cycles, `n` of them over, its tracker in a state. -/
def resting (k n : Nat) (x : TrackState) : State :=
  State.setTracker ((playing .duplex 50).setYield k ⟨some 2, n, 1⟩) k
    { state := x, h1 := none, sounded := false, owner := .performer, lastStamp := none }

/-- The sections of a return that carries station 1's report alone. -/
def heard (x : SectionReport) : Vector (Option SectionReport) 8 := setNth (Vector.replicate 8 none) 1 (some x)

theorem witness_HandOversAreTakenInOrder :
    (rested.pedalSense 1).rawMin = 0 ∧ (rested.pedalSense 1).rawMax = 4095 ∧ (0 : Nat) < 4095 ∧
      pedalPosition (rested.pedalSense 1) 0 = 0 ∧ pedalPosition (rested.pedalSense 1) 4094 = 254 ∧
      pedalPosition (rested.pedalSense 1) 4095 = 255 ∧
      (∀ q ∈ [1, 3], (playing .duplex 50).capturing = true ∧ ((playing .duplex 50).pedalOf q).lastEmitted = none ∧
        ((playing .duplex 50).pedalDriveOf q).level = none ∧
        (((playing .duplex 50).setPedalDrive q ⟨some 1, false⟩).pedalDriveOf q).level = some 1) ∧
      (playing .replay 50).capturing = false ∧
      (∀ k ∈ [1, 88], ∀ n ∈ [0, 1], let s := resting k n .atRest
        (s.yieldOf k).requirement = some 2 ∧ s.sensorOf k = some 1 ∧ s.stationOf 1 = some board ∧ board.present = true ∧
          board.role ≠ .driver ∧ sectionOf (heard quiet) 1 = some quiet ∧ quiet.lost = false ∧
          (s.handOver 50 (heard quiet)).yieldOf k = (if n = 0 then ⟨some 2, 1, 1⟩ else ⟨none, 0, 1⟩) ∧
          (s.handOver 50 (heard { quiet with lost := true })).yieldOf k = ⟨some 2, n, 1⟩ ∧
          (s.handOver 50 (Vector.replicate 8 none)).yieldOf k = ⟨some 2, n, 1⟩ ∧
          ((resting k n .down).handOver 50 (heard quiet)).yieldOf k = ⟨some 2, 0, 1⟩) ∧
      (resting 40 0 .atRest).capturing = true ∧ (resting 40 0 .atRest).capture.summary.takeOpen = false ∧
      (run (.transportStart 1 0) { linked .driving with time := { rested.time with mode := .duplex } }).capture.summary.takeOpen
        = true ∧ ((resting 40 0 .down).trackerOf 40).state ≠ .rising := by
  refine ⟨?_, ?_, ?_, ?_, ?_, ?_, ?_, ?_, ?_, ?_, ?_, ?_, ?_⟩ <;> decide +kernel

/-- A Capture Queue of `n` events of one kind and voice. -/
def queueing (n : Nat) (kind : CaptureKind) (voice : Nat) : State :=
  (playing .duplex 50).setEvents (List.replicate n ⟨kind, voice, 950, 0⟩)

/-- The transmit queue of a part holding `n` Status frames, its line sending or free. -/
def holding (n : Nat) (line : Option Nat) (s : State) : State :=
  { s with port := { s.port with queue := List.replicate n (.status 0 (rested.statusRecord false)), line := line } }

/-- R77, R171: 40 settled events would make two frames; at 47 frames queued one is taken, at 48 none. -/
theorem witness_TheCaptureQueueHoldsAndSends_limit :
    ∀ n ∈ [46, 47, 48, 49], (holding n (some 64) (queueing 40 .strike 40)).queued = n ∧
      (holding n (some 64) (queueing 40 .strike 40)).time.transport ≠ .stopped ∧
      (holding n (some 64) (queueing 40 .strike 40)).captureRelease.queued = max n 48 ∧
      (holding n (some 64) (queueing 40 .strike 40)).captureRelease.capture.events.length = 40 - 30 * (48 - n) := by
  decide +kernel

theorem witness_TheCaptureQueueHoldsAndSends :
    (queueing 255 .strike 40).capture.events.length < 256 ∧ 256 ≤ (queueing 256 .strike 40).capture.events.length ∧
      (∃ x ∈ (queueing 256 .pedal 120).capture.events, x.kind = .pedal ∧ x.voice = 120) ∧
      (∀ x ∈ (queueing 256 .pedal 120).capture.events, ¬(x.kind = .pedal ∧ x.voice = 121)) ∧
      (queueing 256 .strike 40).time.transport ≠ .stopped ∧ 950 + 50 ≤ 20 * (queueing 1 .strike 40).takeCycle ∧
      ¬951 + 50 ≤ 20 * (queueing 1 .strike 40).takeCycle ∧ rested.time.transport = .stopped ∧
      (let s := { playing .capture 50 with link := rested.link }
       s.link.state = .down ∧ s.link.recovery = none ∧ s.time.waiting = [] ∧ s.time.linkLeft = .none ∧
         s.calib.current = none ∧ s.time.transport = .running) ∧
      (run (.transportStart 1 0) { linked .driving with time := { rested.time with mode := .duplex } }).capture.summary.takeOpen
        = true := by decide +kernel

/-! ### Tables, cache, jobs -/

theorem witness_TableWritesReplaceOneEntry :
    rested.port.restart = .none ∧ rested.storeBusy = false ∧ (storing (.save (saveAt .erasing))).storeBusy = true ∧
      (storing (.save (saveAt .erasing))).port.restart = .none ∧
      descriptorFailure 3 127 ⟨1, 1, 97, 511, 1500, 1, 1⟩ = none ∧ descriptorFailure 0 0 ⟨0, 3, 3, 0, 500, 0, 0⟩ = none ∧
      pageValid (.strike points scalars) = true ∧ pageValid (.pedal [⟨0, 0, 0⟩, ⟨255, 900, 0⟩]) = true := by decide +kernel

/-- Strike breakpoints at each bound of R91 and beyond it, with the first failure. -/
def edged : List (List Breakpoint × Option (Nat × Nat)) :=
  [([⟨1, 1, 60000⟩, ⟨9999, 1023, 500⟩], none), ([⟨1, 1, 500⟩, ⟨2, 1, 500⟩], none), ([⟨0, 0, 0⟩, ⟨0, 0, 0⟩], some (4, 0)),
    ([⟨1, 0, 499⟩, ⟨2, 1, 500⟩], some (5, 0)), ([⟨1, 1, 499⟩, ⟨2, 1, 500⟩], some (6, 0)),
    ([⟨1, 1, 60001⟩, ⟨2, 1, 500⟩], some (6, 0)), ([⟨1, 1, 500⟩, ⟨10000, 1024, 500⟩], some (4, 1)),
    ([⟨1, 1, 500⟩, ⟨2, 1024, 501⟩], some (5, 1)), ([⟨1, 1, 500⟩, ⟨2, 1, 501⟩], some (6, 1)),
    ([⟨1, 2, 500⟩, ⟨1, 1, 501⟩], some (4, 1)), ([⟨1, 2, 500⟩, ⟨2, 1, 501⟩], some (5, 1))]
/-- The same of Pedal breakpoints. -/
def edgedPedals : List (List Breakpoint × Option (Nat × Nat)) :=
  [([⟨0, 0, 0⟩, ⟨255, 1023, 60000⟩], none), ([⟨0, 0, 1⟩, ⟨1, 0, 0⟩], none), ([⟨0, 0, 0⟩, ⟨256, 1023, 60000⟩], some (4, 1)),
    ([⟨5, 0, 0⟩, ⟨5, 0, 0⟩], some (4, 1)), ([⟨0, 1, 0⟩, ⟨1, 0, 60001⟩], some (5, 1)), ([⟨0, 1024, 0⟩, ⟨1, 1024, 0⟩], some (5, 0)),
    ([⟨0, 0, 60001⟩, ⟨1, 0, 0⟩], some (6, 0))]
/-- Fifteen rising breakpoints. -/
def rising : List Breakpoint := (List.range 15).map (fun i => ⟨i + 1, i + 1, 60000 - 1000 * i⟩)

theorem witness_TableWritesRefuseBadFields :
    rested.port.restart = .none ∧ rested.storeBusy = false ∧ rested.restoring = false ∧ (3 : Nat) < 4 ∧ (127 : Nat) < 128 ∧
      (∀ p, (fun p => exec (.writeKeySense 1 1 97 999 1800 50) rested = .next (rested.reply 1 12 .range (.field p))) p ↔
        exec (.writeKeySense 1 1 97 999 1800 50) rested = .next (rested.reply 1 12 .range (.field p))) ∧
      pageFailure (.strike [⟨400, 180, 24000⟩, ⟨1200, 420, 9000⟩, ⟨1200, 760, 4200⟩] scalars) = some (4, 2) ∧
      pointsFailure strikeLimits true none 0 points = none ∧ 2 ≤ points.length ∧ points.length ≤ 16 ∧
      (∀ x ∈ edged, pageFailure (.strike x.1 scalars) = x.2) ∧ (∀ x ∈ edgedPedals, pageFailure (.pedal x.1) = x.2) ∧
      pageFailure (.strike (rising ++ [⟨16, 16, 45000⟩]) scalars) = none ∧
      pageFailure (.strike (rising ++ [⟨16, 14, 45000⟩]) scalars) = some (5, 15) := by
  refine ⟨?_, ?_, ?_, ?_, ?_, fun p => Iff.rfl, ?_, ?_, ?_, ?_, ?_, ?_, ?_, ?_⟩ <;> decide +kernel

theorem witness_CacheRequests :
    rested.port.restart = .none ∧ (replaying 5 ⟨.release, 9, 0, 50⟩).port.restart = .none := by decide +kernel

/-- The job of `jobReady` with its first strike admitted, and with that strike measuring in a window of its own. -/
def jobAdmitted : State := run .jobStart (jobReady 40)
def jobMeasuring : State :=
  State.setWindow
    { jobAdmitted with
      calib := { jobAdmitted.calib with current := jobAdmitted.calib.current.map (fun c => { c with state := .measuring }) } }
    40 (some ⟨.sequencer, 600060, 600060, 604060, 30203⟩)

theorem witness_CalibrationRequests :
    (jobReady 1).port.restart = .none ∧ jobAdmitted.port.restart = .none ∧ jobAdmitted.restoring = false ∧
      jobAdmitted.calib.current.map CurrentJob.state = some .admitted ∧
      jobMeasuring.calib.current.map CurrentJob.state = some .measuring ∧ jobMeasuring.restoring = false ∧
      jobAdmitted.calib.current.map (fun c => c.job.key) = some 40 ∧ Keyed 40 ∧
      (jobAdmitted.sched.entries.filter (fun e => e.calibrationAttack 40)).length = 1 ∧
      jobAdmitted.sched.entries.length = 2 ∧ (jobAdmitted.driveOf 40).notes.length = 1 ∧
      rested.port.restart = .none ∧ rested.restoring = false ∧ rested.calib.current = none ∧ rested.calib.queue = [] := by
  decide +kernel

/-! ### The Score Port Controller's own requests and the store -/

theorem witness_PortRequests :
    (rested.port.restart = .none ∧ rested.storeBusy = false ∧ rested.port.profile = none ∧
      (linked .down).storeBusy = false ∧ (linked .down).port.profile = some profile88 ∧
      (storing (.save (saveAt .erasing))).storeBusy = true ∧
      (∀ f ∈ [(⟨88, 1, 0, 0⟩ : RawProfile), ⟨97, 8, 37, 1⟩], (f.keyCount = 88 ∨ f.keyCount = 97) ∧ 1 ≤ f.stations ∧
        f.stations ≤ 8 ∧ f.boundary ≤ 37 ∧ f.autoPermit ≤ 1) ∧ (87 : Nat) ≠ 88 ∧ (87 : Nat) ≠ 97) ∧
    (rested.port.restart = .none ∧ rested.restoring = false ∧
      (∀ x ∈ [(OptionName.holdCap, 1), (.windowWidth, 100), (.statusPeriod, 10)],
        (optionRange x.1).1 ≤ x.2 ∧ x.2 ≤ (optionRange x.1).2) ∧
      (99 : Nat) < (optionRange .windowWidth).1) ∧
    rested.port.restart = .none ∧ rested.queued < 64 ∧ rested.storeBusy = false ∧
      (storing (.save (saveAt .erasing))).storeBusy = true ∧
      ({ rested with port := { rested.port with queue := List.replicate 63 (.reply 0 1 .done .nothing) } } : State).queued
        < 64 ∧ (87 : Nat) ≠ 88 ∧ (37 : Nat) < 38 ∧ (1 : Nat) < 2 ∧
      64 ≤ ({ rested with port := { rested.port with queue := List.replicate 64 (.reply 0 1 .done .nothing) } } : State).queued ∧
      (run (.setMode 1 3) rested).port.timer = some 100 ∧ (run (.setMode 1 3) rested).port.restart = .none ∧
      (run (.setMode 1 3) rested).restoring = false := by decide +kernel

theorem witness_StoreRequests :
    rested.port.restart = .none ∧ rested.storeBusy = false ∧ rested.time.mode = .idle ∧ rested.boundary ≤ 0 ∧
      (linked .down).storeBusy = false ∧ (linked .down).time.mode = .idle ∧ 36 < (linked .down).boundary ∧
      (storing (.restore RestoreOp.automatic)).storeBusy = true ∧ (playing .replay 5).storeBusy = false ∧
      (playing .replay 5).time.mode ≠ .idle ∧
      (storing (.restore RestoreOp.automatic)).port.restart = .none ∧
      (storing (.restore RestoreOp.automatic)).restoring = true ∧ (storing (.save (saveAt .erasing))).saving = true ∧
      refusedWhileSaving (.setMode 2) = true ∧ refusedWhileSaving (.setMode 5) = true ∧ refusedWhileSaving (.setMode 6) = false := by decide +kernel

theorem witness_TheStagesOfASave :
    (∀ g ∈ [SaveStage.erasing, .programming, .verifying],
      (storing (.save { saveAt g with block := 36, last := 36 })).store.op = .save { saveAt g with block := 36, last := 36 } ∧
        ({ saveAt g with block := 36, last := 36 } : SaveOp).block ≤ 36) ∧
      (saveAt .verifying).block < (saveAt .verifying).last ∧ (saveAt .verifying).block + 1 < (saveAt .verifying).boundary ∧
      ({ saveAt .verifying with boundary := 18 } : SaveOp).boundary ≤ (saveAt .verifying).block + 1 := by decide +kernel

theorem witness_ARestoreLoadsBlockByBlock :
    (∀ b ∈ [0, 35, 36], (storing (.restore ⟨b, .automatic, []⟩)).store.op = .restore ⟨b, .automatic, []⟩ ∧ b ≤ 36) ∧
      rested.restoring = false := by decide +kernel

/-- A save under the boundary 37 in force. -/
def savingAll (g : SaveStage) : State :=
  { linked .down with store := { rested.store with op := .save { saveAt g with block := 36, last := 36 } } }

theorem witness_StoreOperationsKeepTheirBounds :
    ((savingAll .erasing).saveLawful ∧
      exec .storeEraseComplete (savingAll .erasing) = .next (run .storeEraseComplete (savingAll .erasing)) ∧
      (savingAll .erasing).boundary ≤ 37 ∧ rested.saveLawful ∧ rested.boundary ≤ 0) ∧
    (savingAll .erasing).storeLawful ∧ (savingAll .erasing).storeBusy = true ∧
      exec (.writePage 1 0 .empty) (savingAll .erasing) = .next (run (.writePage 1 0 .empty) (savingAll .erasing)) := by
  refine ⟨⟨?_, next_of_answers ?_, ?_, ?_, ?_⟩, ?_, ?_, next_of_answers ?_⟩ <;>
    first
      | decide +kernel
      | (unfold State.saveLawful; decide +kernel)
      | (unfold State.storeLawful State.restLawful; decide +kernel)
      | trivial

/-! ### Replay -/

theorem witness_TheHeadOfTheIntakeIsTested :
    (∀ r ∈ [(⟨.marker, 0, 7, 25000⟩ : EventRecord), ⟨.endOfReplay, 0, 0, 146000⟩, ⟨.strike, 0, 2000, 25000⟩, ⟨.strike, 128, 2000, 25000⟩,
        ⟨.strike, 1, 2000, 25000⟩, ⟨.release, 127, 0, 25000⟩],
      let s := replaying 50 r
      s.intake = r :: [] ∧ s.time.transport = .running ∧ s.voices.walk = none ∧
        r.time + s.time.preroll + s.time.shift ≤ s.now + s.port.options.lookAhead ∧ recordNeeds r.kind ≤ s.freeEntries ∧
        (r.voice ≠ 40 → s.voices.find r.voice = none)) ∧
    (∀ v ∈ [1, 127], ∀ kind ∈ [RecordKind.strike, .silentPress, .release, .pedal],
      let r : EventRecord := ⟨kind, v, 200, 25000⟩
      let e := { entry40 with voice := v }
      let s := { replaying 50 r with voices := { activeSet := 0, entries := [entry40, e], walk := none } }
      s.intake = r :: [] ∧ s.voices.find v = some e ∧ r.kind ≠ .marker ∧ r.kind ≠ .endOfReplay ∧
        r.time + s.time.preroll + s.time.shift ≤ s.now + s.port.options.lookAhead ∧ recordNeeds r.kind ≤ s.freeEntries) ∧
    (let r : EventRecord := ⟨.strike, 1, 2000, 146001⟩
     (replaying 50 r).now + (replaying 50 r).port.options.lookAhead <
       r.time + (replaying 50 r).time.preroll + (replaying 50 r).time.shift) := by decide +kernel

/-- A note of an id with its onset, attack and Off. -/
def someNote (id onset off : Nat) : Note :=
  { id := id, onset := onset, attack := 1200, rearm := 3500, strike := none, off := off, origin := .stream, owed := true,
    attackDispatched := false, offDispatched := false, via := some ⟨40, 0⟩, velocity := none }

/-- Key k with some notes and a rearm base, in take cycle 6,000 of a replay. -/
def noted (k : Nat) (notes : List Note) (base : Option Nat) : State :=
  (playing .replay 6000).setDrive k { KeyDrive.initial with notes := notes, rearmBase := base }

theorem witness_NotesAreSpaced :
    let p := someNote 2 125000 130000
    let gone := { someNote 3 127000 128000 with offDispatched := true }
    let s (k : Nat) := noted k [gone, p, gone] none
    ∀ k ∈ [1, 97], Keyed k ∧ ((s k).driveOf k).notes = [gone] ++ p :: [gone] ∧ p.offDispatched = false ∧
      (∀ n ∈ [gone], n.offDispatched = true) ∧ max (p.onset + p.attack) (s k).earliest = 126200 ∧
      (129699 : Nat) < 126200 + 3500 ∧ 126200 + 3500 ≤ (129700 : Nat) ∧ (133499 : Nat) < p.off + 3500 ∧
      p.off + 3500 ≤ (133500 : Nat) ∧ 126200 + 3500 ≤ (133500 : Nat) ∧
      (∀ n ∈ ((noted k [gone] (some 128000)).driveOf k).notes, n.offDispatched = true) ∧
      ((noted k [gone] (some 128000)).driveOf k).rearmBase = some 128000 ∧ (131499 : Nat) < 128000 + 3500 ∧
      128000 + 3500 ≤ (131500 : Nat) ∧ ((noted k [] none).driveOf k).notes = [] ∧
      ((noted k [] none).driveOf k).rearmBase = none := by decide +kernel

theorem witness_StrikesAndSilentPressesBecomeNotes :
    (∀ kind ∈ [RecordKind.strike, .silentPress],
      let r : EventRecord := ⟨kind, 40, 2000, 125000⟩
      let s := replaying 6000 r
      s.intake = r :: [] ∧ s.admissible r = true ∧ 1 ≤ r.voice ∧ r.voice ≤ 127 ∧ s.voices.find 40 = some entry40 ∧
        entry40.kind = .key ∧ entry40.page = .strike points scalars ∧ entry40.target = 40 ∧ Keyed 40 ∧
        s.refusal 40 = none ∧ s.waitingYield 40 = false) ∧
      (let s := replaying 6000 ⟨.strike, 40, 2000, 125000⟩
       (computeStrike points scalars 1040 2000 (s.feed (s.driverOf 40)) (s.clocking 125000)).outcome ≠ .stale ∧
         (computeSilent scalars 1040 (s.feed (s.driverOf 40)) (s.clocking 125000)).outcome ≠ .stale ∧
         (computeStrike points scalars 1040 2000 (s.feed (s.driverOf 40)) (s.clocking 1000)).outcome = .stale) ∧
      (let f : Feed := ⟨140, 350, 3, 41, false⟩
       (18000 + f.arrival + f.latency + 9) / 10 = 1849 ∧ 1849 + 120000 ≤ (121849 : Nat) ∧ (121848 : Nat) < 1849 + 120000 ∧
         1849 + 120000 ≤ 118849 + (3000 : Nat) ∧ ¬(1849 + 120000 ≤ 118848 + (3000 : Nat))) ∧
      (pageValid (.strike points scalars) = true ∧ points.head? = some ⟨400, 180, 24000⟩ ∧
        points.getLast? = some ⟨3000, 760, 4200⟩ ∧
        ∀ x ∈ [(0, 0), (400, 0), (1199, 0), (1200, 1), (3000, 1), (9999, 1)], ∃ a ∈ points[x.2]?, ∃ b ∈ points[x.2 + 1]?,
          let v2 := if max 1 x.1 < 400 then 400 else if 3000 < max 1 x.1 then 3000 else max 1 x.1
          a.input ≤ v2 ∧ b.input - a.input ≠ 0 ∧ ∀ j q, points[j]? = some q → q.input ≤ v2 → j + 2 ≤ points.length → j ≤ x.2) ∧
      (120000 + 736 ≤ (120736 : Nat) ∧ (120735 : Nat) < 120000 + 736 ∧ 120000 + 736 ≤ 117736 + (3000 : Nat) ∧
        117735 + (3000 : Nat) < 120000 + 736) := by
  refine ⟨?_, ?_, ?_, ⟨?_, ?_, ?_, fun x hx => ?_⟩, ?_⟩
  · decide +kernel
  · decide +kernel
  · decide +kernel
  · decide +kernel
  · rfl
  · rfl
  · have greatest : ∀ v2, (1200 ≤ v2 ∨ v2 < 1200) → ∀ j q, points[j]? = some q → q.input ≤ v2 → j + 2 ≤ points.length →
        j ≤ if 1200 ≤ v2 then 1 else 0 := by
      intro v2 _ j q hq hv hj
      match j with
      | 0 => exact Nat.zero_le _
      | 1 =>
        obtain rfl : q = ⟨1200, 420, 9000⟩ := by simpa [points] using hq.symm
        simp_all
      | j + 2 => simp [points] at hj
    fin_cases hx <;>
      exact ⟨_, rfl, _, rfl, by decide, by decide, fun j q h1 h2 h3 => by simpa using greatest _ (by omega) j q h1 h2 h3⟩
  · decide

/-- The page of a pedal, and the entry of voice 120 for it, an inverted one of voice 121. -/
def pedalPoints : List Breakpoint := [⟨10, 0, 24000⟩, ⟨240, 900, 9000⟩]
def entry120 (kind : VoiceKind) : CacheEntry :=
  { voice := 120, set := 0, kind := kind, target := 3, slot := 211, trim := 1000, page := .pedal pedalPoints }

/-- A replay with the pedal's entry in the cache too. -/
def pedalling (kind : VoiceKind) (r : EventRecord) : State :=
  { replaying 6000 r with voices := { activeSet := 0, entries := [entry40, entry120 kind], walk := none } }

/-- A release of key 40 at the head, the key with one note. -/
def releasing (n : Note) : State := (replaying 6000 ⟨.release, 40, 0, 125000⟩).setDrive 40 { KeyDrive.initial with notes := [n] }

theorem witness_ReleasesPedalsAndDropsAtAdmission :
    (let r : EventRecord := ⟨.strike, 40, 2000, 125000⟩
     let s := replaying 6000 r
     s.intake = r :: [] ∧ s.admissible r = true ∧ s.voices.find 40 = some entry40 ∧ entry40.page = .strike points scalars ∧
       entry40.target = 40 ∧ (s.setFault 40 true).faulted 40 = true ∧ s.faulted 40 = false ∧ s.driverOf 40 = some 1 ∧
       s.stationOf 1 = some board ∧ board.present = true ∧ s.supplyIsLow 1 = false ∧
       (s.setStation 1 { board with present := false }).stationOf 1 = some { board with present := false } ∧
       (linked .driving).driverOf 97 = none ∧
       ((s.setDrive 40 { KeyDrive.initial with state := .yielded }).driveOf 40).state = .yielded) ∧
    (let r : EventRecord := ⟨.pedal, 40, 255, 125000⟩
     (replaying 6000 r).admissible r = true ∧ (replaying 6000 r).voices.find 40 = some entry40 ∧ entry40.kind = .key ∧
       (pedalling .pedal ⟨.release, 120, 0, 125000⟩).admissible ⟨.release, 120, 0, 125000⟩ = true ∧
       (pedalling .pedal ⟨.release, 120, 0, 125000⟩).voices.find 120 = some (entry120 .pedal) ∧
       (entry120 .pedal).kind ≠ .key) ∧
    (let s := releasing (someNote 5 125000 130000)
     s.admissible ⟨.release, 40, 0, 125000⟩ = true ∧ (s.driveOf 40).notes = [] ++ someNote 5 125000 130000 :: [] ∧
       (someNote 5 125000 130000).owed = true ∧ (someNote 5 125000 130000).offDispatched = false ∧ Keyed 40 ∧
       (∀ n ∈ ((releasing { someNote 5 125000 130000 with owed := false }).driveOf 40).notes, n.owed = false) ∧
       ({ someNote 5 125000 130000 with offDispatched := true } : Note).offDispatched = true ∧
       max (max (125000 + s.time.preroll + s.time.shift - (board.arrival + board.latency + 9) / 10) (125000 + 1200)) s.earliest
         = 129951 ∧ (129951 : Nat) < (someNote 5 125000 129952).off ∧ (someNote 5 125000 129951).off ≤ 129951) ∧
    (∀ kind ∈ [VoiceKind.pedal, .invertedPedal], ∀ value ∈ [0, 10, 255, 256],
      let r : EventRecord := ⟨.pedal, 120, value, 125000⟩
      let s := pedalling kind r
      s.intake = r :: [] ∧ s.admissible r = true ∧ s.voices.find 120 = some (entry120 kind) ∧ (entry120 kind).kind ≠ .key ∧
        (entry120 kind).page = .pedal pedalPoints ∧ (entry120 kind).target = 3 ∧ s.pedalDriverOf 3 = some 1 ∧
        s.supplyIsLow 1 = false ∧ s.stationOf 1 = some board ∧ board.present = true ∧
        (pedalPoints.head?.map Breakpoint.input).getD 0 = 10 ∧ (pedalPoints.getLast?.map Breakpoint.input).getD 0 = 240 ∧
        (rested.pedalDriverOf 3 = none)) := by decide +kernel

theorem witness_WalksReadAndFill :
    let d : VoiceDescriptor := ⟨true, .key, 60, 210, 1000, false, false⟩
    let held (s : State) := run .walkDescriptorRead s
    rested.voices.walk = none ∧
      (walking d none).voices.walk = some ⟨95, 0, none, none⟩ ∧ (walking d none).mem.descriptor 0 95 = some d ∧
      (walking { d with present := false } none).mem.descriptor 0 95 = some { d with present := false } ∧
      (walking d (some { d with target := 89 })).keyCount < 89 ∧ (walking d (some { d with page := 0 })).mem.page 0 = none ∧
      (held (walking d (some d))).voices.walk = some ⟨95, 0, some d, some (some (.strike points scalars))⟩ ∧
      pageSuits .pedal (.strike points scalars) = false ∧
      (walking d (some d)).voices.walk = some ⟨95, 0, some d, none⟩ ∧ ¬(walking d (some d)).keyCount < 60 ∧
      (walking d (some d)).mem.page 210 = some (.strike points scalars) ∧ pageSuits .key (.strike points scalars) = true ∧
      (walking d (some d)).intake = ⟨.strike, 95, 2000, 4000⟩ :: [] := by decide +kernel

theorem witness_AnEventsFrameFillsTheIntake :
    let s := { playing .replay 5 with intake := List.replicate 64 ⟨.release, 9, 0, 50⟩ }
    s.port.restart = .none ∧ s.intake.length ≤ 64 ∧ s.count .intakeOverrun + 30 ≤ 65535 ∧ s.time.mode = .replay ∧
      (playing .capture 5).port.restart = .none ∧ (playing .capture 5).time.mode = .capture := by decide +kernel

/-! ### Verification and calibration -/

/-- Key k watched as in `watching`, with adaptive trim and outcome reports on. -/
def adapting (k : Nat) : State :=
  { watching k 50 with
    port := { (watching k 50).port with options :=
      { Options.defaults with adaptiveTrim := true, outcomeReports := true } } }

theorem witness_MonitorWindowsEnd :
    (∀ k ∈ [1, 97], ∀ x ∈ [1000, 1999],
      Keyed k ∧ (adapting k).time.transport ≠ .stopped ∧
        (adapting k).windowOf k = some ⟨.monitor 2000 ⟨40, 0⟩, 1500, 1000, 1999, 100⟩ ∧ (1000 : Int) ≤ (x : Nat) ∧ x ≤ 1999 ∧
        (adapting k).mem.descriptor 0 40 = some ⟨true, .key, k, 210, 1490, true, true⟩ ∧
        verifiedStep 2000 1600 = 25 ∧ (clampInt ((1490 : Int) + 25) 500 1500).toNat = 1500) ∧
    (∀ k ∈ [1, 97], Keyed k ∧ (watching k 100).windowOf k = some ⟨.monitor 2000 ⟨40, 0⟩, 1500, 1000, 1999, 100⟩ ∧
      (watching k 100).mem.descriptor 0 40 = some ⟨true, .key, k, 210, 1490, true, true⟩ ∧
      (watching k 100).time.transport = .running ∧ 100 ≤ (watching k 100).takeCycle ∧ (watching k 99).takeCycle < 100) ∧
    (watching 1 50).windowOf 97 = none ∧ ({ watching 1 100 with time := (paused .duplex 100).time } : State).time.transport ≠ .running := by
  decide +kernel

/-- Key k watched until cycle 100 in take cycle 50, with outcome reports on, its drive standing. -/
def striking (k : Nat) (x : KeyDrive) : State :=
  State.setDrive
    { watching k 50 with
      port := { (watching k 50).port with options := { Options.defaults with outcomeReports := true } } } k x

theorem witness_DispatchedCommandsTakeEffect :
    (∀ k ∈ [1, 88], let a := attackEntry k 1019 7
      let s := striking k { KeyDrive.initial with immediateOff := true, releaseEnd := some 900, rearmBase := some 800 }
      Keyed k ∧ a.target = k ∧ a.kind = .attack ∧ a.via = some ⟨40, 0⟩ ∧ ({ a with kind := .hold } : Entry).kind = .hold ∧
        ({ a with via := none } : Entry).via = none ∧ (offEntry k 1000 7).kind = .off ∧ s.verifies = true ∧
        (s.trackerOf k).state ≠ .blind ∧ s.sensed k = true ∧ (s.driveOf k).immediateOff = true ∧
        s.windowOf k = some ⟨.monitor 2000 ⟨40, 0⟩, 1500, 1000, 1999, 100⟩ ∧ (s.setWindow k none).windowOf k = none ∧
        (s.setTracker k { TrackerRecord.initial with state := .blind }).windowOf k = s.windowOf k ∧
        (playing .capture 50).verifies = false ∧ (linked .driving).sensed 97 = false) ∧
      (∀ q ∈ [1, 3], 1 ≤ q ∧ q ≤ 3 ∧ ({ offEntry q 1000 7 with kind := .pedalSet } : Entry).target = q) ∧
      ({ offEntry 0 1000 7 with kind := .marker } : Entry).kind = .marker ∧
      ({ offEntry 0 1000 7 with kind := .endOfReplay } : Entry).kind = .endOfReplay := by decide +kernel

/-- A current job of key 40 in a strike state, at a level and a strike of its sweep. -/
def sweeping (x : StrikeState) (level strike : Nat) : CurrentJob :=
  { job := ⟨40, 210, 5, 150, 850, 2, 500⟩, scalars := Config.defaultScalars, attack := 1200, rearm := 3500, level := level,
    strike := strike, state := x, planned := 600060, onset := some 600060, measured := 1, sumVelocity := 310,
    sumFlight := 27380, samples := [] }

/-- That job in a take. -/
def sweep (x : StrikeState) (level strike : Nat) : State :=
  { playing .calibrate 30000 with
    calib := { queue := [⟨40, 210, 5, 150, 850, 2, 500⟩], current := some (sweeping x level strike), testDue := false } }

theorem witness_MeasurementsAdvanceTheJob :
    Keyed 40 ∧ (sweep .admitted 0 1).calib.current = some (sweeping .admitted 0 1) ∧
      ((sweep .admitted 0 1).trackerOf 40).state ≠ .blind ∧ (sweep .admitted 0 1).sensed 40 = true ∧
      ((sweep .admitted 0 1).setTracker 40 { TrackerRecord.initial with state := .blind }).calib.current =
        some (sweeping .admitted 0 1) ∧
      (let w : Window := ⟨.sequencer, 600060, 600060, 610060, 30504⟩
       let s := (sweep .measuring 0 1).setWindow 40 (some w)
       s.windowOf 40 = some w ∧ s.calib.current = some (sweeping .measuring 0 1) ∧ s.time.transport = .running ∧
         s.takeCycle < 30504 ∧ (s.driverOf 40).bind s.stationOf = some board ∧ (600060 : Int) ≤ (610060 : Nat) ∧
         ({ s with time := { s.time with linkCycle := 30504 } } : State).takeCycle = 30504) ∧
      (sweeping .measuring 0 1).strike < (sweeping .measuring 0 1).job.repeats ∧
      (sweeping .measuring 3 2).job.repeats ≤ (sweeping .measuring 3 2).strike ∧
      (sweeping .measuring 3 2).level + 1 < (sweeping .measuring 3 2).job.levels ∧
      (sweeping .measuring 4 2).job.levels ≤ (sweeping .measuring 4 2).level + 1 ∧
      (sweep .pending 4 1).calib.current = some (sweeping .pending 4 1) ∧
      jobLevel (sweeping .pending 4 1).job 4 = 850 ∧ jobLevel (sweeping .pending 3 1).job 3 ≤ 768 ∧
      ((sweep .pending 4 1).setOverTemp 1 true).isHot 1 = true ∧ (sweep .pending 4 1).driverOf 40 = some 1 ∧
      (sweep .pending 4 1).refusal 40 = none ∧ 2 ≤ (sweep .pending 4 1).freeEntries ∧
      ((sweep .pending 4 1).setFault 40 true).refusal 40 = some .keyFault ∧
      ((sweep .pending 4 1).setStation 1 { board with present := false }).refusal 40 = some .keyUnavailable ∧
      ((sweep .pending 4 1).setDrive 40 { KeyDrive.initial with state := .yielded }).refusal 40 = some .yielded ∧
      ((sweep .pending 4 1).setEntries (List.replicate 511 (offEntry 1 700000 7))).freeEntries < 2 := by decide +kernel

/-- The samples of the worked job of chapter 10. -/
def workedSamples : List Sample :=
  [⟨150, 2, some (310, 27400)⟩, ⟨325, 2, some (820, 12900)⟩, ⟨500, 2, some (790, 13400)⟩, ⟨675, 2, some (2050, 6100)⟩,
    ⟨850, 2, some (3400, 3900)⟩]

theorem witness_PagesAreBuiltFromKeptSamples :
    workedSamples.length ≤ 16 ∧ scalarsFailure scalars = none ∧ workedSamples.Pairwise (fun a b => a.level ≤ b.level) ∧
      (∀ x ∈ workedSamples, 1 ≤ x.level ∧ x.level ≤ 1023 ∧ ∀ r ∈ x.reading, 1 ≤ r.1 ∧ r.1 ≤ 9999 ∧ 500 ≤ r.2 ∧ r.2 ≤ 60000) ∧
      (keptPoints (keepMarks none workedSamples)).length = 4 ∧
      pageValid (.strike (keptPoints (keepMarks none workedSamples)) scalars) = true ∧
      (keptPoints (keepMarks none (workedSamples.take 1))).length < 2 ∧ (511 : Nat) ≤ 511 := by decide +kernel

/-! ### Frames of the Score Port -/

theorem witness_RequestsAreReadBack :
    ∀ r ∈ [Request.setMode 255, .setCue 1 4294967295, .writePage 65535 (.strike points scalars), .writePage 0 (.other 255),
      .setOptions [(.lateTolerance, 4294967295), (.statusPeriod, 0)], .setOptions [], .storeSave 255 0],
      r.wellFormed = true := by decide +kernel

theorem witness_FramesAreReceivedWhole :
    rested.port.received = [] ∧ (EventRecord.mk .strike 255 65535 4294967295).wellFormed = true ∧
      (List.replicate 240 (126#8)).length ≤ 240 ∧ (List.replicate 30 (EventRecord.mk .marker 0 0 0)).length ≤ 30 := by
  decide +kernel

/-- Bytes in which no 126 stands before a 165. -/
theorem unmarked {l : List Byte} (h : decide ([126#8, 165#8] <:+: l) = false) (before after : List Byte) :
    l ≠ before ++ [126, 165] ++ after := fun e => of_decide_eq_false h ⟨before, after, e.symm⟩

/-- The bytes of a frame behind its delimiter. -/
def framed (kind : Byte) (payload : List Byte) (c : BitVec 16) : List Byte := portBody kind 7 0 payload ++ crcBytes c

/-- One payload beyond each bound: kinds 0 and 3, codes 0 and 7, lengths 7, 9, 241 and 248, and empty ones of both kinds. -/
def damaged : List (Byte × List Byte) :=
  [(0, [6, 0]), (3, [6, 0]), (1, List.replicate 8 0), (1, List.replicate 8 7), (1, List.replicate 8 1 ++ List.replicate 8 0),
    (1, List.replicate 7 1), (1, List.replicate 9 1), (2, List.replicate 241 6), (1, List.replicate 248 1), (2, []), (1, [])]

theorem witness_DamagedFramesOnlyCount :
    (rested.port.received = [] ∧ rested.port.restart = .none ∧
      ({ rested with port := { rested.port with received := [126] } } : State).port.received = [126]) ∧
    (∀ before after, [126#8] ++ [164, 126] ≠ before ++ [126, 165] ++ after) ∧
    (∀ before after, ([] : List Byte) ++ [165, 126, 126] ≠ before ++ [126, 165] ++ after) ∧
    (0x7E7E : BitVec 16) ≠ crc16 (portBody 2 7 0 [6, 0]) ∧ (framed 2 [6, 0] 0x7E7E).getLast? = some 126 ∧
    (∀ before after, framed 2 [6, 0] 0x7E7E ≠ before ++ [126, 165] ++ after) ∧
    (∀ x ∈ damaged, x.2.length ≤ 255 ∧
      (240 < x.2.length ∨ (x.1 ≠ 1 ∧ x.1 ≠ 2) ∨
        (x.1 = 1 ∧ (x.2.length % 8 ≠ 0 ∨ ∃ i ∈ [0, 1], (x.2[8 * i]?).any (fun y => !decide (1 ≤ y.toNat ∧ y.toNat ≤ 6)) = true)) ∨
        x.2 = [])) ∧
    ∀ x ∈ damaged, ∀ before after, framed x.1 x.2 0 ≠ before ++ [126, 165] ++ after := by
  have h : ∀ x ∈ damaged, decide ([126#8, 165#8] <:+: framed x.1 x.2 0) = false := by decide +kernel
  refine ⟨?_, unmarked ?_, unmarked ?_, ?_, ?_, unmarked ?_, ?_, fun x hx => unmarked (h x hx)⟩ <;> decide +kernel

/-- The body of the damaged frame with a Restart in it, split around the Restart. -/
theorem witness_DamagedFramesOnlyCount_restart :
    let full := { rested with port := { rested.port with queue := List.replicate 64 (.status 0 (rested.statusRecord false)) } }
    let room := { rested with port := { rested.port with queue := List.replicate 63 (.status 0 (rested.statusRecord false)) } }
    let body := portBody 2 9 0 (portFrame 2 7 0 [26] ++ portFrame 2 8 0 [10]) ++ crcBytes 0
    restartInside = [126, 165] ++ body ∧ body = [2, 9, 0, 18] ++ portFrame 2 7 0 [26] ++ (portFrame 2 8 0 [10] ++ [0, 0]) ∧
      (0 : BitVec 16) ≠ crc16 (portBody 2 9 0 (portFrame 2 7 0 [26] ++ portFrame 2 8 0 [10])) ∧
      (∀ x y, ([2, 9, 0, 18] : List Byte) ≠ x ++ [126, 165] ++ y) ∧
      (∀ s ∈ [full, room], s.port.received = [] ∧ s.port.restart = .none ∧ s.storeBusy = false ∧
        answers (.requestFrame 7 [26]) (s.bump .frameErrors) = true) ∧
      64 ≤ full.port.queue.length ∧ room.port.queue.length < 64 ∧
      (storing (.save (saveAt .erasing))).storeBusy = true := by
  refine ⟨?_, ?_, ?_, unmarked ?_, ?_, ?_, ?_, ?_⟩ <;> decide +kernel

/-- A Request frame of a code and fields is answered with a result and its data. -/
def told (code : Byte) (fields : List Byte) (result : Result) (data : ReplyData) : Bool :=
  decide (run (.requestFrame 7 (code :: fields)) rested = rested.reply 7 code.toNat result data)

theorem witness_RequestFramesRunTheirRows :
    (Request.setCue 1 4294967295).wellFormed = true ∧ Request.timed (.setCue 1 4294967295) = true ∧
      (Request.readPage 511).wellFormed = true ∧ Request.timed (.readPage 511) = false ∧ rested.port.restart = .none ∧
      (run (.restart 9) rested).port.restart ≠ .none ∧
      ((29#8).toNat = 29 ∧ (255#8).toNat = 255 ∧ (List.replicate 239 (0#8)).length < 240 ∧
        240 < (List.replicate 241 (0#8)).length) ∧
      ((∀ code ∈ [(0 : Byte), 29, 255], ∀ n ∈ [0, 239], told code (List.replicate n 0) .unknown (.code code.toNat) = true) ∧
        (∀ x ∈ [((1 : Byte), 0), (1, 2), (12, 7), (12, 9), (14, 10), (27, 3), (28, 1), (6, 0), (6, 2), (6, 4), (6, 5), (6, 6),
            (16, 0), (16, 2), (24, 0), (24, 1), (24, 3)], told x.1 (List.replicate x.2 0) .range (.field 0) = true) ∧
        (∀ l ∈ [[(1 : Byte)]], told 6 l .range (.field 0) = true) ∧
        (∀ l ∈ [[(0 : Byte), 5, 1], [0, 5, 1, 0], [0, 5, 1, 1], [0, 5, 2, 0, 1], [0, 5, 2], [0, 5, 3, 0]],
          told 16 l .range (.field 0) = true) ∧
        (∀ l ∈ [[(4 : Byte), 0], [3, 255], [0, 1, 0, 0, 0], [255, 255]], told 24 l .range (.field 0) = true)) := by
  refine ⟨?_, ?_, ?_, ?_, ?_, ?_, ?_, ?_, ?_, ?_, ?_, ?_⟩ <;> decide +kernel

theorem witness_TheTransmitSideSendsInOrder :
    let s := run (.setMode 1 3) rested
    s.port.queue = .reply 1 1 .done .nothing :: [] ∧ s.port.restart = .none ∧ s.port.line = some 64 ∧
      s.port.timer = some 100 ∧ s.port.restart ≠ .due ∧
      ({ s with port := { s.port with queue := [], line := none } } : State).port.timer = some 100 ∧
      ({ s with port := { s.port with line := none, timer := none } } : State).port.line = none ∧
      (run (.restart 9) rested).port.queue = .reply 9 26 .done .nothing :: [] ∧
      (run (.restart 9) rested).port.restart = .replying ∧ (run (.restart 9) rested).port.line = some 64 := by decide +kernel

/-- R171, R172: an offer at 63 frames and at 64, on a line that sends and on a free one, TransmitDrops below its bound and at it. -/
theorem witness_TheTransmitSideSendsInOrder_offer :
    (∀ line ∈ [none, some 5], (holding 63 line rested).port.queue.length < 64 ∧ (holding 63 line rested).port.restart ≠ .due ∧
      64 ≤ (holding 64 line rested).port.queue.length) ∧
      (holding 64 (some 5) rested).count .transmitDrops < 65535 ∧
      ¬({ rested with port := { rested.port with counters := Vector.replicate 22 65535 } } : State).count .transmitDrops < 65535
      := by decide +kernel

/-- R179: a Reply ahead of a Restart's, while the Restart waits for its own to be sent. -/
theorem witness_TheTransmitSideSendsInOrder_ahead :
    let s := run (.restart 9) (run (.setMode 1 3) rested)
    s.port.queue = .reply 1 1 .done .nothing :: [.reply 9 26 .done .nothing] ∧ s.port.restart = .replying ∧
      s.port.line = some 64 ∧ ∀ tag data, (.reply 1 1 .done .nothing : Upstream) ≠ .reply tag 26 .done data := by
  refine ⟨?_, ?_, ?_, fun _ _ h => by cases h⟩ <;> decide +kernel

/-! ### The Strike Calculator and the laws -/

theorem witness_InterpolationStaysBetweenItsEnds : (1 : Nat) ≤ 1 ∧ (0 : Nat) ≤ 1 ∧ interp 5 9 1 0 = 5 ∧ interp 5 9 1 1 = 9 ∧
    interp 0 1 2 1 = 1 ∧ points.Pairwise (fun p q => p.input < q.input) ∧
    (∀ x ∈ [(0, 400), (0, 1199), (1, 1200), (1, 3000), (1, 9999)], ∃ a ∈ points[x.1]?, (points[x.1 + 1]?).isSome = true ∧
      a.input ≤ x.2 ∧ ∀ j ∈ [0, 1], ∃ q ∈ points[j]?, q.input ≤ x.2 → j ≤ x.1) := by
  decide

theorem witness_ComputedStrikesAreInRange :
    pageValid (.strike points scalars) = true ∧ (500 : Nat) ≤ 500 ∧ (1500 : Nat) ≤ 1500 := by decide +kernel

/-- The crowded part with a cycle start at the front of its queue. -/
def waitingStart : State := { crowded with pending := [.cycleStart []] }

theorem steps_waitingStart :
    step waitingStart = .next (run (.cycleStart []) { crowded with pending := [] }) := step_of_answers (by decide +kernel)

theorem witness_EveryStepKeepsTheClockAndModeLaws : waitingStart.clockLawful ∧ waitingStart.storeLawful := by
  unfold State.clockLawful State.storeLawful State.restLawful
  decide +kernel

theorem witness_EveryStepKeepsTableMemoryValid : waitingStart.mem.lawful := by
  unfold TableMemory.lawful
  decide +kernel

theorem witness_EveryStepKeepsTheCapacities : waitingStart.capacityLawful := by
  refine ⟨?_, ?_, ?_, ?_, ?_, fun h => absurd h ?_⟩ <;> decide +kernel

theorem witness_EveryStepKeepsTheBounds :
    waitingStart.captureLawful ∧ waitingStart.scheduleOrdered ∧ waitingStart.cacheLawful ∧ waitingStart.notesBounded ∧
      waitingStart.notesNamed ∧ waitingStart.yieldsBounded ∧ waitingStart.countersBounded := by
  refine ⟨?_, ?_, ⟨?_, ?_, fun w h => absurd (congrArg Option.isSome h) ?_⟩, ?_, crowded_named, ?_, ?_⟩
  · unfold State.captureLawful; decide +kernel
  · unfold State.scheduleOrdered; decide +kernel
  · decide +kernel
  · decide +kernel
  · have : waitingStart.voices.walk = none := by decide +kernel
    simp [this]
  · unfold State.notesBounded; decide +kernel
  · unfold State.yieldsBounded; decide +kernel
  · unfold State.countersBounded; decide +kernel

theorem witness_EveryStepKeepsTheFrameAndSaveLaws : waitingStart.frameLawful ∧ waitingStart.saveLawful := by
  have h : waitingStart.link.frameOut = none := by decide +kernel
  have g : waitingStart.store.op = .idle := by decide +kernel
  exact ⟨fun f hf => by simp [h] at hf, by simp [State.saveLawful, g]⟩

end Sys2Proof.Tests
end

section
/-! PROOFS. The four reads (R32, R50, R54, R88, R93) and the requests on the Voice Cache (R95, R102, R103): the judgement of a
request as a choice of replies, each command as its owner's operation, then what each operation answers. -/

namespace Sys2Proof.Machine

/-! ### Taking a request (R173, R179, R185) -/

/-- While no Restart has been answered, a command that is heard runs its owner's operation (R179). -/
theorem exec_of_heard {c : Instr} {s : State} (owner : State → State) (h : s.port.restart = .none)
    (hc : exec c s = .next (s.heard owner)) : exec c s = .next (owner s) := by
  rw [hc, State.heard, if_pos h]

theorem State.unlessRestoring_eq (s : State) (tag : Byte) (code : Nat) (owner : State → State) :
    s.unlessRestoring tag code owner = if s.restoring then s.reply tag code .busy .nothing else owner s := rfl

/-- A field judged by one test is refused exactly where the test fails it. -/
theorem State.judged_ite (s : State) (tag : Byte) (code place : Nat) (p : Prop) [Decidable p] (rest : Option Nat)
    (done : State → State) :
    s.judged tag code (if p then some place else rest) done =
      if p then s.reply tag code .range (.field place) else s.judged tag code rest done := by
  split <;> rfl

@[simp] theorem State.judged_none (s : State) (tag : Byte) (code : Nat) (done : State → State) :
    s.judged tag code none done = done s := rfl

@[simp] theorem State.judged_some (s : State) (tag : Byte) (code place : Nat) (done : State → State) :
    s.judged tag code (some place) done = s.reply tag code .range (.field place) := rfl

/-! ### The commands as their owners' operations -/

section
variable {s : State} (h : s.port.restart = .none) (tag : Byte)
include h

theorem exec_readRoster : exec (.readRoster tag) s = .next (s.readRoster tag) :=
  exec_of_heard (fun s => s.readRoster tag) h rfl

theorem exec_readKeySense (type number : Nat) :
    exec (.readKeySense tag type number) s = .next (s.readKeySense tag type number) :=
  exec_of_heard (fun s => s.readKeySense tag type number) h rfl

theorem exec_readDescriptor (set voice : Nat) :
    exec (.readDescriptor tag set voice) s = .next (s.readDescriptor tag set voice) :=
  exec_of_heard (fun s => s.readDescriptor tag set voice) h rfl

theorem exec_readPage (slot : Nat) : exec (.readPage tag slot) s = .next (s.readPage tag slot) :=
  exec_of_heard (fun s => s.readPage tag slot) h rfl

theorem exec_selectVoicing (set : Nat) : exec (.selectVoicing tag set) s = .next (s.selectVoicing tag set) :=
  exec_of_heard (fun s => s.selectVoicing tag set) h rfl

theorem exec_invalidateVoice (voice : Nat) :
    exec (.invalidateVoice tag voice) s = .next (s.invalidateVoice tag voice) :=
  exec_of_heard (fun s => s.invalidateVoice tag voice) h rfl

theorem exec_invalidateAll : exec (.invalidateAll tag) s = .next (s.invalidateAll tag) :=
  exec_of_heard (fun s => s.invalidateAll tag) h rfl

end

/-! ### The reads -/

theorem State.readRoster_eq (s : State) (tag : Byte) :
    s.readRoster tag = if s.restoring then s.reply tag 10 .busy .nothing else s.reply tag 10 .done s.rosterData := rfl

/-- The number of an entry is refused outside 1..top and taken within (R54). -/
theorem ite_outside_eq (number top : Nat) (failure : Option Nat) :
    (if number = 0 ∨ top < number then failure else none) = if 1 ≤ number ∧ number ≤ top then none else failure := by
  by_cases hn : 1 ≤ number ∧ number ≤ top
  · rw [if_pos hn, if_neg (by omega)]
  · rw [if_neg hn, if_pos (by omega)]

theorem senseEntryFailure_key (number : Nat) :
    senseEntryFailure 1 number = if 1 ≤ number ∧ number ≤ 97 then none else some 2 :=
  ite_outside_eq number 97 (some 2)

theorem senseEntryFailure_pedal (number : Nat) :
    senseEntryFailure 2 number = if 1 ≤ number ∧ number ≤ 3 then none else some 2 :=
  ite_outside_eq number 3 (some 2)

theorem senseEntryFailure_other {type : Nat} (h1 : type ≠ 1) (h2 : type ≠ 2) (number : Nat) :
    senseEntryFailure type number = some 1 := by
  rw [senseEntryFailure, if_neg h1, if_neg h2]

theorem State.readKeySense_eq (s : State) (tag : Byte) (type number : Nat) :
    s.readKeySense tag type number = if s.restoring then s.reply tag 13 .busy .nothing else
      if type = 1 then
        if 1 ≤ number ∧ number ≤ 97 then s.reply tag 13 .done (.keySense (s.keySense number))
        else s.reply tag 13 .range (.field 2)
      else if type = 2 then
        if 1 ≤ number ∧ number ≤ 3 then s.reply tag 13 .done (.pedalSense (s.pedalSense number))
        else s.reply tag 13 .range (.field 2)
      else s.reply tag 13 .range (.field 1) := by
  rw [State.readKeySense, State.unlessRestoring_eq]
  congr 1
  by_cases h1 : type = 1
  · subst h1
    rw [senseEntryFailure_key, if_pos rfl]
    split <;> simp
  · rw [if_neg h1]
    by_cases h2 : type = 2
    · subst h2
      rw [senseEntryFailure_pedal, if_pos rfl]
      split <;> simp
    · rw [senseEntryFailure_other h1 h2, if_neg h2, State.judged_some]

/-- The set is judged before the voice (R88; log 62). -/
theorem State.readDescriptor_eq (s : State) (tag : Byte) (set voice : Nat) :
    s.readDescriptor tag set voice = if s.restoring then s.reply tag 15 .busy .nothing else
      if 3 < set then s.reply tag 15 .range (.field 1)
      else if 127 < voice then s.reply tag 15 .range (.field 2)
      else s.reply tag 15 .done (.descriptor ((s.mem.descriptor set voice).getD clearedDescriptor)) := by
  rw [State.readDescriptor, State.unlessRestoring_eq, voiceFailure, State.judged_ite, State.judged_ite, State.judged_none]

theorem State.readPage_eq (s : State) (tag : Byte) (slot : Nat) :
    s.readPage tag slot = if s.restoring then s.reply tag 17 .busy .nothing
      else if 511 < slot then s.reply tag 17 .range (.field 1)
      else s.reply tag 17 .done (.page (s.mem.page slot)) := by
  rw [State.readPage, State.unlessRestoring_eq, State.judged_ite, State.judged_none]

/-- Settles O23: each read is the Reply its owner judges; where set and voice are both out of range the set is named. -/
theorem readsChangeNothing : Obligations.ReadsChangeNothing := by
  refine ⟨fun tag set voice type number s h => ⟨?roster, ?sense, fun _ => ?descriptor, fun hset _ => ⟨1, .inl rfl, ?both⟩⟩,
    fun tag slot s h => ?page⟩
  case roster => rw [exec_readRoster h, State.readRoster_eq, State.rosterData]
  case sense => rw [exec_readKeySense h, State.readKeySense_eq]
  case descriptor => rw [exec_readDescriptor h, State.readDescriptor_eq]
  case both => rw [exec_readDescriptor h, State.readDescriptor_eq, if_pos hset]
  case page => rw [exec_readPage h, State.readPage_eq]

/-! ### The requests on the Voice Cache -/

/-- The cache finds an entry for a voice exactly when it holds one (R97, R102). -/
theorem VoiceUnit.find_isSome (v : VoiceUnit) (voice : Nat) :
    (v.find voice).isSome = v.entries.any (fun e => e.voice == voice) := by
  rw [VoiceUnit.find, List.isSome_find?]

theorem State.selectVoicing_eq (s : State) (tag : Byte) (set : Nat) :
    s.selectVoicing tag set = if s.restoring then s.reply tag 18 .busy .nothing
      else if 3 < set then s.reply tag 18 .range (.field 1)
      else State.reply { s with voices := { activeSet := set, entries := [], walk := none } } tag 18 .done .nothing := by
  rw [State.selectVoicing, State.unlessRestoring_eq, State.judged_ite, State.judged_none, State.emptyCache]

theorem State.invalidateVoice_eq (s : State) (tag : Byte) (voice : Nat) :
    s.invalidateVoice tag voice = if s.restoring then s.reply tag 19 .busy .nothing
      else if 127 < voice then s.reply tag 19 .range (.field 1)
      else (s.dropVoice voice).reply tag 19 .done (.removed (s.voices.entries.any (fun e => e.voice == voice))) := by
  rw [State.invalidateVoice, State.unlessRestoring_eq, State.judged_ite, State.judged_none, VoiceUnit.find_isSome]

theorem State.invalidateAll_eq (s : State) (tag : Byte) :
    s.invalidateAll tag = if s.restoring then s.reply tag 20 .busy .nothing
      else s.emptyCache.reply tag 20 .done (.removedCount s.voices.entries.length) := rfl

/-- Settles O32: the requests empty the cache, drop one voice of it, or are refused, in the order BUSY, RANGE. -/
theorem cacheRequests : Obligations.CacheRequests := by
  refine ⟨fun tag set s h => ?select, fun tag voice s h => ?voice, fun tag s h => ?all⟩
  case select => rw [exec_selectVoicing h, State.selectVoicing_eq]
  case voice => rw [exec_invalidateVoice h, State.invalidateVoice_eq, State.dropVoice]
  case all => rw [exec_invalidateAll h, State.invalidateAll_eq, State.emptyCache]

end Sys2Proof.Machine
end

section
/-! PROOFS. What one event can do to the laws: the quiet changes, which add nothing that a law bounds, and their
composition. An operation is quiet where everything a law reads either stands, shrinks, or keeps the law by itself. -/

namespace Sys2Proof.Machine

/-! ### The laws of single blocks -/

/-- Each id of a note names one note of one key, read of the schedule alone (R130, R134). -/
def DriveSchedule.named (d : DriveSchedule) : Prop :=
  (∀ e ∈ d.entries, ∀ id, e.note = some id → id < d.nextNote ∧ e.ofKey e.target = true) ∧
    (∀ a ∈ d.entries, ∀ b ∈ d.entries, a.note.isSome = true → a.note = b.note → a.target = b.target) ∧
    ∀ i : Fin 97, (d.keys[i].notes.map Note.id).Nodup ∧ ∀ n ∈ d.keys[i].notes, n.id < d.nextNote

theorem State.notesNamed_iff (s : State) : s.notesNamed ↔ s.sched.named := Iff.rfl

/-- The order of R124. -/
abbrev Ordered (l : List Entry) : Prop := l.Pairwise (fun a b => b.before a = false)

/-- From `d` to `d'` no entry has been added, no note has come or changed its name, and the order stands. -/
structure DriveSchedule.Tames (d d' : DriveSchedule) : Prop where
  ordered : Ordered d.entries → Ordered d'.entries
  length : d'.entries.length ≤ d.entries.length
  origin : ∀ e ∈ d'.entries, e.note = none ∨
    ∃ x ∈ d.entries, x.kind = e.kind ∧ x.target = e.target ∧ x.note = e.note
  notes : ∀ i : Fin 97, (d'.keys[i].notes.map Note.id).Sublist (d.keys[i].notes.map Note.id)
  next : d'.nextNote = d.nextNote

theorem DriveSchedule.Tames.refl (d : DriveSchedule) : d.Tames d :=
  ⟨id, le_rfl, fun e he => .inr ⟨e, he, rfl, rfl, rfl⟩, fun _ => List.Sublist.refl _, rfl⟩

theorem DriveSchedule.Tames.trans {a b c : DriveSchedule} (h : a.Tames b) (k : b.Tames c) : a.Tames c where
  ordered o := k.ordered (h.ordered o)
  length := k.length.trans h.length
  origin e he := by
    rcases k.origin e he with hn | ⟨x, hx, hk, ht, hn⟩
    · exact .inl hn
    · rcases h.origin x hx with hxn | ⟨y, hy, hk', ht', hn'⟩
      · exact .inl (hn.symm.trans hxn)
      · exact .inr ⟨y, hy, hk'.trans hk, ht'.trans ht, hn'.trans hn⟩
  notes i := (k.notes i).trans (h.notes i)
  next := k.next.trans h.next

theorem Entry.ofKey_congr {a b : Entry} (hk : a.kind = b.kind) (ht : a.target = b.target) (k : Nat) :
    a.ofKey k = b.ofKey k := by
  simp only [Entry.ofKey, Entry.strikes, Entry.offOf, hk, ht]

theorem DriveSchedule.Tames.named {d d' : DriveSchedule} (h : d.Tames d') (n : d.named) : d'.named := by
  obtain ⟨below, one, keys⟩ := n
  refine ⟨fun e he id hid => ?_, fun a ha b hb hs hab => ?_, fun i => ⟨(keys i).1.sublist (h.notes i), fun m hm => ?_⟩⟩
  · rcases h.origin e he with hn | ⟨x, hx, hk, ht, hn⟩
    · rw [hn] at hid; cases hid
    · obtain ⟨lt, of⟩ := below x hx id (hn.trans hid)
      exact ⟨h.next ▸ lt, by rw [← Entry.ofKey_congr hk ht, ← ht]; exact of⟩
  · rcases h.origin a ha with hn | ⟨x, hx, -, hxt, hxn⟩
    · rw [hn] at hs; cases hs
    rcases h.origin b hb with hn | ⟨y, hy, -, hyt, hyn⟩
    · rw [hab, hn] at hs; cases hs
    exact hxt.symm.trans ((one x hx y hy (hxn ▸ hs) (hxn.trans (hab.trans hyn.symm))).trans hyt)
  · have hid : m.id ∈ d.keys[i].notes.map Note.id := (h.notes i).subset (List.mem_map_of_mem hm)
    obtain ⟨n, hn, e⟩ := List.mem_map.1 hid
    rw [h.next, ← e]; exact (keys i).2 n hn

/-- No Note List grows (R125). -/
theorem DriveSchedule.Tames.notesLength {d d' : DriveSchedule} (h : d.Tames d') (i : Fin 97) :
    d'.keys[i].notes.length ≤ d.keys[i].notes.length := by
  simpa using (h.notes i).length_le

/-- What the laws read of the Time Base. -/
def TimeBase.sameClock (t u : TimeBase) : Prop :=
  u.linkCycle = t.linkCycle ∧ u.tick = t.tick ∧ u.takeBase = t.takeBase ∧ u.transport = t.transport ∧
    u.pauseStart = t.pauseStart ∧ u.mode = t.mode

theorem TimeBase.sameClock.trans {a b c : TimeBase} (h : a.sameClock b) (k : b.sameClock c) : a.sameClock c := by
  obtain ⟨h1, h2, h3, h4, h5, h6⟩ := h
  obtain ⟨k1, k2, k3, k4, k5, k6⟩ := k
  exact ⟨k1.trans h1, k2.trans h2, k3.trans h3, k4.trans h4, k5.trans h5, k6.trans h6⟩

/-! ### Quiet changes -/

/-- From `s` to `t` nothing has changed that could break a law: the clock and the operation in flight stand, nothing has been
added to the intake, the schedule, the windows, the jobs or the walk, and each law of one block is kept. -/
structure Quiet (s t : State) : Prop where
  clock : s.time.sameClock t.time
  frame : t.link.frameOut = s.link.frameOut
  capture : s.captureLawful → t.captureLawful
  mem : s.mem.lawful → t.mem.lawful
  cache : s.cacheLawful → t.cacheLawful
  walk : t.voices.walk.isSome = true → s.voices.walk.isSome = true ∧ t.intake = s.intake
  intake : t.intake.length ≤ s.intake.length
  sched : s.sched.Tames t.sched
  windows : s.duplex.windows = Vector.replicate 97 none → t.duplex.windows = Vector.replicate 97 none
  yields : s.yieldsBounded → t.yieldsBounded
  current : t.calib.current.isSome = true → s.calib.current.isSome = true
  jobs : t.calib.queue.length ≤ s.calib.queue.length
  counters : s.countersBounded → t.countersBounded
  profile : t.port.profile = s.port.profile
  op : t.store.op = s.store.op

theorem Quiet.refl (s : State) : Quiet s s :=
  ⟨⟨rfl, rfl, rfl, rfl, rfl, rfl⟩, rfl, id, id, id, fun h => ⟨h, rfl⟩, le_rfl, .refl _, id, id, id, le_rfl, id, rfl, rfl⟩

theorem Quiet.trans {s t u : State} (h : Quiet s t) (k : Quiet t u) : Quiet s u where
  clock := h.clock.trans k.clock
  frame := k.frame.trans h.frame
  capture x := k.capture (h.capture x)
  mem x := k.mem (h.mem x)
  cache x := k.cache (h.cache x)
  walk x := by
    obtain ⟨hw, hi⟩ := k.walk x
    exact ⟨(h.walk hw).1, hi.trans (h.walk hw).2⟩
  intake := k.intake.trans h.intake
  sched := h.sched.trans k.sched
  windows x := k.windows (h.windows x)
  yields x := k.yields (h.yields x)
  current x := h.current (k.current x)
  jobs := k.jobs.trans h.jobs
  counters x := k.counters (h.counters x)
  profile := k.profile.trans h.profile
  op := k.op.trans h.op

theorem Quiet.foldl {α : Type} {f : State → α → State} (h : ∀ s a, Quiet s (f s a)) (l : List α) (s : State) :
    Quiet s (l.foldl f s) := by
  induction l generalizing s with
  | nil => exact .refl s
  | cons a l ih => exact (h s a).trans (ih (f s a))

theorem Quiet.ite {s t u : State} {p : Prop} [Decidable p] (h : p → Quiet s t) (k : ¬p → Quiet s u) :
    Quiet s (if p then t else u) := by
  split
  · exact h ‹_›
  · exact k ‹_›

/-! ### Quiet changes of one block -/

section
variable {s t : State}

theorem Quiet.on_time {x : TimeBase} (h : Quiet s t) (hx : t.time.sameClock x) : Quiet s { t with time := x } :=
  h.trans { Quiet.refl t with clock := hx }

theorem Quiet.on_link {x : ActionLink} (h : Quiet s t) (hx : x.frameOut = t.link.frameOut) :
    Quiet s { t with link := x } := h.trans { Quiet.refl t with frame := hx }

theorem Quiet.on_tracker {x : CaptureTracker} (h : Quiet s t) : Quiet s { t with tracker := x } :=
  h.trans { Quiet.refl t with }

theorem Quiet.on_capture {x : CaptureQueue} (h : Quiet s t)
    (hx : t.captureLawful → State.captureLawful { t with capture := x }) : Quiet s { t with capture := x } :=
  h.trans { Quiet.refl t with capture := hx }

theorem Quiet.on_mem {x : TableMemory} (h : Quiet s t) (hx : t.mem.lawful → x.lawful) : Quiet s { t with mem := x } :=
  h.trans { Quiet.refl t with mem := hx }

theorem Quiet.on_voices {x : VoiceUnit} (h : Quiet s t)
    (hc : t.cacheLawful → State.cacheLawful { t with voices := x })
    (hw : x.walk.isSome = true → t.voices.walk.isSome = true) : Quiet s { t with voices := x } :=
  h.trans { Quiet.refl t with cache := hc, walk := fun y => ⟨hw y, rfl⟩ }

theorem Quiet.on_sched {x : DriveSchedule} (h : Quiet s t) (hx : t.sched.Tames x) : Quiet s { t with sched := x } :=
  h.trans { Quiet.refl t with sched := hx }

theorem Quiet.on_windows {x : Vector (Option Window) 97} (h : Quiet s t)
    (hw : t.duplex.windows = Vector.replicate 97 none → x = Vector.replicate 97 none) :
    Quiet s { t with duplex := { t.duplex with windows := x } } := h.trans { Quiet.refl t with windows := hw }

theorem Quiet.on_yields {x : Vector YieldRecord 97} (h : Quiet s t)
    (hy : t.yieldsBounded → State.yieldsBounded { t with duplex := { t.duplex with yields := x } }) :
    Quiet s { t with duplex := { t.duplex with yields := x } } := h.trans { Quiet.refl t with yields := hy }

theorem Quiet.on_calib {x : Sequencer} (h : Quiet s t) (hc : x.current.isSome = true → t.calib.current.isSome = true)
    (hj : x.queue.length ≤ t.calib.queue.length) : Quiet s { t with calib := x } :=
  h.trans { Quiet.refl t with current := hc, jobs := hj }

theorem Quiet.on_port {x : ScorePort} (h : Quiet s t)
    (hc : t.countersBounded → State.countersBounded { t with port := x }) (hp : x.profile = t.port.profile) :
    Quiet s { t with port := x } := h.trans { Quiet.refl t with counters := hc, profile := hp }

theorem Quiet.on_blocks {x : Vector StoreBlock 37} (h : Quiet s t) :
    Quiet s { t with store := { t.store with blocks := x } } := h.trans { Quiet.refl t with }

end

/-! ### A state in the blocks it keeps -/

/-- What an operation leaves, written as the blocks it may change over those it keeps. -/
theorem Touches.eq {b : Blocks} {s t : State} (h : Touches b s t) :
    t = { time := bif b.time then t.time else s.time, link := bif b.link then t.link else s.link,
          tracker := bif b.tracker then t.tracker else s.tracker, capture := bif b.capture then t.capture else s.capture,
          mem := bif b.mem then t.mem else s.mem, voices := bif b.voices then t.voices else s.voices,
          intake := bif b.intake then t.intake else s.intake, sched := bif b.sched then t.sched else s.sched,
          duplex := bif b.duplex then t.duplex else s.duplex, calib := bif b.calib then t.calib else s.calib,
          port := bif b.port then t.port else s.port, store := bif b.store then t.store else s.store,
          pending := bif b.pending then t.pending else s.pending } := by
  obtain ⟨h1, h2, h3, h4, h5, h6, h7, h8, h9, h10, h11, h12, h13⟩ := h
  have pick : ∀ {α : Type} (c : Bool) (x y : α), (c = false → x = y) → x = bif c then x else y := by
    intro α c x y hc; cases c
    · exact hc rfl
    · rfl
  cases s; cases t
  simp only [State.mk.injEq]
  exact ⟨pick _ _ _ h1, pick _ _ _ h2, pick _ _ _ h3, pick _ _ _ h4, pick _ _ _ h5, pick _ _ _ h6, pick _ _ _ h7,
    pick _ _ _ h8, pick _ _ _ h9, pick _ _ _ h10, pick _ _ _ h11, pick _ _ _ h12, pick _ _ _ h13⟩

theorem Touches.eq_sched {s t : State} (h : Touches { sched := true } s t) : t = { s with sched := t.sched } := h.eq
theorem Touches.eq_port {s t : State} (h : Touches { port := true } s t) : t = { s with port := t.port } := h.eq
theorem Touches.eq_capture {s t : State} (h : Touches { capture := true } s t) : t = { s with capture := t.capture } := h.eq

theorem Quiet.of_sched {s t : State} (h : Touches { sched := true } s t) (k : s.sched.Tames t.sched) : Quiet s t := by
  rw [h.eq_sched]; exact (Quiet.refl s).on_sched k

theorem Quiet.of_port {s t : State} (h : Touches { port := true } s t) (hc : s.countersBounded → t.countersBounded)
    (hp : t.port.profile = s.port.profile) : Quiet s t := by
  rw [h.eq_port]; exact (Quiet.refl s).on_port hc hp

end Sys2Proof.Machine
end

section
/-! PROOFS. The quiet operations of the counters, the transmit side, the Drive Schedule, Table Memory and the cache. -/

namespace Sys2Proof.Machine

/-! ### Counters and the transmit side -/

theorem State.countersBounded_bump {s : State} (h : s.countersBounded) (c : Counter) : (s.bump c).countersBounded := by
  intro i
  have hc : s.count c ≤ 65535 := by
    have := h ⟨c.index, c.index_lt⟩
    simpa [State.count, c.index_lt] using this
  simp only [State.bump_port_counters, Fin.getElem_fin, Vector.getElem_setIfInBounds]
  split
  · exact countUp_le _ hc
  · exact h i

theorem State.bump_quiet (s : State) (c : Counter) : Quiet s (s.bump c) :=
  .of_port (s.bump_touches c) (fun h => s.countersBounded_bump h c) rfl

theorem State.bumpIf_quiet (s : State) (b : Bool) (c : Counter) : Quiet s (s.bumpIf b c) := by
  cases b
  · exact .refl s
  · exact s.bump_quiet c

theorem State.bumpTimes_quiet (s : State) (c : Counter) (n : Nat) : Quiet s (s.bumpTimes c n) := by
  induction n generalizing s with
  | zero => exact .refl s
  | succ n ih => exact (s.bump_quiet c).trans (ih _)

theorem State.beginSending_quiet (s : State) : Quiet s s.beginSending :=
  .of_port s.beginSending_touches (by simp only [State.countersBounded, State.beginSending_counters]; exact id)
    s.beginSending_profile

theorem State.hand_quiet (s : State) (f : Upstream) : Quiet s (s.hand f) :=
  ((Quiet.refl s).on_port (x := { s.port with queue := s.port.queue ++ [f] }) id rfl).trans (State.beginSending_quiet _)

theorem State.offer_quiet (s : State) (f : Upstream) : Quiet s (s.offer f) := by
  rcases s.offer_cases f with ⟨-, h⟩ | ⟨-, h⟩ <;> rw [h]
  · exact s.hand_quiet f
  · exact s.bump_quiet _

theorem State.reply_quiet (s : State) (tag : Byte) (request : Nat) (result : Result) (data : ReplyData) :
    Quiet s (s.reply tag request result data) := s.offer_quiet _

theorem State.report_quiet (s : State) (r : Report) : Quiet s (s.report r) := s.offer_quiet _

theorem State.startTimer_quiet (s : State) : Quiet s s.startTimer := (Quiet.refl s).on_port id rfl

theorem State.setReceived_quiet (s : State) (l : List Byte) : Quiet s (s.setReceived l) := (Quiet.refl s).on_port id rfl

/-! ### Tame changes of the schedule -/

theorem getElem_setNth {α : Type} {n : Nat} (v : Vector α n) (k : Nat) (a : α) (i : Fin n) :
    (setNth v k a)[i] = if k = i.val + 1 then a else v[i] := by
  unfold setNth
  by_cases hk : k = 0
  · subst hk; simp
  · have e : k - 1 = i.val ↔ k = i.val + 1 := by omega
    simp only [hk, if_false, Fin.getElem_fin, Vector.getElem_setIfInBounds, e]

theorem nth_succ {α : Type} {n : Nat} (v : Vector α n) (i : Fin n) (d : α) : nth v (i.val + 1) d = v[i] := by
  simp [nth]

namespace DriveSchedule

theorem Tames.setKey (d : DriveSchedule) (k : Nat) (x : KeyDrive)
    (h : (x.notes.map Note.id).Sublist ((nth d.keys k KeyDrive.initial).notes.map Note.id)) :
    d.Tames { d with keys := setNth d.keys k x } :=
  { Tames.refl d with
    notes := fun i => by
      rw [getElem_setNth]
      split
      · next e => rw [e, nth_succ] at h; exact h
      · exact List.Sublist.refl _ }

theorem Tames.mapKeys (d : DriveSchedule) (f : KeyDrive → KeyDrive)
    (h : ∀ x, (f x).notes.map Note.id = x.notes.map Note.id) : d.Tames { d with keys := d.keys.map f } :=
  { Tames.refl d with notes := fun i => by simp [h] }

theorem Tames.pedals (d : DriveSchedule) (x : Vector PedalDrive 3) : d.Tames { d with pedals := x } :=
  { Tames.refl d with }

theorem Tames.sublist (d : DriveSchedule) {es : List Entry} (h : es.Sublist d.entries) :
    d.Tames { d with entries := es } :=
  { Tames.refl d with
    ordered := fun o => o.sublist h
    length := h.length_le
    origin := fun e he => .inr ⟨e, h.subset he, rfl, rfl, rfl⟩ }

/-- Entries changed in place, their order and their notes kept. -/
theorem Tames.map (d : DriveSchedule) (f : Entry → Entry) (order : ∀ a b, (f a).before (f b) = a.before b)
    (same : ∀ e, (f e).kind = e.kind ∧ (f e).target = e.target ∧ ((f e).note = none ∨ (f e).note = e.note)) :
    d.Tames { d with entries := d.entries.map f } :=
  { Tames.refl d with
    ordered := fun o => by
      show Ordered (d.entries.map f)
      rw [Ordered, List.pairwise_map]
      simpa only [order] using o
    length := by simp
    origin := fun e he => by
      obtain ⟨x, hx, rfl⟩ := List.mem_map.1 he
      obtain ⟨hk, ht, hn | hn⟩ := same x
      · exact .inl hn
      · exact .inr ⟨x, hx, hk.symm, ht.symm, hn.symm⟩ }

/-- Some entries taken out and reinserted by R124, changed in tick and level alone. -/
theorem Tames.reinsert (d : DriveSchedule) (p : Entry → Bool) (f : Entry → Entry)
    (same : ∀ e, (f e).kind = e.kind ∧ (f e).target = e.target ∧ (f e).note = e.note) :
    d.Tames { d with entries := insertEntries ((d.entries.filter p).map f) (d.entries.filter (fun e => !p e)) } :=
  { Tames.refl d with
    ordered := fun o => ordered_insertEntries (o.sublist List.filter_sublist)
    length := by
      have := List.length_eq_length_filter_add (l := d.entries) p
      simp only [length_insertEntries, List.length_map]; omega
    origin := fun e he => by
      rcases mem_insertEntries.1 he with he | he
      · obtain ⟨x, hx, rfl⟩ := List.mem_map.1 he
        obtain ⟨hk, ht, hn⟩ := same x
        exact .inr ⟨x, (List.mem_filter.1 hx).1, hk.symm, ht.symm, hn.symm⟩
      · exact .inr ⟨e, (List.mem_filter.1 he).1, rfl, rfl, rfl⟩ }

end DriveSchedule

/-! ### The Drive Schedule's operations -/

/-- A key's record replaced, its notes a part of those it had. -/
theorem State.setDrive_quiet (s : State) (k : Nat) (d : KeyDrive)
    (h : (d.notes.map Note.id).Sublist ((s.driveOf k).notes.map Note.id)) : Quiet s (s.setDrive k d) :=
  .of_sched (s.setDrive_touches k d) (.setKey s.sched k d h)

/-- A key's record replaced, its notes kept. -/
theorem State.setDrive_quiet_of_notes (s : State) (k : Nat) (d : KeyDrive) (h : d.notes = (s.driveOf k).notes) :
    Quiet s (s.setDrive k d) := s.setDrive_quiet k d (h ▸ List.Sublist.refl _)

theorem State.setEntries_quiet (s : State) {es : List Entry} (h : es.Sublist s.sched.entries) :
    Quiet s (s.setEntries es) := .of_sched (s.setEntries_touches es) (.sublist s.sched h)

theorem State.setPedalDrive_quiet (s : State) (q : Nat) (d : PedalDrive) : Quiet s (s.setPedalDrive q d) :=
  .of_sched (s.setPedalDrive_touches q d) (.pedals s.sched _)

theorem State.redecide_quiet (s : State) (k : Nat) : Quiet s (s.redecide k) := s.setDrive_quiet_of_notes k _ rfl

theorem State.mapNotes_quiet (s : State) (k : Nat) (f : Note → Note) (h : ∀ n, (f n).id = n.id) :
    Quiet s (s.mapNotes k f) :=
  s.setDrive_quiet k _ (by rw [List.map_map]; exact (List.map_congr_left (fun n _ => h n)).symm ▸ List.Sublist.refl _)

theorem State.modNote_quiet (s : State) (k id : Nat) (f : Note → Note) (h : ∀ n, (f n).id = n.id) :
    Quiet s (s.modNote k id f) := s.mapNotes_quiet k _ (fun n => by split <;> simp [h])

theorem State.noteLater_quiet (s : State) (d : Nat) (e : Entry) : Quiet s (s.noteLater d e) := by
  unfold State.noteLater
  split
  · exact .refl s
  · split
    · exact s.modNote_quiet _ _ _ (fun _ => rfl)
    · exact s.modNote_quiet _ _ _ (fun _ => rfl)
    · exact s.modNote_quiet _ _ _ (fun _ => rfl)
    · exact .refl s
    · exact .refl s
    · exact .refl s

theorem State.moveEntries_quiet (s : State) (by' : Entry → Nat) : Quiet s (s.moveEntries by') := by
  have stay : (fun e => by' e == 0) = fun e => !(by' e != 0) := by funext e; simp [bne]
  unfold State.moveEntries
  refine Quiet.trans ?_ (Quiet.foldl (fun s e => s.noteLater_quiet (by' e) e) _ _)
  rw [stay]
  exact .of_sched (s.setEntries_touches _) (.reinsert s.sched _ _ (fun _ => ⟨rfl, rfl, rfl⟩))

theorem State.askOff_quiet (s : State) (k : Nat) : Quiet s (s.askOff k) := by
  rcases s.askOff_cases k with ⟨-, h⟩ | ⟨-, h⟩ <;> rw [h]
  · exact .refl s
  · exact s.setDrive_quiet_of_notes k _ rfl

theorem State.moveOff_quiet (s : State) (k id tick : Nat) (origin : OffOrigin) : Quiet s (s.moveOff k id tick origin) := by
  unfold State.moveOff
  refine Quiet.trans ?_ (State.modNote_quiet _ _ _ _ (fun _ => rfl))
  exact .of_sched (s.setEntries_touches _) (.reinsert s.sched _ _ (fun _ => ⟨rfl, rfl, rfl⟩))

theorem State.spaceNote_quiet (s : State) (k onset rearm : Nat) : Quiet s (s.spaceNote k onset rearm).1 := by
  rcases s.spaceNote_cases k onset rearm with ⟨p, floor, -, -, ⟨-, h⟩ | ⟨-, -, h⟩ | ⟨-, -, h⟩⟩ |
    ⟨-, ⟨base, -, -, h⟩ | ⟨-, h⟩⟩ <;> rw [h]
  · exact (s.moveOff_quiet ..).trans (State.bump_quiet _ _)
  · exact s.moveOff_quiet ..
  · exact .refl s
  · exact s.bump_quiet _
  · exact .refl s

theorem State.countComputation_quiet (s : State) (c : Computation) : Quiet s (s.countComputation c) :=
  ((((s.bumpIf_quiet _ _).trans (State.bumpIf_quiet _ _ _)).trans (State.bumpIf_quiet _ _ _)).trans
    (State.bumpIf_quiet _ _ _)).trans (State.bumpIf_quiet _ _ _)

theorem State.admitRelease_quiet (s : State) (r : EventRecord) (k : Nat) : Quiet s (s.admitRelease r k) := by
  unfold State.admitRelease
  split
  · exact s.bump_quiet _
  · next n _ =>
    have owed := s.modNote_quiet k n.id (fun n => { n with owed := false }) (fun _ => rfl)
    simp only
    split
    · exact owed
    · split
      · exact owed
      · split
        · exact owed.trans (State.moveOff_quiet ..)
        · exact owed

theorem State.pauseKey_quiet (s : State) (k : Nat) : Quiet s (s.pauseKey k) :=
  (((s.setEntries_quiet (pauseRemoves_sublist _ _ _ _ _)).trans
    (State.mapNotes_quiet _ _ _ (fun n => by split <;> rfl))).trans (State.askOff_quiet _ _)).trans
    (State.redecide_quiet _ _)

theorem State.pauseSchedule_quiet (s : State) : Quiet s s.pauseSchedule := Quiet.foldl State.pauseKey_quiet _ _

theorem Note.resumed_id (delta : Nat) (n : Note) : (Note.resumed delta n).id = n.id := by
  unfold Note.resumed; split <;> rfl

theorem State.resumeSchedule_quiet (s : State) (delta : Nat) : Quiet s (s.resumeSchedule delta) :=
  .of_sched (s.resumeSchedule_touches delta)
    ((DriveSchedule.Tames.map s.sched (Entry.later delta) (Entry.before_later delta)
        (fun _ => ⟨rfl, rfl, .inr rfl⟩)).trans
      (.mapKeys _ _ (fun d => by simp [List.map_map, Function.comp_def, Note.resumed_id])))

theorem State.stopKey_quiet (s : State) (k : Nat) : Quiet s (s.stopKey k) :=
  ((s.askOff_quiet k).trans (State.setDrive_quiet _ _ _ (by simp))).trans (State.redecide_quiet _ _)

theorem State.stopSchedule_quiet (s : State) : Quiet s s.stopSchedule :=
  ((s.setEntries_quiet (List.nil_sublist _)).trans (Quiet.foldl State.stopKey_quiet allKeys _)).on_sched (.pedals _ _)

theorem State.startSchedule_quiet (s : State) : Quiet s s.startSchedule := (Quiet.refl s).on_sched (.pedals _ _)

theorem State.linkSilence_quiet (s : State) : Quiet s s.linkSilence :=
  (Quiet.refl s).on_sched
    ((DriveSchedule.Tames.mapKeys s.sched (fun d => { d with immediateOff := false }) (fun _ => rfl)).trans (.pedals _ _))

theorem State.withdraw_quiet (s : State) (k : Nat) : Quiet s (s.withdraw k) :=
  (((s.setEntries_quiet List.filter_sublist).trans (State.askOff_quiet _ k)).trans
    (State.setDrive_quiet _ k _ (by simp))).trans (State.redecide_quiet _ k)

theorem State.unavailKey_quiet (s : State) (k : Nat) : Quiet s (s.unavailKey k) := by
  unfold State.unavailKey
  simp only
  refine Quiet.trans (Quiet.trans (Quiet.trans ?entries (State.setDrive_quiet _ k _ ?notes)) (State.askOff_quiet _ k))
    (State.redecide_quiet _ k)
  case entries =>
    refine .of_sched (s.setEntries_touches _) ((DriveSchedule.Tames.sublist s.sched
      (List.filter_sublist (p := fun e => !e.strikes k))).trans (.map _ _ (fun a b => ?_) (fun e => ?_)))
    · split <;> split <;> rfl
    · split
      · exact ⟨rfl, rfl, .inl rfl⟩
      · exact ⟨rfl, rfl, .inr rfl⟩
  case notes => exact List.filter_sublist.map _

theorem State.unavailable_quiet (s : State) (e : RosterEntry) : Quiet s (s.unavailable e) :=
  (Quiet.foldl State.unavailKey_quiet e.keys s).trans (State.setEntries_quiet _ List.filter_sublist)

theorem State.lowerLevels_quiet (s : State) (e : RosterEntry) : Quiet s (s.lowerLevels e) := by
  unfold State.lowerLevels
  refine Quiet.trans (.of_sched (s.setEntries_touches _) (.map s.sched _ (fun a b => ?_) (fun x => ?_)))
    (State.bumpTimes_quiet _ _ _)
  · split <;> split <;> rfl
  · split <;> exact ⟨rfl, rfl, .inr rfl⟩

/-! ### Table Memory and the cache -/

/-- What Table Memory's law says of a descriptor (R87). -/
theorem TableMemory.lawful.descriptor {m : TableMemory} (h : m.lawful) {set voice : Nat} {d : VoiceDescriptor}
    (hd : m.descriptor set voice = some d) : descriptorValid d = true := by
  unfold TableMemory.descriptor at hd
  split at hd
  · cases hd
  · next v hv =>
    obtain ⟨hs, rfl⟩ := Vector.getElem?_eq_some_iff.1 hv
    obtain ⟨hj, rfl⟩ := Vector.getElem?_eq_some_iff.1 hd
    exact h.1 ⟨set, hs⟩ ⟨voice, hj⟩

theorem TableMemory.lawful.setDescriptor {m : TableMemory} (h : m.lawful) (set voice : Nat) {d : VoiceDescriptor}
    (hd : descriptorValid d = true) : (m.setDescriptor set voice d).lawful := by
  obtain ⟨sets, pages, keys, pedals⟩ := h
  unfold TableMemory.setDescriptor
  split
  · exact ⟨sets, pages, keys, pedals⟩
  · next v hv =>
    obtain ⟨hs, rfl⟩ := Vector.getElem?_eq_some_iff.1 hv
    refine ⟨fun i j => ?_, pages, keys, pedals⟩
    simp only [Fin.getElem_fin, Vector.getElem_setIfInBounds]
    split
    · next e =>
      simp only [Vector.getElem_setIfInBounds]
      split
      · exact hd
      · exact sets ⟨set, hs⟩ j
    · exact sets i j

theorem TableMemory.lawful.setPage {m : TableMemory} (h : m.lawful) (slot : Nat) {p : Option Page}
    (hp : p.all pageValid = true) : (m.setPage slot p).lawful := by
  obtain ⟨sets, pages, keys, pedals⟩ := h
  unfold TableMemory.setPage
  split
  · exact ⟨sets, pages, keys, pedals⟩
  · next b hb =>
    obtain ⟨hs, rfl⟩ := Vector.getElem?_eq_some_iff.1 hb
    refine ⟨sets, fun i j => ?_, keys, pedals⟩
    simp only [Fin.getElem_fin, Vector.getElem_setIfInBounds]
    split
    · next e =>
      simp only [Vector.getElem_setIfInBounds]
      split
      · exact hp
      · exact pages ⟨slot / 16, hs⟩ j
    · exact pages i j

theorem State.modDescriptor_quiet (s : State) (set voice : Nat) (f : VoiceDescriptor → VoiceDescriptor)
    (hf : ∀ d, descriptorValid d = true → descriptorValid (f d) = true) : Quiet s (s.modDescriptor set voice f) := by
  unfold State.modDescriptor
  split
  · exact .refl s
  · next d hd => exact (Quiet.refl s).on_mem (fun h => h.setDescriptor set voice (hf d (h.descriptor hd)))

theorem State.markPlayed_quiet (s : State) (via : Option Via) : Quiet s (s.markPlayed via) := by
  cases via with
  | none => exact .refl s
  | some v => exact s.modDescriptor_quiet _ _ _ (fun _ h => h)

/-- A trim within R87's range keeps a descriptor valid. -/
theorem descriptorValid_trim {d : VoiceDescriptor} {trim : Nat} (h : descriptorValid d = true) (low : 500 ≤ trim)
    (high : trim ≤ 1500) : descriptorValid { d with trim := trim } = true := by
  simp only [descriptorValid, Bool.and_eq_true, decide_eq_true_eq] at *
  exact ⟨⟨h.1.1, low⟩, high⟩

theorem newTrim_bounds (trim : Nat) (step : Int) : 500 ≤ newTrim trim step ∧ newTrim trim step ≤ 1500 := by
  unfold newTrim clampInt; split
  · decide
  · split
    · decide
    · omega

theorem State.cacheLawful_map {s : State} (h : s.cacheLawful) (f : CacheEntry → CacheEntry)
    (g : Option Walk → Option Walk) (hf : ∀ e, (f e).voice = e.voice)
    (hg : ∀ w, g s.voices.walk = some w → ∃ w', s.voices.walk = some w' ∧ w'.voice = w.voice) :
    State.cacheLawful { s with voices := { s.voices with entries := s.voices.entries.map f, walk := g s.voices.walk } } := by
  obtain ⟨size, apart, walk⟩ := h
  refine ⟨by simpa using size, ?_, fun w hw e he => ?_⟩
  · show (s.voices.entries.map f).Pairwise _
    rw [List.pairwise_map]; simpa only [hf] using apart
  · obtain ⟨w', hw', hv⟩ := hg w hw
    obtain ⟨x, hx, rfl⟩ := List.mem_map.1 he
    rw [hf, ← hv]; exact walk w' hw' x hx

/-- Entries removed, and the walk kept or given up. -/
theorem State.cacheLawful_sublist {s : State} (h : s.cacheLawful) {v : VoiceUnit}
    (he : v.entries.Sublist s.voices.entries) (hw : v.walk = none ∨ v.walk = s.voices.walk) :
    State.cacheLawful { s with voices := v } := by
  obtain ⟨size, apart, walk⟩ := h
  refine ⟨he.length_le.trans size, apart.sublist he, fun w e x hx => ?_⟩
  rcases hw with hn | hs
  · rw [show v.walk = some w from e] at hn; cases hn
  · exact walk w (hs.symm.trans e) x (he.subset hx)

theorem State.writeTrim_quiet (s : State) (v : Via) (trim : Nat) (low : 500 ≤ trim) (high : trim ≤ 1500) :
    Quiet s (s.writeTrim v trim) := by
  unfold State.writeTrim
  refine (s.modDescriptor_quiet v.set v.voice _ (fun d h => descriptorValid_trim h low high)).on_voices (fun h => ?_)
    (fun h => ?_)
  · exact State.cacheLawful_map h (fun e => if e.voice = v.voice ∧ e.set = v.set then { e with trim := trim } else e)
      (fun w => w.map (fun w => if w.voice = v.voice ∧ w.set = v.set then
        { w with descriptor := w.descriptor.map (fun d => { d with trim := trim }) } else w))
      (fun e => by split <;> rfl)
      (fun w hw => by
        obtain ⟨w', hw', e⟩ := Option.map_eq_some_iff.1 hw
        exact ⟨w', hw', by rw [← e]; split <;> rfl⟩)
  · simpa using h

theorem State.commitPage_quiet (s : State) (slot : Nat) (p : Page) (h : pageValid p = true) :
    Quiet s (s.commitPage slot p) :=
  ((Quiet.refl s).on_mem (fun m => m.setPage slot (p := some p) h)).on_voices
    (fun c => State.cacheLawful_sublist c List.filter_sublist (.inr rfl)) id

theorem State.cancelWalk_quiet (s : State) : Quiet s s.cancelWalk :=
  (Quiet.refl s).on_voices (fun h => State.cacheLawful_sublist h (List.Sublist.refl _) (.inl rfl)) (by simp)

/-- The intake cut short where no walk is in flight. -/
theorem Quiet.on_intake {s t : State} {x : List EventRecord} (h : Quiet s t) (hw : t.voices.walk = none)
    (hl : x.length ≤ t.intake.length) : Quiet s { t with intake := x } :=
  h.trans { Quiet.refl t with
    walk := fun y => absurd (show t.voices.walk.isSome = true from y) (by simp [hw])
    intake := hl }

theorem State.walkAbsent_quiet (s : State) : Quiet s s.walkAbsent :=
  (s.cancelWalk_quiet.on_intake rfl (by simp [State.cancelWalk])).trans (State.bump_quiet _ _)

theorem State.emptyIntake_quiet (s : State) : Quiet s s.emptyIntake := s.cancelWalk_quiet.on_intake rfl (Nat.zero_le _)

theorem State.emptyCache_quiet (s : State) : Quiet s s.emptyCache :=
  (Quiet.refl s).on_voices (fun h => State.cacheLawful_sublist h (List.nil_sublist _) (.inl rfl)) (by simp)

/-- A walk replaced by one of the same voice. -/
theorem State.setWalk_quiet (s : State) {w w' : Walk} (h : s.voices.walk = some w) (hv : w'.voice = w.voice) :
    Quiet s { s with voices := { s.voices with walk := some w' } } :=
  (Quiet.refl s).on_voices
    (fun c => State.cacheLawful_map c id (fun _ => some w') (fun _ => rfl) (fun x hx => ⟨w, h, by cases hx; exact hv.symm⟩)
      |> fun r => by simpa using r)
    (by simp [h])

theorem State.walkRead_quiet (s : State) : Quiet s s.walkRead := by
  rcases s.walkRead_cases with h | ⟨w, hw, ⟨-, d, -, ⟨-, h⟩ | ⟨-, h⟩⟩ | ⟨d, -, -, h⟩⟩ <;> rw [h]
  · exact .refl s
  · exact s.walkAbsent_quiet
  · exact s.setWalk_quiet hw rfl
  · exact s.setWalk_quiet hw rfl

/-- A hit keeps the cache's law: the entry found moves to the front (R96, R97). -/
theorem State.touch_quiet (s : State) {e : CacheEntry} {voice : Nat} (h : s.voices.find voice = some e) :
    Quiet s (s.touch e) := by
  have mem : e ∈ s.voices.entries := List.mem_of_find?_eq_some h
  refine (Quiet.refl s).on_voices (fun c => ?_) id
  obtain ⟨size, apart, walk⟩ := c
  refine ⟨?_, List.pairwise_cons.2 ⟨fun x hx => ?_, apart.sublist List.filter_sublist⟩, fun w hw x hx => ?_⟩
  · have := List.length_filter_lt_length_iff_exists (p := fun x => x.voice != e.voice).2 ⟨e, mem, by simp⟩
    show (e :: _).length ≤ 16
    simp only [List.length_cons]; omega
  · exact (bne_iff_ne.1 (List.mem_filter.1 hx).2).symm
  · rcases List.mem_cons.1 hx with rfl | hx
    · exact walk w hw _ mem
    · exact walk w hw x (List.mem_filter.1 hx).1

theorem State.dropVoice_quiet (s : State) (voice : Nat) : Quiet s (s.dropVoice voice) := by
  refine (Quiet.refl s).on_voices (fun h => State.cacheLawful_sublist h List.filter_sublist ?_) ?_
  · cases hw : s.voices.walk with
    | none => simp
    | some w => by_cases hv : w.voice = voice <;> simp [Option.filter, hv]
  · cases hw : s.voices.walk with
    | none => simp
    | some w => simp

end Sys2Proof.Machine
end

section
/-! PROOFS. What keeps the laws: the relation that every operation's result stands in to the state it was taken on, quiet
changes, and the few changes that add something a law bounds. -/

namespace Sys2Proof.Machine

/-- Every law that holds of `s` holds of `t`; those of the clock and of the modes go together. -/
structure Keeps (s t : State) : Prop where
  clock : s.clockLawful → s.storeLawful → t.clockLawful ∧ t.storeLawful
  mem : s.mem.lawful → t.mem.lawful
  capacity : s.capacityLawful → t.capacityLawful
  capture : s.captureLawful → t.captureLawful
  ordered : s.scheduleOrdered → t.scheduleOrdered
  cache : s.cacheLawful → t.cacheLawful
  notes : s.notesBounded → t.notesBounded
  named : s.notesNamed → t.notesNamed
  yields : s.yieldsBounded → t.yieldsBounded
  counters : s.countersBounded → t.countersBounded
  frame : s.frameLawful → t.frameLawful
  save : s.saveLawful → t.saveLawful

theorem Keeps.refl (s : State) : Keeps s s := ⟨.intro, id, id, id, id, id, id, id, id, id, id, id⟩

theorem Keeps.trans {s t u : State} (h : Keeps s t) (k : Keeps t u) : Keeps s u where
  clock a b := k.clock (h.clock a b).1 (h.clock a b).2
  mem x := k.mem (h.mem x)
  capacity x := k.capacity (h.capacity x)
  capture x := k.capture (h.capture x)
  ordered x := k.ordered (h.ordered x)
  cache x := k.cache (h.cache x)
  notes x := k.notes (h.notes x)
  named x := k.named (h.named x)
  yields x := k.yields (h.yields x)
  counters x := k.counters (h.counters x)
  frame x := k.frame (h.frame x)
  save x := k.save (h.save x)

theorem Keeps.foldl {α : Type} {f : State → α → State} (h : ∀ s a, Keeps s (f s a)) (l : List α) (s : State) :
    Keeps s (l.foldl f s) := by
  induction l generalizing s with
  | nil => exact .refl s
  | cons a l ih => exact (h s a).trans (ih (f s a))

theorem State.storeBusy_congr {s t : State} (h : t.store.op = s.store.op) : t.storeBusy = s.storeBusy := by
  simp only [State.storeBusy, State.restoring, State.saving, h]

theorem eq_none_of_isSome_imp {α β : Type} {o : Option α} {p : Option β} (h : o.isSome = true → p.isSome = true)
    (hp : p = none) : o = none := by
  cases o with
  | none => rfl
  | some a => rw [hp] at h; exact absurd (h rfl) (by simp)

/-- A quiet change keeps every law. -/
theorem Quiet.keeps {s t : State} (h : Quiet s t) : Keeps s t where
  clock c l := by
    obtain ⟨cycle, tick, base, transport, pause, mode⟩ := h.clock
    obtain ⟨store, idle, empty, intake, current⟩ := l
    refine ⟨?clock, ?busy, ?idle, fun hn => ?empty, fun hr => ?intake, fun hc => ?current⟩
    case clock =>
      simp only [State.clockLawful, cycle, tick, base, transport, pause, mode]
      exact c
    case busy => rw [State.storeBusy_congr h.op, mode]; exact store
    case idle => rw [mode, transport]; exact idle
    case empty =>
      rw [mode, transport] at hn
      obtain ⟨entries, windows, walk, cur⟩ := empty hn
      have size := h.sched.length
      rw [entries] at size
      exact ⟨List.length_eq_zero_iff.1 (by simpa using size), h.windows windows,
        eq_none_of_isSome_imp (fun x => (h.walk x).1) walk, eq_none_of_isSome_imp h.current cur⟩
    case intake =>
      rw [mode] at hr
      have size := h.intake
      rw [intake hr] at size
      exact List.length_eq_zero_iff.1 (by simpa using size)
    case current => rw [mode]; exact current (h.current hc)
  mem := h.mem
  capacity c := by
    obtain ⟨intake, entries, queue, replays, calibrate, room⟩ := c
    obtain ⟨-, -, -, -, -, mode⟩ := h.clock
    have fewer := h.sched.length
    refine ⟨h.intake.trans intake, fewer.trans entries, h.jobs.trans queue, fun hi => ?_, fun hc => ?_, fun hw => ?_⟩
    · rw [mode]
      refine replays (fun e => hi (List.length_eq_zero_iff.1 ?_))
      have := h.intake
      rw [e] at this; simpa using this
    · rw [mode]; exact calibrate (h.current hc)
    · obtain ⟨hw', hi⟩ := h.walk hw
      obtain ⟨r, rest, he, hr⟩ := room hw'
      exact ⟨r, rest, hi.trans he, by omega⟩
  capture := h.capture
  ordered := h.sched.ordered
  cache := h.cache
  notes b i := (h.sched.notesLength i).trans (b i)
  named := h.sched.named
  yields := h.yields
  counters := h.counters
  frame f := by unfold State.frameLawful; rw [h.frame]; exact f
  save x := by
    unfold State.saveLawful State.boundary
    rw [h.op, h.profile]
    exact x

/-! ### A schedule that has grown -/

/-- From `d` to `d'` at most `n` entries have been added, and the laws of the schedule stand. -/
structure DriveSchedule.Grows (n : Nat) (d d' : DriveSchedule) : Prop where
  ordered : Ordered d.entries → Ordered d'.entries
  length : d'.entries.length ≤ d.entries.length + n
  notes : (∀ i : Fin 97, d.keys[i].notes.length ≤ 4) → ∀ i : Fin 97, d'.keys[i].notes.length ≤ 4
  named : d.named → d'.named

theorem DriveSchedule.Tames.grows {d d' : DriveSchedule} (h : d.Tames d') (n : Nat) : d.Grows n d' :=
  ⟨h.ordered, h.length.trans (Nat.le_add_right _ _), fun b i => (h.notesLength i).trans (b i), h.named⟩

theorem DriveSchedule.Tames.then {a b c : DriveSchedule} {n : Nat} (h : a.Tames b) (k : b.Grows n c) : a.Grows n c :=
  ⟨fun o => k.ordered (h.ordered o), k.length.trans (by have := h.length; omega),
    fun x => k.notes (fun i => (h.notesLength i).trans (x i)), fun x => k.named (h.named x)⟩

/-- A named schedule with a note-free entry inserted. -/
theorem DriveSchedule.Grows.insert (d : DriveSchedule) (e : Entry) (h : e.note = none) :
    d.Grows 1 { d with entries := insertEntry e d.entries } where
  ordered o := ordered_insertEntry o
  length := by simp [length_insertEntry]
  notes b := b
  named n := by
    obtain ⟨below, one, keys⟩ := n
    refine ⟨fun x hx id hid => ?_, fun a ha b hb hs hab => ?_, keys⟩
    · rcases mem_insertEntry.1 hx with rfl | hx
      · rw [h] at hid; cases hid
      · exact below x hx id hid
    · rcases mem_insertEntry.1 ha with rfl | ha
      · rw [h] at hs; cases hs
      rcases mem_insertEntry.1 hb with rfl | hb
      · rw [hab, h] at hs; cases hs
      exact one a ha b hb hs hab

theorem DriveSchedule.Grows.tames {a b c : DriveSchedule} {n : Nat} (h : a.Grows n b) (k : b.Tames c) : a.Grows n c :=
  ⟨fun o => k.ordered (h.ordered o), k.length.trans h.length, fun x i => (k.notesLength i).trans (h.notes x i),
    fun x => k.named (h.named x)⟩

theorem mem_appendNote {notes : List Note} {n m : Note} (h : m ∈ appendNote notes n) : m ∈ notes ∨ m = n := by
  unfold appendNote at h
  rcases List.mem_append.1 h with h | h
  · split at h
    · exact .inl h
    · exact .inl (List.mem_of_mem_drop h)
  · exact .inr (List.mem_singleton.1 h)

/-- A note appended under a fresh id leaves the ids apart. -/
theorem nodup_appendNote {notes : List Note} {n : Note} (h : (notes.map Note.id).Nodup)
    (fresh : ∀ m ∈ notes, m.id < n.id) : ((appendNote notes n).map Note.id).Nodup := by
  have kept : (if notes.length < 4 then notes else notes.drop 1).Sublist notes := by
    split
    · exact List.Sublist.refl _
    · exact List.drop_sublist 1 notes
  rw [appendNote, List.map_append, List.nodup_append]
  refine ⟨h.sublist (kept.map _), by simp, fun x hx y hy e => ?_⟩
  obtain ⟨m, hm, rfl⟩ := List.mem_map.1 hx
  have := fresh m (kept.subset hm)
  simp only [List.map_cons, List.map_nil, List.mem_singleton] at hy
  omega

/-- A key's new note with its two entries, under the next id (R130, R134). -/
theorem DriveSchedule.Grows.note (d : DriveSchedule) {k : Nat} {a o : Entry} {x : KeyDrive} {n : Note} {kept : List Entry}
    (hk : kept.Sublist d.entries) (ha : a.ofKey k = true ∧ a.target = k ∧ a.note = some d.nextNote)
    (ho : o.ofKey k = true ∧ o.target = k ∧ o.note = some d.nextNote)
    (hx : x.notes = appendNote (nth d.keys k KeyDrive.initial).notes n) (hn : n.id = d.nextNote) :
    d.Grows 2 { d with
      entries := insertEntry o (insertEntry a kept), keys := setNth d.keys k x, nextNote := d.nextNote + 1 } where
  ordered h := ordered_insertEntry (ordered_insertEntry (h.sublist hk))
  length := by
    have := hk.length_le
    simp only [length_insertEntry]; omega
  notes b i := by
    rw [getElem_setNth]
    split
    · next e => rw [hx, e, nth_succ]; exact length_appendNote _ _ (b i)
    · exact b i
  named h := by
    obtain ⟨below, one, keys⟩ := h
    obtain ⟨aof, atarget, anote⟩ := ha
    obtain ⟨oof, otarget, onote⟩ := ho
    have cases : ∀ e ∈ insertEntry o (insertEntry a kept),
        (e.ofKey k = true ∧ e.target = k ∧ e.note = some d.nextNote) ∨ e ∈ d.entries := by
      intro e he
      rcases mem_insertEntry.1 he with rfl | he
      · exact .inl ⟨oof, otarget, onote⟩
      rcases mem_insertEntry.1 he with rfl | he
      · exact .inl ⟨aof, atarget, anote⟩
      · exact .inr (hk.subset he)
    refine ⟨fun e he id hid => ?_, fun e he f hf hs hef => ?_, fun i => ?_⟩
    · rcases cases e he with ⟨of, target, note⟩ | he
      · rw [note] at hid; cases hid
        exact ⟨Nat.lt_succ_self _, target ▸ of⟩
      · exact ⟨Nat.lt_succ_of_lt (below e he id hid).1, (below e he id hid).2⟩
    · have fresh : ∀ y ∈ d.entries, y.note ≠ some d.nextNote :=
        fun y hy hy' => absurd (below y hy _ hy').1 (Nat.lt_irrefl _)
      rcases cases e he with ⟨-, te, ne⟩ | he <;> rcases cases f hf with ⟨-, tf, nf⟩ | hf
      · exact te.trans tf.symm
      · exact absurd (hef.symm.trans ne) (fresh f hf)
      · exact absurd (hef.trans nf) (fresh e he)
      · exact one e he f hf hs hef
    · rw [getElem_setNth]
      split
      · next e =>
        rw [hx, e, nth_succ]
        refine ⟨nodup_appendNote (keys i).1 (fun m hm => hn ▸ (keys i).2 m hm), fun m hm => ?_⟩
        rcases mem_appendNote hm with hm | rfl
        · exact Nat.lt_succ_of_lt ((keys i).2 m hm)
        · rw [hn]; exact Nat.lt_succ_self _
      · exact ⟨(keys i).1, fun m hm => Nat.lt_succ_of_lt ((keys i).2 m hm)⟩

/-- A new note keeps the schedule's laws. -/
theorem State.makeNote_grows (s : State) (k : Nat) (m : NewNote) (hm : m.kind = .attack ∨ m.kind = .hold) :
    s.sched.Grows 2 (s.makeNote k m).sched := by
  have strike : ∀ e : Entry, e.kind = m.kind → e.target = k → e.ofKey k = true := by
    intro e he ht
    rcases hm with hm | hm <;> simp [Entry.ofKey, Entry.strikes, he, hm, ht]
  have off : ∀ e : Entry, e.kind = .off → e.target = k → e.ofKey k = true := by
    intro e he ht
    simp [Entry.ofKey, Entry.offOf, he, ht]
  unfold State.makeNote
  refine DriveSchedule.Grows.tames ?_ (State.redecide_quiet _ k).sched
  exact DriveSchedule.Grows.note s.sched List.filter_sublist ⟨strike _ rfl rfl, rfl, rfl⟩ ⟨off _ rfl rfl, rfl, rfl⟩ rfl rfl

/-! ### Changes that add something -/

section
variable {s : State}

/-- Two entries for a current job, where there is room (R134, R158). -/
theorem Keeps.strike {d : DriveSchedule} (hc : s.calib.current.isSome = true) (room : 2 ≤ s.freeEntries)
    (g : s.sched.Grows 2 d) : Keeps s { s with sched := d } :=
  { Keeps.refl s with
    clock := fun c l => by
      obtain ⟨store, idle, empty, intake, current⟩ := l
      refine ⟨c, store, idle, fun hn => ?_, intake, current⟩
      rw [(empty hn).2.2.2] at hc; cases hc
    capacity := fun c => by
      obtain ⟨intake, entries, queue, replays, calibrate, walk⟩ := c
      have size := g.length
      unfold State.freeEntries at room
      refine ⟨intake, show d.entries.length ≤ 512 by omega, queue, replays, calibrate, fun hw => ?_⟩
      obtain ⟨r, rest, hi, -⟩ := walk hw
      have : s.time.mode.replays = true := replays (by simp [hi])
      rw [calibrate hc] at this; cases this
    ordered := g.ordered
    notes := g.notes
    named := g.named }

/-- The head of the intake leaves it for the schedule: its conditions hold, or its walk ends (R97, R99, R122). -/
theorem Keeps.admission {d : DriveSchedule} {v : VoiceUnit} {r : EventRecord} {rest : List EventRecord}
    (hi : s.intake = r :: rest)
    (may : s.voices.walk.isSome = true ∨ s.time.transport = .running ∧ recordNeeds r.kind ≤ s.freeEntries)
    (g : s.sched.Grows (recordNeeds r.kind) d) (hv : s.cacheLawful → State.cacheLawful { s with voices := v })
    (hw : v.walk = none) : Keeps s { s with sched := d, voices := v, intake := rest } :=
  { Keeps.refl s with
    clock := fun c l => by
      obtain ⟨store, idle, empty, intake, current⟩ := l
      refine ⟨c, store, idle, fun hn => ?_, fun hm => ?_, current⟩
      · obtain ⟨-, -, walk, -⟩ := empty hn
        rcases may with may | ⟨running, -⟩
        · rw [walk] at may; cases may
        · rcases hn with hn | hn
          · have : s.time.mode.replays = false := by
              revert hn; show s.time.mode.drives = false → s.time.mode.replays = false
              cases s.time.mode <;> simp [Mode.drives, Mode.replays]
            rw [intake this] at hi; cases hi
          · rw [show s.time.transport = .stopped from hn] at running; cases running
      · rw [intake hm] at hi; cases hi
    capacity := fun c => by
      obtain ⟨intake, entries, queue, replays, calibrate, walk⟩ := c
      have size := g.length
      have fits : s.sched.entries.length + recordNeeds r.kind ≤ 512 := by
        rcases may with may | ⟨-, room⟩
        · obtain ⟨r', rest', hi', hr⟩ := walk may
          rw [hi] at hi'; cases hi'; exact hr
        · unfold State.freeEntries at room; omega
      refine ⟨?_, show d.entries.length ≤ 512 by omega, queue, fun _ => replays (by simp [hi]), calibrate, fun h => ?_⟩
      · rw [hi] at intake; exact Nat.le_of_succ_le intake
      · exact absurd (show v.walk.isSome = true from h) (by simp [hw])
    cache := hv
    ordered := g.ordered
    notes := g.notes
    named := g.named }

/-- A walk started for the record at the head, no entry being its voice's (R97, R122). -/
theorem Keeps.look {w : Walk} {r : EventRecord} {rest : List EventRecord} (hi : s.intake = r :: rest)
    (running : s.time.transport = .running) (room : recordNeeds r.kind ≤ s.freeEntries)
    (apart : ∀ e ∈ s.voices.entries, e.voice ≠ w.voice) :
    Keeps s { s with voices := { s.voices with walk := some w } } :=
  { Keeps.refl s with
    clock := fun c l => by
      obtain ⟨store, idle, empty, intake, current⟩ := l
      refine ⟨c, store, idle, fun hn => ?_, intake, current⟩
      rcases hn with hn | hn
      · have : s.time.mode.replays = false := by
          revert hn; show s.time.mode.drives = false → s.time.mode.replays = false
          cases s.time.mode <;> simp [Mode.drives, Mode.replays]
        rw [intake this] at hi; cases hi
      · rw [show s.time.transport = .stopped from hn] at running; cases running
    capacity := fun c => by
      obtain ⟨intake, entries, queue, replays, calibrate, walk⟩ := c
      unfold State.freeEntries at room
      have fits : s.sched.entries.length + recordNeeds r.kind ≤ 512 := by omega
      exact ⟨intake, entries, queue, replays, calibrate, fun _ => ⟨r, rest, hi, fits⟩⟩
    cache := fun c => ⟨c.1, c.2.1, fun x hx e he => by cases hx; exact apart e he⟩ }

/-- A record handed over in Replay or Duplex (R121, R170). -/
theorem Keeps.record {r : EventRecord} (hm : s.time.mode.replays = true) (room : s.intake.length < 64) :
    Keeps s { s with intake := s.intake ++ [r] } :=
  { Keeps.refl s with
    clock := fun c l => by
      obtain ⟨store, idle, empty, intake, current⟩ := l
      exact ⟨c, store, idle, empty, fun h => absurd (hm.symm.trans h) (by decide), current⟩
    capacity := fun c => by
      obtain ⟨intake, entries, queue, replays, calibrate, walk⟩ := c
      refine ⟨by simp; omega, entries, queue, fun _ => hm, calibrate, fun hw => ?_⟩
      obtain ⟨r', rest, hi, hr⟩ := walk hw
      exact ⟨r', rest ++ [r], by simp [hi], hr⟩ }

/-- A job queued (R156). -/
theorem Keeps.job {j : Job} (room : s.calib.queue.length < 16) :
    Keeps s { s with calib := { s.calib with queue := s.calib.queue ++ [j] } } :=
  { Keeps.refl s with
    capacity := fun c => by
      obtain ⟨intake, entries, queue, rest⟩ := c
      exact ⟨intake, entries, by simp; omega, rest⟩ }

/-- A job made current where jobs run (R157). -/
theorem Keeps.start {c : Sequencer} (hm : s.time.mode = .calibrate) (ht : s.time.transport = .running)
    (hq : c.queue = s.calib.queue) : Keeps s { s with calib := c } :=
  { Keeps.refl s with
    clock := fun c l => by
      obtain ⟨store, idle, empty, intake, current⟩ := l
      refine ⟨c, store, idle, fun hn => ?_, intake, fun _ => hm⟩
      rcases hn with hn | hn
      · rw [show s.time.mode = .calibrate from hm] at hn; cases hn
      · rw [show s.time.transport = .stopped from hn] at ht; cases ht
    capacity := fun c => by
      obtain ⟨intake, entries, queue, replays, calibrate, walk⟩ := c
      exact ⟨intake, entries, hq ▸ queue, replays, fun _ => hm, walk⟩ }

/-- A window opened in a take that drives, or for the current job (R143, R144). -/
theorem Keeps.window {w : Vector (Option Window) 97}
    (h : s.time.mode.drives = true ∧ s.time.transport ≠ .stopped ∨ s.calib.current.isSome = true) :
    Keeps s { s with duplex := { s.duplex with windows := w } } :=
  { Keeps.refl s with
    clock := fun c l => by
      obtain ⟨store, idle, empty, intake, current⟩ := l
      refine ⟨c, store, idle, fun hn => ?_, intake, current⟩
      rcases h with ⟨drives, taking⟩ | job
      · rcases hn with hn | hn
        · exact absurd (drives.symm.trans hn) (by decide)
        · exact absurd hn taking
      · rw [(empty hn).2.2.2] at job; cases job }

/-- A lawful frame sent (R18). -/
theorem Keeps.frameOut {l : ActionLink} {f : CycleFrame} (hl : l.frameOut = some f) (hf : f.lawful) :
    Keeps s { s with link := l } :=
  { Keeps.refl s with
    frame := fun _ g hg => by
      rw [show l.frameOut = some g from hg] at hl; cases hl; exact hf }

/-- A change of the Time Base. -/
theorem Keeps.time {x : TimeBase} (hc : s.clockLawful → s.storeLawful →
      State.clockLawful { s with time := x } ∧ State.storeLawful { s with time := x })
    (hk : s.capacityLawful → State.capacityLawful { s with time := x }) : Keeps s { s with time := x } :=
  { Keeps.refl s with clock := hc, capacity := hk }

/-- The operation in flight changed: none is, or the mode is Idle (R183 to R185). -/
theorem Keeps.operation {op : StoreOp} (hm : State.storeBusy (s.setOp op) = true → s.storeLawful → s.time.mode = .idle)
    (hs : s.saveLawful → State.saveLawful (s.setOp op)) : Keeps s (s.setOp op) :=
  { Keeps.refl s with
    clock := fun c l => ⟨c, fun h => hm h l, l.2⟩
    save := hs }

/-- The profile written while no operation is in flight (R175, R185). -/
theorem Keeps.profile {p : ScorePort} (h : s.storeBusy = false) (hc : p.counters = s.port.counters) :
    Keeps s { s with port := p } :=
  { Keeps.refl s with
    counters := fun c i => by show p.counters[i] ≤ 65535; rw [hc]; exact c i
    save := fun x => by
      unfold State.saveLawful
      show match s.store.op with | .save op => _ | _ => True
      simp only [State.storeBusy, State.saving, Bool.or_eq_false_iff] at h
      cases ho : s.store.op with
      | save op => rw [ho] at h; cases h.2
      | idle => trivial
      | restore op => trivial }

end

end Sys2Proof.Machine
end

section
/-! PROOFS. What the Capture Queue, the Capture Tracker, the Duplex Monitor, the Calibration Sequencer and the station notices
keep of the laws. -/

namespace Sys2Proof.Machine

/-! ### The Capture Queue -/

/-- The summary changed, the events kept. -/
theorem Quiet.on_summary {s t : State} {x : TakeSummary} (h : Quiet s t) :
    Quiet s { t with capture := { t.capture with summary := x } } := h.on_capture id

theorem State.summarise_quiet (s : State) (f : TakeSummary → TakeSummary) : Quiet s (s.summarise f) :=
  .ite (fun _ => (Quiet.refl s).on_summary) (fun _ => .refl s)

theorem State.markGap_quiet (s : State) (e : CaptureEvent) : Quiet s (s.markGap e) :=
  .ite (fun _ => s.summarise_quiet _) (fun _ => .refl s)

theorem length_dropLastThat {p : CaptureEvent → Bool} {l : List CaptureEvent} (h : l.any p = true) :
    (dropLastThat p l).length + 1 = l.length := by
  obtain ⟨x, hx, hp⟩ := List.any_eq_true.1 h
  have := List.length_eraseP_of_mem (List.mem_reverse.2 hx) hp
  have := List.length_pos_of_mem hx
  simp only [dropLastThat, List.length_reverse] at *
  omega

theorem State.takeEvent_quiet (s : State) (e : CaptureEvent) : Quiet s (s.takeEvent e) := by
  unfold State.takeEvent
  split
  · next room =>
    refine Quiet.trans ((Quiet.refl s).on_capture (fun c => ⟨?_, ordered_insertEvent c.2⟩)) (State.markGap_quiet _ e)
    show (insertEvent e s.capture.events).length ≤ 256
    rw [length_insertEvent]; omega
  · split
    · next there =>
      refine (Quiet.refl s).on_capture (fun c => ⟨?_, ordered_insertEvent (c.2.sublist (dropLastThat_sublist _ _))⟩)
      have := length_dropLastThat there.2
      have := c.1
      show (insertEvent e _).length ≤ 256
      rw [length_insertEvent]; omega
    · exact ((s.bump_quiet _).trans (State.summarise_quiet _ _)).trans (State.markGap_quiet _ e)

theorem State.sendEvents_quiet (s : State) (n : Nat) : Quiet s (s.sendEvents n) :=
  ((Quiet.refl s).on_capture (fun c => ⟨(List.drop_sublist n _).length_le.trans c.1, c.2.sublist (List.drop_sublist n _)⟩)).trans
    (State.hand_quiet _ _)

theorem State.releaseFrames_quiet (fuel : Nat) (s : State) : Quiet s (State.releaseFrames fuel s) := by
  induction fuel generalizing s with
  | zero => exact .refl s
  | succ fuel ih =>
    exact .ite (fun _ => .refl s) (fun _ => .ite (fun _ => (s.sendEvents_quiet _).trans (ih _)) (fun _ => .refl s))

theorem State.captureRelease_quiet (s : State) : Quiet s s.captureRelease :=
  .ite (fun _ => State.releaseFrames_quiet _ s) (fun _ => .refl s)

theorem State.flushFrames_quiet (fuel : Nat) (s : State) : Quiet s (State.flushFrames fuel s) := by
  induction fuel generalizing s with
  | zero => exact .refl s
  | succ fuel ih => exact .ite (fun _ => .refl s) (fun _ => (s.sendEvents_quiet _).trans (ih _))

theorem State.flush_quiet (s : State) (cause : StopCause) : Quiet s (s.flush cause) :=
  ((State.flushFrames_quiet _ s).trans (State.hand_quiet _ _)).on_summary

theorem State.openTake_quiet (s : State) : Quiet s s.openTake := (Quiet.refl s).on_summary

theorem State.trackerCount_quiet (s : State) (c : Counter) : Quiet s (s.trackerCount c) :=
  (s.bump_quiet c).trans (.ite (fun _ => State.summarise_quiet _ _) (fun _ => .refl _))

/-! ### Handing over and closing -/

theorem State.setTracker_quiet (s : State) (k : Nat) (r : TrackerRecord) : Quiet s (s.setTracker k r) :=
  (Quiet.refl s).on_tracker

theorem State.handKeyEvent_quiet (s : State) (k : Nat) (kind : CaptureKind) (value raw : Nat) :
    Quiet s (s.handKeyEvent k kind value raw) := (s.setTracker_quiet k _).trans (State.takeEvent_quiet _ _)

theorem State.releaseKey_quiet (s : State) (k raw : Nat) : Quiet s (s.releaseKey k raw) :=
  .ite (fun _ => Quiet.trans (.ite (fun _ => s.handKeyEvent_quiet k _ _ raw) (fun _ => .refl s))
    (State.setTracker_quiet _ k _)) (fun _ => .refl s)

theorem State.closeKey_quiet (s : State) (into : TrackState) (k : Nat) : Quiet s (s.closeKey into k) :=
  .ite (fun _ => s.setTracker_quiet k _) (fun _ => (s.releaseKey_quiet k _).trans (State.setTracker_quiet _ k _))

theorem State.closeKeys_quiet (s : State) (keys : List Nat) : Quiet s (s.closeKeys keys) :=
  Quiet.foldl (fun s k => .ite (fun _ => .refl s) (fun _ => s.closeKey_quiet .atRest k)) keys s

theorem State.startTracker_quiet (s : State) : Quiet s s.startTracker := (Quiet.refl s).on_tracker

theorem State.markIncomplete_quiet (s : State) : Quiet s s.markIncomplete :=
  .ite (fun _ => s.summarise_quiet _) (fun _ => .refl s)

/-! ### The Duplex Monitor -/

theorem setNth_replicate {α : Type} {n : Nat} (a : α) (k : Nat) :
    setNth (Vector.replicate n a) k a = Vector.replicate n a := by
  apply Vector.ext
  intro i hi
  have := getElem_setNth (Vector.replicate n a) k a ⟨i, hi⟩
  simpa using this

/-- A window removed. -/
theorem State.dropWindow_quiet (s : State) (k : Nat) : Quiet s (s.setWindow k none) :=
  (Quiet.refl s).on_windows (fun h => by rw [h, setNth_replicate])

theorem State.setYield_quiet (s : State) (k : Nat) (y : YieldRecord) (h : s.yieldsBounded → y.level ≤ 2) :
    Quiet s (s.setYield k y) :=
  (Quiet.refl s).on_yields (fun b i => by
    show (setNth s.duplex.yields k y)[i].level ≤ 2
    rw [getElem_setNth]
    split
    · exact h b
    · exact b i)

theorem State.yieldLevel_le {s : State} (h : s.yieldsBounded) (k : Nat) : (s.yieldOf k).level ≤ 2 := by
  by_cases hk : 1 ≤ k ∧ k ≤ 97
  · have e : k = (⟨k - 1, by omega⟩ : Fin 97).val + 1 := by simp; omega
    rw [State.yieldOf, e, nth_succ]; exact h _
  · by_cases h0 : k = 0
    · rw [State.yieldOf, h0, nth_zero]; decide
    · rw [State.yieldOf, nth_above _ _ (by omega)]; decide

/-- A yield record changed, its level kept. -/
theorem State.setYield_quiet_of_level (s : State) (k : Nat) (y : YieldRecord) (h : y.level = (s.yieldOf k).level) :
    Quiet s (s.setYield k y) := s.setYield_quiet k y (fun b => h ▸ State.yieldLevel_le b k)

theorem State.outcome_quiet (s : State) (o : StrikeOutcome) : Quiet s (s.outcome o) :=
  .ite (fun _ => s.report_quiet _) (fun _ => .refl s)

theorem State.clearWindows_quiet (s : State) : Quiet s s.clearWindows := (Quiet.refl s).on_windows (fun _ => rfl)

theorem State.removeWindows_quiet (s : State) (keys : List Nat) : Quiet s (s.removeWindows keys) :=
  Quiet.foldl (fun s k => s.dropWindow_quiet k) keys s

theorem State.adapt_quiet (s : State) (v : Via) (step : Int) : Quiet s (s.adapt v step) :=
  .ite (fun _ => .refl s) (fun _ => s.writeTrim_quiet v _ (newTrim_bounds _ step).1 (newTrim_bounds _ step).2)

theorem State.conclude_quiet (s : State) (k : Nat) (w : Window) (commanded : Nat) (via : Via) (result : StrikeResult)
    (measured : Option Nat) (timing : Option Int) (step : Int) :
    Quiet s (s.conclude k w commanded via result measured timing step) :=
  .ite (fun _ => (s.adapt_quiet via step).trans (State.outcome_quiet _ _)) (fun _ => s.outcome_quiet _)

theorem State.verify_quiet (s : State) (k : Nat) (w : Window) (commanded : Nat) (via : Via) (measured stamp : Nat) :
    Quiet s (s.verify k w commanded via measured stamp) :=
  ((s.conclude_quiet ..).trans (State.setYield_quiet _ k _ (fun _ => Nat.zero_le 2))).trans (State.dropWindow_quiet _ k)

theorem State.missed_quiet (s : State) (k : Nat) (w : Window) (commanded : Nat) (via : Via) :
    Quiet s (s.missed k w commanded via) := (s.conclude_quiet ..).trans (State.dropWindow_quiet _ k)

theorem State.contend_quiet (s : State) (k : Nat) : Quiet s (s.contend k) :=
  (((s.bump_quiet _).trans (State.dropWindow_quiet _ k)).trans
    (State.setYield_quiet _ k _ (fun _ => Nat.min_le_right _ 2))).trans (State.withdraw_quiet _ k)

theorem State.endYield_quiet (s : State) (k : Nat) : Quiet s (s.endYield k) :=
  (s.setYield_quiet_of_level k _ (by rfl)).trans (State.redecide_quiet _ k)

theorem State.restKey_quiet (s : State) (readable : Bool) (k : Nat) : Quiet s (s.restKey readable k) :=
  .ite (fun _ => (s.setYield_quiet_of_level k _ (by rfl)).trans
    (.ite (fun _ => State.endYield_quiet _ k) (fun _ => .refl _))) (fun _ => .refl s)

theorem State.yieldExpiry_quiet (s : State) (k : Nat) : Quiet s (s.yieldExpiry k) :=
  .ite (fun _ => s.endYield_quiet k) (fun _ => .refl s)

/-- A Monitor window is opened only where the mode drives. -/
theorem State.openMonitor_keeps (s : State) (k strike velocity : Nat) (via : Via) (h : s.time.transport ≠ .stopped) :
    Keeps s (s.openMonitor k strike velocity via) := by
  unfold State.openMonitor
  split
  · next hv =>
    have drives : s.time.mode.drives = true := by
      simp only [State.verifies, Bool.and_eq_true, Bool.or_eq_true, beq_iff_eq] at hv
      rcases hv.1 with hm | ⟨hm, -⟩ <;> rw [hm] <;> rfl
    have superseded : ∀ o, Keeps s ((s.outcome o).setWindow k (some
        { holder := .monitor velocity via, strike := strike, start := (strike : Int) - (s.outcome o).port.options.windowWidth,
          stop := strike + (s.outcome o).port.options.windowWidth,
          close := closeCycle (strike + (s.outcome o).port.options.windowWidth) })) := by
      intro o
      have time := (s.outcome_touches o).time rfl
      exact (s.outcome_quiet o).keeps.trans (.window (.inl ⟨by rw [time]; exact drives, by rw [time]; exact h⟩))
    split
    · exact superseded _
    · exact .window (.inl ⟨drives, h⟩)
  · exact .refl s

/-! ### The Calibration Sequencer -/

theorem State.setJob_quiet (s : State) (c : CurrentJob) (h : s.calib.current.isSome = true) : Quiet s (s.setJob c) :=
  (Quiet.refl s).on_calib (fun _ => h) le_rfl

theorem State.leaveJob_quiet (s : State) : Quiet s s.leaveJob :=
  (Quiet.refl s).on_calib (by simp) (by simp)

theorem State.removeStrike_quiet (s : State) (k : Nat) : Quiet s (s.removeStrike k) :=
  ((s.setEntries_quiet List.filter_sublist).trans
    (State.setDrive_quiet _ k _ (List.filter_sublist.map _))).trans (State.redecide_quiet _ k)

theorem State.endStrike_quiet (s : State) (c : CurrentJob) : Quiet s (s.endStrike c) := by
  unfold State.endStrike
  split
  · exact .refl s
  · exact s.removeStrike_quiet _
  · exact s.dropWindow_quiet _

theorem State.failJob_quiet (s : State) (c : CurrentJob) (reason : JobReason) : Quiet s (s.failJob c reason) :=
  ((s.endStrike_quiet c).trans (State.leaveJob_quiet _)).trans (State.report_quiet _ _)

theorem State.failJobIf_quiet (s : State) (p : CurrentJob → Bool) (reason : JobReason) :
    Quiet s (s.failJobIf p reason) := by
  rcases s.failJobIf_cases p reason with ⟨-, h⟩ | ⟨_, -, -, h⟩ | ⟨c, -, -, h⟩ <;> rw [h]
  · exact .refl s
  · exact .refl s
  · exact s.failJob_quiet c reason

theorem State.abortJobs_quiet (s : State) (cause : AbortCause) : Quiet s (s.abortJobs cause) := by
  unfold State.abortJobs
  split
  · exact .refl s
  · refine Quiet.trans (Quiet.on_calib (t := match s.calib.current with | none => s | some c => s.endStrike c) ?_ (by simp)
      (by simp)) (State.report_quiet _ _)
    split
    · exact .refl s
    · exact s.endStrike_quiet _

/-- The note a calibration strike becomes, deferred by `wait` (R134). -/
def calibrationNote (onset wait level hold attack rearm : Nat) : NewNote :=
  { kind := .attack, onset := onset + wait, strike := none, level := level, holdLevel := hold, attack := attack,
    rearm := rearm, off := onset + wait + attack, origin := .stream, owed := false, via := none, velocity := none }

/-- All the schedule can answer to a calibration strike: refused, no room, or its note is made behind the spacing (R134). -/
theorem State.admitCalibration_cases (s : State) (k onset level hold attack rearm : Nat) :
    (∃ counter, s.refusal k = some counter ∧
      s.admitCalibration k onset level hold attack rearm = (s.bump counter, .dropped counter)) ∨
    (s.refusal k = none ∧ s.freeEntries < 2 ∧ s.admitCalibration k onset level hold attack rearm = (s, .noRoom)) ∨
    ∃ spaced, spaced = s.spaceNote k (max onset s.earliest) rearm ∧ s.refusal k = none ∧ 2 ≤ s.freeEntries ∧
      s.admitCalibration k onset level hold attack rearm =
        (spaced.1.makeNote k (calibrationNote (max onset s.earliest) spaced.2 level hold attack rearm), .admitted) := by
  unfold State.admitCalibration
  cases hr : s.refusal k with
  | some counter => exact .inl ⟨counter, rfl, rfl⟩
  | none =>
    by_cases room : s.freeEntries < 2
    · exact .inr (.inl ⟨rfl, room, by simp only [room, if_true]⟩)
    · exact .inr (.inr ⟨_, rfl, rfl, by omega, by simp only [room, if_false]; rfl⟩)

/-- The strike's level, or the hold level, is above 768 while its station is over temperature (R158). -/
def State.strikeTooHot (s : State) (c : CurrentJob) : Bool :=
  (s.driverOf c.job.key).any s.isHot &&
    (decide (Config.hotCap < jobLevel c.job c.level) || decide (Config.hotCap < c.scalars.hold))

/-- All that asking a strike can do: the job fails, or the strike stands Pending, or it is admitted (R158). -/
theorem State.askStrike_cases (s : State) (c : CurrentJob) :
    (s.strikeTooHot c = true ∧ s.askStrike c = s.failJob c .overTemperature) ∨
    (s.strikeTooHot c = false ∧
      ((∃ counter, s.refusal c.job.key = some counter ∧
          s.askStrike c = (s.bump counter).failJob c (dropReason counter)) ∨
        (s.refusal c.job.key = none ∧ s.freeEntries < 2 ∧ s.askStrike c = s.setJob c) ∨
        ∃ spaced, spaced = s.spaceNote c.job.key (max c.planned s.earliest) c.rearm ∧ s.refusal c.job.key = none ∧
          2 ≤ s.freeEntries ∧
          s.askStrike c = (spaced.1.makeNote c.job.key (calibrationNote (max c.planned s.earliest) spaced.2
            (jobLevel c.job c.level) c.scalars.hold c.attack c.rearm)).setJob { c with state := .admitted })) := by
  have step : s.askStrike c = if s.strikeTooHot c then s.failJob c .overTemperature else
      let a := s.admitCalibration c.job.key c.planned (jobLevel c.job c.level) c.scalars.hold c.attack c.rearm
      match a.2 with
      | .admitted => a.1.setJob { c with state := .admitted }
      | .noRoom => a.1.setJob c
      | .dropped counter => a.1.failJob c (dropReason counter) := rfl
  rw [step]
  cases hot : s.strikeTooHot c with
  | true => exact .inl ⟨rfl, rfl⟩
  | false =>
    refine .inr ⟨rfl, ?_⟩
    simp only [Bool.false_eq_true, if_false]
    rcases s.admitCalibration_cases c.job.key c.planned (jobLevel c.job c.level) c.scalars.hold c.attack c.rearm with
      ⟨counter, hr, h⟩ | ⟨hr, room, h⟩ | ⟨spaced, hs, hr, room, h⟩ <;> rw [h]
    · exact .inl ⟨counter, hr, rfl⟩
    · exact .inr (.inl ⟨hr, room, rfl⟩)
    · exact .inr (.inr ⟨spaced, hs, hr, room, rfl⟩)

theorem State.askStrike_keeps (s : State) (c : CurrentJob) (h : s.calib.current.isSome = true) :
    Keeps s (s.askStrike c) := by
  rcases s.askStrike_cases c with ⟨-, e⟩ | ⟨-, ⟨counter, -, e⟩ | ⟨-, -, e⟩ | ⟨spaced, hs, -, room, e⟩⟩ <;> rw [e]
  · exact (s.failJob_quiet c _).keeps
  · exact ((s.bump_quiet counter).trans (State.failJob_quiet _ c _)).keeps
  · exact (s.setJob_quiet c h).keeps
  · have quiet : Quiet s spaced.1 := hs ▸ s.spaceNote_quiet _ _ _
    have length : spaced.1.sched.entries.length = s.sched.entries.length := hs ▸ s.length_spaceNote _ _ _
    have job : spaced.1.calib.current.isSome = true := by
      rw [hs, (s.spaceNote_touches _ _ _).calib rfl]; exact h
    have made := spaced.1.makeNote_touches c.job.key (calibrationNote (max c.planned s.earliest) spaced.2
      (jobLevel c.job c.level) c.scalars.hold c.attack c.rearm)
    refine (quiet.keeps.trans ?_).trans (State.setJob_quiet _ _ (by rw [made.calib rfl]; exact job)).keeps
    rw [made.eq_sched]
    refine Keeps.strike job ?_ (spaced.1.makeNote_grows _ _ (.inl rfl))
    unfold State.freeEntries at *
    rw [length]; exact room

theorem State.retryStrike_keeps (s : State) : Keeps s s.retryStrike := by
  unfold State.retryStrike
  split
  · exact .refl s
  · next c hc =>
    split
    · exact s.askStrike_keeps c (by simp [hc])
    · exact .refl s

theorem State.startJob_keeps (s : State) : Keeps s s.startJob := by
  rcases s.startJob_cases with ⟨-, h⟩ | ⟨-, h⟩ | ⟨j, rest, c, -, run, -, -, -, -, -, h⟩ <;> rw [h]
  · exact .refl s
  · exact ((Quiet.refl s).on_calib (x := { s.calib with testDue := false }) id le_rfl).keeps
  · simp only [State.jobsRun, Bool.and_eq_true, beq_iff_eq] at run
    exact (Keeps.start (c := { s.calib with current := some c, testDue := false }) run.1.1 run.2 rfl).trans
      (State.askStrike_keeps _ c rfl)

theorem State.finishSweep_quiet (s : State) (c : CurrentJob) : Quiet s (s.finishSweep c) := by
  unfold State.finishSweep
  simp only
  split
  · refine Quiet.trans (Quiet.trans ?_ (State.leaveJob_quiet _)) (State.report_quiet _ _)
    split
    · next valid => exact s.commitPage_quiet _ _ valid
    · exact .refl s
  · exact s.leaveJob_quiet.trans (State.report_quiet _ _)

theorem State.advanceJob_keeps (s : State) (c : CurrentJob) (h : s.calib.current.isSome = true) :
    Keeps s (s.advanceJob c) := by
  unfold State.advanceJob
  simp only
  split
  · exact s.askStrike_keeps _ h
  · split
    · exact s.askStrike_keeps _ h
    · exact (s.finishSweep_quiet _).keeps

theorem State.measure_keeps (s : State) (k velocity strikeTime : Nat) : Keeps s (s.measure k velocity strikeTime) := by
  unfold State.measure
  refine (s.dropWindow_quiet k).keeps.trans ?_
  simp only
  split
  · exact .refl _
  · next c hc =>
    split
    · exact State.advanceJob_keeps _ _ (by rw [hc]; rfl)
    · exact .refl _

theorem State.noCrossing_keeps (s : State) (k : Nat) : Keeps s (s.noCrossing k) := by
  unfold State.noCrossing
  refine (s.dropWindow_quiet k).keeps.trans ?_
  simp only
  split
  · exact .refl _
  · next c hc =>
    split
    · exact State.advanceJob_keeps _ _ (by rw [hc]; rfl)
    · exact .refl _

theorem State.calibrationDispatched_keeps (s : State) (k onset : Nat) : Keeps s (s.calibrationDispatched k onset) := by
  unfold State.calibrationDispatched
  split
  · exact .refl s
  · next c hc =>
    split
    · simp only
      split
      · exact (Keeps.window (.inr (by simp [hc]))).trans (State.setJob_quiet _ _ (by simp [hc])).keeps
      · exact (s.failJob_quiet _ _).keeps
    · exact .refl s

/-! ### The Capture Tracker's hand-over -/

theorem State.judgeCapture_quiet (s : State) (k : Nat) (kind : CaptureKind) (value raw : Nat) :
    Quiet s (s.judgeCapture k kind value raw) := .ite (fun _ => s.handKeyEvent_quiet ..) (fun _ => .refl s)

theorem State.routeStrike_keeps (s : State) (k velocity stamp strikeTime : Nat) :
    Keeps s (s.routeStrike k velocity stamp strikeTime) := by
  unfold State.routeStrike
  split
  · exact .refl s
  split
  · next w _ =>
    split
    · exact (s.verify_quiet ..).keeps
    · exact s.measure_keeps ..
  · split
    · exact (((s.contend_quiet k).trans (State.setTracker_quiet _ k _)).trans (State.judgeCapture_quiet ..)).keeps
    · split
      · exact (s.bump_quiet _).keeps
      · exact (s.judgeCapture_quiet ..).keeps

theorem State.krOut_quiet (s : State) (k : Nat) : Quiet s (s.krOut k) := by
  unfold State.krOut
  refine Quiet.trans (t := if s.taking && s.time.mode == .duplex && s.stateOf k == .armed then s.contend k else s) ?_ ?_
  · exact .ite (fun _ => s.contend_quiet k) (fun _ => .refl s)
  · exact .ite (fun _ => State.setTracker_quiet _ k _) (fun _ => .refl _)

theorem State.krIn_quiet (s : State) (k stamp : Nat) : Quiet s (s.krIn k stamp) :=
  .ite (fun _ => .refl s) (fun _ => (s.releaseKey_quiet k stamp).trans (State.setTracker_quiet _ k _))

theorem State.kdDown_quiet (s : State) (k stamp : Nat) : Quiet s (s.kdDown k stamp) :=
  .ite (fun _ => (s.setTracker_quiet k _).trans (State.judgeCapture_quiet ..)) (fun _ => .refl s)

theorem State.h1Up_quiet (s : State) (k : Nat) (x : Instant) : Quiet s (s.h1Up k x) :=
  .ite (fun _ => s.setTracker_quiet k _) (fun _ => .refl s)

theorem State.h1Down_quiet (s : State) (k : Nat) : Quiet s (s.h1Down k) :=
  .ite (fun _ => s.setTracker_quiet k _) (fun _ => .refl s)

/-- The interval from the H1 instant of a stroke to its H2 crossing; 0 where it has none (R55). -/
def TrackerRecord.strokeTime (r : TrackerRecord) (x : Instant) : Int :=
  match r.h1 with
  | none => 0
  | some h => interval h x

/-- The record Struck, and Clamped counted where the velocity `raw` is above 9999 (R55, R60). -/
def State.strokeStruck (s : State) (k raw : Nat) : State :=
  (s.setTracker k { s.trackerOf k with state := .struck, h1 := none }).bumpIf (decide (9999 < raw)) .clamped

/-- H2 up on a Rising record, by its interval: no time counts SensorOrder, a velocity below the least counts Brush, else a
Strike is determined (R55, R56, R60). -/
theorem State.endStroke_eq (s : State) (k : Nat) (x : Instant) (t : Int) (raw v : Nat) (u : State)
    (ht : t = (s.trackerOf k).strokeTime x) (hraw : raw = strokeVelocity (s.keySense k).gap t.toNat)
    (hv : v = min raw 9999) (hu : u = s.strokeStruck k raw) :
    s.endStroke k x =
      if t ≤ 0 then (s.setTracker k { s.trackerOf k with state := .down, h1 := none }).trackerCount .sensorOrder
      else if v < (s.keySense k).minVelocity then u.trackerCount .brush
      else
        u.routeStrike k v ((u.takeCycleOf x.cycle * 200 + x.fine + strikeOffset (s.keySense k).residual v) / 10)
          (u.takeCycleOf x.cycle * 200 + x.fine + strikeOffset (s.keySense k).residual v) := by
  subst ht hraw hv hu
  rfl

theorem State.strokeStruck_quiet (s : State) (k raw : Nat) : Quiet s (s.strokeStruck k raw) :=
  (s.setTracker_quiet k _).trans (State.bumpIf_quiet _ _ _)

theorem State.endStroke_keeps (s : State) (k : Nat) (x : Instant) : Keeps s (s.endStroke k x) := by
  rw [s.endStroke_eq k x _ _ _ _ rfl rfl rfl rfl]
  split
  · exact ((s.setTracker_quiet k _).trans (State.trackerCount_quiet _ _)).keeps
  · split
    · exact ((s.strokeStruck_quiet k _).trans (State.trackerCount_quiet _ _)).keeps
    · exact (s.strokeStruck_quiet k _).keeps.trans (State.routeStrike_keeps ..)

theorem State.h2Up_keeps (s : State) (k : Nat) (x : Instant) : Keeps s (s.h2Up k x) := by
  unfold State.h2Up
  split
  · exact s.endStroke_keeps k x
  · exact (s.trackerCount_quiet _).keeps
  · exact (s.trackerCount_quiet _).keeps
  · exact .refl s

theorem State.abandon_quiet (s : State) (x : Instant) (k : Nat) : Quiet s (s.abandon x k) := by
  rcases s.abandon_cases x k with ⟨_, -, -, -, h⟩ | h <;> rw [h]
  · exact s.setTracker_quiet k _
  · exact .refl s

theorem State.takeCrossing_keeps (s : State) (cycle : Nat) (x : Crossing) : Keeps s (s.takeCrossing cycle x) := by
  unfold State.takeCrossing
  refine (s.abandon_quiet { cycle := cycle, fine := x.fine } x.key).keeps.trans ?_
  simp only
  split
  · exact (State.krOut_quiet _ _).keeps
  · exact (State.krIn_quiet _ _ _).keeps
  · exact (State.kdDown_quiet _ _ _).keeps
  · exact (State.h1Up_quiet _ _ _).keeps
  · exact (State.h1Down_quiet _ _).keeps
  · exact State.h2Up_keeps _ _ _
  · exact .refl _

theorem State.judgeCrossing_keeps (s : State) (cycle : Nat) (e : RosterEntry) (x : Crossing) :
    Keeps s (s.judgeCrossing cycle e x) := by
  unfold State.judgeCrossing
  simp only
  split
  · exact .refl s
  · split
    · exact (s.trackerCount_quiet _).keeps
    · exact s.takeCrossing_keeps cycle x

theorem State.setPedal_quiet (s : State) (q : Nat) (r : PedalCapture) : Quiet s (s.setPedal q r) :=
  (Quiet.refl s).on_tracker

theorem State.takePedal_quiet (s : State) (cycle q raw : Nat) : Quiet s (s.takePedal cycle q raw) :=
  (s.setPedal_quiet q _).trans
    (.ite (fun _ => (State.setPedal_quiet _ q _).trans (State.takeEvent_quiet _ _)) (fun _ => .refl _))

theorem State.takeSection_keeps (s : State) (cycle : Nat) (sections : Vector (Option SectionReport) 8)
    (b : Nat × RosterEntry) : Keeps s (s.takeSection cycle sections b) := by
  unfold State.takeSection
  split
  · exact .refl s
  · exact Keeps.foldl (fun s c => s.judgeCrossing_keeps cycle b.2 c) _ s

theorem State.takeFlag_quiet (s : State) (sections : Vector (Option SectionReport) 8) (b : Nat × RosterEntry) :
    Quiet s (s.takeFlag sections b) := by
  unfold State.takeFlag
  split
  · split
    · exact s.trackerCount_quiet _
    · exact .ite (fun _ => s.trackerCount_quiet _) (fun _ => .refl s)
  · exact .refl s

theorem State.takePedals_quiet (s : State) (cycle : Nat) (sections : Vector (Option SectionReport) 8)
    (b : Nat × RosterEntry) : Quiet s (s.takePedals cycle sections b) := by
  unfold State.takePedals
  split
  · split
    · exact .refl s
    · exact Quiet.foldl (fun s (p : Nat × Nat) => s.takePedal_quiet cycle p.1 p.2) _ s
  · exact .refl s

theorem State.abandonAll_quiet (s : State) (cycle : Nat) : Quiet s (s.abandonAll cycle) :=
  Quiet.foldl (fun s k => s.abandon_quiet _ k) allKeys s

theorem State.handOver_keeps (s : State) (cycle : Nat) (sections : Vector (Option SectionReport) 8) :
    Keeps s (s.handOver cycle sections) :=
  (((Keeps.foldl (fun s b => s.takeSection_keeps cycle sections b) s.presentStations s).trans
    (Quiet.foldl (fun s b => s.takeFlag_quiet sections b) s.presentStations _).keeps).trans
    ((Quiet.foldl (fun s b => s.takePedals_quiet cycle sections b) s.presentStations _).trans
      (State.abandonAll_quiet _ cycle)).keeps).trans
    (Quiet.foldl (fun s k => s.restKey_quiet (s.readable sections k) k) allKeys _).keeps

theorem State.handOverLost_quiet (s : State) (cycle : Nat) : Quiet s (s.handOverLost cycle) :=
  (Quiet.foldl (fun s _ => .ite (fun _ => s.trackerCount_quiet _) (fun _ => .refl s))
    s.presentStations s).trans (State.abandonAll_quiet _ cycle)

/-! ### Station notices -/

theorem State.setFault_quiet (s : State) (k : Nat) (b : Bool) : Quiet s (s.setFault k b) := (Quiet.refl s).on_link rfl

theorem State.setSupplyLow_quiet (s : State) (b : Nat) (v : Bool) : Quiet s (s.setSupplyLow b v) :=
  (Quiet.refl s).on_link rfl

theorem State.setOverTemp_quiet (s : State) (b : Nat) (v : Bool) : Quiet s (s.setOverTemp b v) :=
  (Quiet.refl s).on_link rfl

theorem State.setBlinder_quiet (s : State) (k : Nat) (b : Option Nat) : Quiet s (s.setBlinder k b) :=
  (Quiet.refl s).on_link rfl

theorem State.loseDrive_quiet (s : State) (b : Nat) : Quiet s (s.loseDrive b) := by
  unfold State.loseDrive
  split
  · exact .refl s
  · exact .ite (fun _ => ((s.unavailable_quiet _).trans (State.removeWindows_quiet _ _)).trans
      (State.failJobIf_quiet _ _ _)) (fun _ => .refl s)

theorem State.lowerStation_quiet (s : State) (b : Nat) : Quiet s (s.lowerStation b) := by
  unfold State.lowerStation
  split
  · exact .refl s
  · exact .ite (fun _ => s.lowerLevels_quiet _) (fun _ => .refl s)

theorem State.coilFault_quiet (s : State) (k : Nat) : Quiet s (s.coilFault k).1 := by
  unfold State.coilFault
  split
  · exact .refl s
  · exact ((((s.setFault_quiet k true).trans
      (State.setYield_quiet_of_level _ k _ (by rfl))).trans (State.withdraw_quiet _ k)).trans
      (State.dropWindow_quiet _ k)).trans (State.failJobIf_quiet _ _ _)

theorem State.sensorBlinded_quiet (s : State) (b k : Nat) : Quiet s (s.sensorBlinded b k).1 :=
  ((Quiet.ite (fun _ => .refl s) (fun _ => s.closeKey_quiet .blind k)).trans
    ((State.setBlinder_quiet _ k (some b)).trans (State.failJobIf_quiet _ _ _))).trans (State.dropWindow_quiet _ k)

theorem State.sensorRestored_quiet (s : State) (k : Nat) : Quiet s (s.sensorRestored k).1 := by
  unfold State.sensorRestored
  split
  · exact (s.setTracker_quiet k _).trans (State.setBlinder_quiet _ k _)
  · exact .refl s

theorem State.supplyFalls_quiet (s : State) (b : Nat) : Quiet s (s.supplyFalls b).1 := by
  unfold State.supplyFalls
  split
  · exact .refl s
  · exact (s.setSupplyLow_quiet b true).trans (State.loseDrive_quiet _ b)

theorem State.supplyReturns_quiet (s : State) (b : Nat) : Quiet s (s.supplyReturns b).1 := by
  unfold State.supplyReturns
  split
  · exact s.setSupplyLow_quiet b false
  · exact .refl s

theorem State.heats_quiet (s : State) (b : Nat) : Quiet s (s.heats b).1 :=
  (Quiet.ite (fun _ => .refl s) (fun _ => (s.setOverTemp_quiet b true).trans (State.lowerStation_quiet _ b))).trans
    (State.failJobIf_quiet _ _ _)

theorem State.cools_quiet (s : State) (b : Nat) : Quiet s (s.cools b).1 := by
  unfold State.cools
  split
  · exact s.setOverTemp_quiet b false
  · exact .refl s

theorem State.unblind_quiet (s : State) (b k : Nat) : Quiet s (s.unblind b k) :=
  .ite (fun _ => (s.setBlinder_quiet k none).trans (.ite (fun _ => State.setTracker_quiet _ k _) (fun _ => .refl _)))
    (fun _ => .refl s)

theorem State.rejoins_quiet (s : State) (b : Nat) : Quiet s (s.rejoins b).1 := by
  unfold State.rejoins
  dsimp only
  exact ((s.setSupplyLow_quiet b false).trans (State.setOverTemp_quiet _ b false)).trans
    (Quiet.foldl (fun s k => s.unblind_quiet b k) _ _)

theorem State.noticeAction_quiet (s : State) (kind : NoticeKind) (n : Notice) : Quiet s (s.noticeAction kind n).1 := by
  cases kind
  case coilOvercurrent => exact s.coilFault_quiet n.key
  case coilOpen => exact s.coilFault_quiet n.key
  case supplyLow => exact s.supplyFalls_quiet n.station
  case overTemperature => exact s.heats_quiet n.station
  case supplyRestored => exact s.supplyReturns_quiet n.station
  case overTemperatureClear => exact s.cools_quiet n.station
  case sensorBlinded => exact s.sensorBlinded_quiet n.station n.key
  case sensorRestored => exact s.sensorRestored_quiet n.key
  case rejoin => exact s.rejoins_quiet n.station

theorem State.acceptNotice_quiet (s : State) (cycle : Nat) (n : Notice) : Quiet s (s.acceptNotice cycle n) := by
  unfold State.acceptNotice
  simp only
  split
  · exact s.report_quiet _
  · exact (s.noticeAction_quiet _ n).trans (State.report_quiet _ _)

end Sys2Proof.Machine
end

section
/-! PROOFS. What the link, the dispatch and replay admission keep of the laws. -/

namespace Sys2Proof.Machine

/-! ### Changes of link state -/

theorem State.openGap_quiet (s : State) (firstMissing : Nat) : Quiet s (s.openGap firstMissing) :=
  .ite (fun _ => .refl s) (fun _ => (Quiet.refl s).on_link rfl)

theorem State.closeGap_quiet (s : State) : Quiet s s.closeGap := by
  unfold State.closeGap
  split
  · exact .refl s
  · exact .ite (fun _ => ((Quiet.refl s).on_link (x := { s.link with gap := none }) rfl).trans (State.takeEvent_quiet _ _))
      (fun _ => (Quiet.refl s).on_link rfl)

theorem State.armPause_quiet (s : State) : Quiet s s.armPause :=
  .ite (fun _ => (Quiet.refl s).on_time ⟨rfl, rfl, rfl, rfl, rfl, rfl⟩) (fun _ => .refl s)

/-- R36, R37, R72 in their order: what leaving READY or DRIVING does to the gap and the depressions. -/
theorem State.leaveUp_quiet (s : State) (firstMissing : Nat) :
    Quiet s (if s.linkUp then (s.openGap firstMissing).closeKeys allKeys else s) :=
  .ite (fun _ => (s.openGap_quiet _).trans (State.closeKeys_quiet _ _)) (fun _ => .refl s)

theorem State.leaveLink_quiet (s : State) (into : LinkState) : Quiet s (s.leaveLink into) := by
  unfold State.leaveLink
  split
  · exact .refl s
  · dsimp only
    split
    · exact (((s.leaveUp_quiet _).trans (State.abortJobs_quiet _ _)).trans (State.clearWindows_quiet _)).trans
        (State.armPause_quiet _)
    · exact s.leaveUp_quiet _

theorem ActionLink.entered_frameOut (l : ActionLink) (into : LinkState) : (l.entered into).frameOut = l.frameOut := by
  cases into <;> rfl

theorem State.enterEffects_quiet (s : State) (into : LinkState) : Quiet s (s.enterEffects into) := by
  cases into
  case down => exact s.linkSilence_quiet
  case waking => exact s.linkSilence_quiet
  case aligning => exact s.linkSilence_quiet
  case ready => exact s.closeGap_quiet
  case driving => exact .refl s
  case lost => exact s.bump_quiet _

theorem State.enterLink_quiet (s : State) (into : LinkState) (cause : LinkCause) : Quiet s (s.enterLink into cause) :=
  (((s.leaveLink_quiet into).on_link (ActionLink.entered_frameOut _ into)).trans (State.enterEffects_quiet _ into)).trans
    (State.report_quiet _ _)

theorem State.enterReady_quiet (s : State) (cause : LinkCause) : Quiet s (s.enterReady cause) := by
  unfold State.enterReady
  dsimp only
  split
  · exact ((s.enterLink_quiet .ready cause).on_link (by rfl)).trans (State.enterLink_quiet _ _ _)
  · exact s.enterLink_quiet .ready cause

/-! ### The slow channel and the roster -/

theorem State.collect_quiet (s : State) (cycle : Nat) (r : Return) : Quiet s (s.collect cycle r) :=
  (Quiet.refl s).on_link rfl

theorem State.applyConditions_quiet (s : State) (b : Nat) : Quiet s (s.applyConditions b) :=
  (Quiet.ite (fun _ => s.loseDrive_quiet b) (fun _ => .refl s)).trans
    (.ite (fun _ => State.lowerStation_quiet _ b) (fun _ => .refl _))

theorem State.installRoster_quiet (s : State) (records : List (Nat × StationRecord)) :
    Quiet s (s.installRoster records) :=
  ((Quiet.refl s).on_link (x := { s.link with roster := rosterOf records, rosterChanged := false }) rfl).trans
    (Quiet.foldl State.applyConditions_quiet allStations _)

theorem State.rosterCheck_quiet (s : State) (c : Collection) : Quiet s (s.rosterCheck c) := by
  unfold State.rosterCheck
  dsimp only
  split
  · exact (s.installRoster_quiet _).trans (State.enterReady_quiet _ _)
  · next reason _ _ =>
    have noted := (Quiet.refl s).on_link (x := { s.link with lastReason := some reason }) rfl
    exact .ite (fun _ => noted) (fun _ => noted.trans (State.report_quiet _ _))

theorem State.setStation_quiet (s : State) (b : Nat) (e : RosterEntry) : Quiet s (s.setStation b e) :=
  (Quiet.refl s).on_link rfl

theorem State.updateStation_quiet (s : State) (b : Nat × StationRecord) : Quiet s (s.updateStation b) := by
  unfold State.updateStation
  split
  · exact .refl s
  · exact .ite (fun _ => s.setStation_quiet _ _) (fun _ => .refl s)

theorem State.takeRecords_quiet (s : State) (c : Collection) : Quiet s (s.takeRecords c) := by
  have updated := Quiet.foldl State.updateStation_quiet c.wholeRecords s
  exact .ite (fun _ => updated) (fun _ => .ite (fun _ => updated.trans (State.enterLink_quiet _ _ _))
    (fun _ => updated.on_link rfl))

theorem State.slowChannel_quiet (s : State) (cycle : Nat) (r : Return) : Quiet s (s.slowChannel cycle r) := by
  have collected := s.collect_quiet cycle r
  unfold State.slowChannel
  dsimp only
  split
  · exact collected
  · have taken := collected.on_link (x := { (s.collect cycle r).link with collection := none }) rfl
    exact .ite (fun _ => taken.trans (State.rosterCheck_quiet _ _)) (fun _ => taken.trans (State.takeRecords_quiet _ _))

/-! ### Returns -/

theorem State.stationAbsent_quiet (s : State) (b : Nat) (e : RosterEntry) : Quiet s (s.stationAbsent b e) := by
  have lost := (s.setStation_quiet b { e with present := false, missing := Config.absentAfter }).trans
    (State.loseDrive_quiet _ b)
  exact .ite (fun _ => (((lost.trans (State.removeWindows_quiet _ _)).trans (State.closeKeys_quiet _ _)).trans
    (State.markIncomplete_quiet _)).trans (State.failJobIf_quiet _ _ _)) (fun _ => lost)

theorem State.countSection_quiet (s : State) (sections : Vector (Option SectionReport) 8) (b : Nat) :
    Quiet s (s.countSection sections b) := by
  unfold State.countSection
  split
  · exact .refl s
  · exact .ite (fun _ => s.setStation_quiet _ _) (fun _ => .ite (fun _ => .refl s) (fun _ =>
      .ite (fun _ => s.setStation_quiet _ _) (fun _ => s.stationAbsent_quiet _ _)))

theorem State.takeSlot_quiet (s : State) (cycle : Nat) (slot : List Byte) : Quiet s (s.takeSlot cycle slot) := by
  unfold State.takeSlot
  split
  · exact (Quiet.refl s).on_link rfl
  · exact (Quiet.refl s).on_link rfl
  · next n _ =>
    exact ((Quiet.refl s).on_link (x := { s.link with echo := .accepted n.station }) rfl).trans
      (State.acceptNotice_quiet _ cycle n)

theorem State.recover_quiet (s : State) : Quiet s s.recover :=
  .ite (fun _ => s.enterLink_quiet _ _) (fun _ => s.enterReady_quiet _)

/-- A return in READY or DRIVING: the slot, the missing sections, the hand-over, the slow bytes (R22; log 10). -/
theorem State.handUp_keeps (s : State) (cycle : Nat) (r : Return) :
    Keeps s (((allStations.foldl (fun s b => s.countSection r.sections b) (s.takeSlot cycle r.slot)).handOver cycle
      r.sections).slowChannel cycle r) :=
  (((s.takeSlot_quiet cycle r.slot).trans
    (Quiet.foldl (fun s b => s.countSection_quiet r.sections b) allStations _)).keeps.trans
    (State.handOver_keeps _ cycle r.sections)).trans (State.slowChannel_quiet _ cycle r).keeps

theorem State.handReturn_keeps (s : State) (cycle : Nat) (r : Return) : Keeps s (s.handReturn cycle r) := by
  have slot := (s.takeSlot_quiet cycle r.slot).trans (State.slowChannel_quiet _ cycle r)
  unfold State.handReturn
  split
  · exact .refl s
  · have idle := (Quiet.refl s).on_link (x := { s.link with echo := .idle }) rfl
    exact (Quiet.ite (fun _ => idle.trans (State.enterLink_quiet _ _ _)) (fun _ => idle)).keeps
  · exact slot.keeps
  · exact s.handUp_keeps cycle r
  · exact s.handUp_keeps cycle r
  · exact (Quiet.ite (fun _ => slot.trans (State.recover_quiet _)) (fun _ => slot)).keeps

theorem State.validReturn_eq (s : State) (cycle elapsed : Nat) (r : Return) :
    s.validReturn cycle elapsed r = (s.returnTaken elapsed).handReturn cycle r := rfl

theorem State.returnTaken_quiet (s : State) (elapsed : Nat) : Quiet s (s.returnTaken elapsed) :=
  (Quiet.refl s).on_link rfl

theorem State.validReturn_keeps (s : State) (cycle elapsed : Nat) (r : Return) : Keeps s (s.validReturn cycle elapsed r) :=
  (s.returnTaken_quiet elapsed).keeps.trans (State.handReturn_keeps _ cycle r)

/-- The lost cycle handed over where crossings are handed on (R23). -/
theorem State.lostCycle_quiet (s : State) (cycle : Nat) : Quiet s (if s.linkUp then s.handOverLost cycle else s) :=
  .ite (fun _ => s.handOverLost_quiet cycle) (fun _ => .refl s)

theorem State.missingReturn_quiet (s : State) (cycle : Nat) : Quiet s (s.missingReturn cycle) := by
  have counted := (Quiet.refl s).on_link (x := { s.link with
    expiry := none, valid := 0, missing := countUp s.link.missing, collection := none, echo := s.link.state.missingEcho,
    firstMissing := if s.link.missing = 0 then cycle else s.link.firstMissing }) rfl
  have handed := counted.trans (State.lostCycle_quiet _ cycle)
  exact .ite (fun _ => handed.trans (State.enterLink_quiet _ _ _)) (fun _ => handed)

theorem State.takeReturn_keeps (s : State) (elapsed : Nat) (bytes : List Byte) : Keeps s (s.takeReturn elapsed bytes) := by
  unfold State.takeReturn
  split
  · exact .refl s
  · split
    · exact .refl s
    · split
      · exact s.validReturn_keeps _ _ _
      · exact (s.missingReturn_quiet _).keeps

theorem State.expireReturn_quiet (s : State) : Quiet s s.expireReturn := by
  unfold State.expireReturn
  split
  · exact .refl s
  · exact s.missingReturn_quiet _

theorem State.expireRecovery_quiet (s : State) : Quiet s s.expireRecovery :=
  .ite (fun _ => s.enterLink_quiet _ _) (fun _ => .refl s)

/-! ### The dispatch -/

theorem State.catchUp_quiet (s : State) : Quiet s s.catchUp := s.moveEntries_quiet _

theorem State.offNowSent_quiet (s : State) (k : Nat) : Quiet s (s.offNowSent k) :=
  (s.setDrive_quiet_of_notes k _ (by rfl)).trans (State.redecide_quiet _ k)

theorem State.restSent_quiet (s : State) (q : Nat) : Quiet s (s.restSent q) := s.setPedalDrive_quiet q _

/-- A note changed in place keeps its name. -/
theorem map_ids {notes : List Note} {f : Note → Note} (h : ∀ n, (f n).id = n.id) :
    (notes.map f).map Note.id = notes.map Note.id := by
  rw [List.map_map]; exact List.map_congr_left (fun n _ => h n)

theorem State.strikeSent_quiet (s : State) (e : Entry) : Quiet s (s.strikeSent e) :=
  ((s.setDrive_quiet e.target { s.driveOf e.target with
      driven := true, attackEnd := some (e.onset + e.attack), lastRearm := some e.rearm,
      notes := (s.driveOf e.target).notes.map
        (fun n => if e.note = some n.id then { n with attackDispatched := true } else n) }
    (by rw [map_ids (fun n => by split <;> rfl)])).trans (State.markPlayed_quiet _ _)).trans (State.redecide_quiet _ _)

theorem State.offSent_quiet (s : State) (e : Entry) : Quiet s (s.offSent e) :=
  ((s.setDrive_quiet e.target { s.driveOf e.target with
      driven := false, releaseEnd := some (laterOf (s.driveOf e.target).releaseEnd (e.onset + e.rearm)),
      rearmBase := some (laterOf (s.driveOf e.target).attackEnd e.onset),
      notes := (s.driveOf e.target).notes.map (fun n =>
        if e.note = some n.id then
          { n with offDispatched := true, origin := if n.origin = .provisional then .capped else n.origin }
        else n) }
    (by rw [map_ids (fun n => by split <;> rfl)])).trans (State.bumpIf_quiet _ _ _)).trans (State.redecide_quiet _ _)

theorem State.sent_keeps (s : State) (e : Entry) (h : s.time.transport ≠ .stopped) : Keeps s (s.sent e) := by
  have struck := s.strikeSent_quiet e
  unfold State.sent
  split
  · have taking : (s.strikeSent e).time.transport ≠ .stopped := by rw [(s.strikeSent_touches e).time rfl]; exact h
    dsimp only
    split
    · exact struck.keeps.trans (State.openMonitor_keeps _ _ _ _ _ taking)
    · exact struck.keeps.trans (State.calibrationDispatched_keeps _ _ _)
  · exact struck.keeps
  · exact (s.offSent_quiet e).keeps
  · exact ((s.setPedalDrive_quiet _ _).trans (State.markPlayed_quiet _ _)).keeps
  · exact (s.report_quiet _).keeps
  · exact ((Quiet.refl s).on_time (x := { s.time with endTick := some e.onset }) ⟨rfl, rfl, rfl, rfl, rfl, rfl⟩).keeps

/-- Of the Time Base a dispatched entry changes at most the end tick. -/
theorem State.sent_time (s : State) (e : Entry) : ∃ t, (s.sent e).time = { s.time with endTick := t } := by
  unfold State.sent
  split
  · dsimp only
    split
    · exact ⟨_, by rw [(State.openMonitor_touches ..).time rfl, (s.strikeSent_touches e).time rfl]⟩
    · exact ⟨_, by rw [(State.calibrationDispatched_touches ..).time rfl, (s.strikeSent_touches e).time rfl]⟩
  · exact ⟨_, by rw [(s.strikeSent_touches e).time rfl]⟩
  · exact ⟨_, by rw [(s.offSent_touches e).time rfl]⟩
  · exact ⟨_, by rw [(State.markPlayed_touches ..).time rfl]; rfl⟩
  · exact ⟨_, by rw [(s.report_touches _).time rfl]⟩
  · exact ⟨_, rfl⟩

theorem State.sentAll_keeps (l : List Entry) (s : State) (h : s.time.transport ≠ .stopped) :
    Keeps s (l.foldl State.sent s) := by
  induction l generalizing s with
  | nil => exact .refl s
  | cons e l ih =>
    obtain ⟨t, ht⟩ := s.sent_time e
    exact (s.sent_keeps e h).trans (ih _ (by rw [ht]; exact h))

theorem State.dropOff_quiet (s : State) (k : Nat) : Quiet s (s.dropOff k) :=
  .ite (fun _ => s.setDrive_quiet_of_notes k _ (by rfl)) (fun _ => .refl s)

theorem State.dropRest_quiet (s : State) (x : Entry × Nat) : Quiet s (s.dropRest x) :=
  .ite (fun _ => s.setPedalDrive_quiet _ _) (fun _ => .refl s)

theorem State.itemSent_quiet (s : State) (i : Item) : Quiet s (s.itemSent i) := by
  cases i with
  | offNow k => exact s.offNowSent_quiet k
  | rest q => exact s.restSent_quiet q
  | entry n e => exact .refl s

/-- Where the window begins a dispatch, what is put back of it before what was left is a part of the schedule. -/
theorem DriveSchedule.Tames.putBack (d : DriveSchedule) {back left window : List Entry}
    (h : (back ++ left).Sublist (window ++ left)) (all : ∀ e ∈ window ++ left, e ∈ d.entries)
    (length : (window ++ left).length = d.entries.length) (sorted : Ordered d.entries → Ordered (window ++ left)) :
    d.Tames { d with entries := back ++ left } :=
  { DriveSchedule.Tames.refl d with
    ordered := fun o => (sorted o).sublist h
    length := length ▸ h.length_le
    origin := fun e he => .inr ⟨e, all e (h.subset he), rfl, rfl, rfl⟩ }

/-- The immediate Offs and the rests that the filling drops first (R136, R138). -/
def State.cleared (s : State) (commands : List (Entry × Nat)) : State :=
  allKeys.foldl State.dropOff (commands.foldl State.dropRest s)

theorem State.cleared_quiet (s : State) (commands : List (Entry × Nat)) : Quiet s (s.cleared commands) :=
  (Quiet.foldl State.dropRest_quiet commands s).trans (Quiet.foldl State.dropOff_quiet allKeys _)

theorem State.dropRest_touchesSched (s : State) (x : Entry × Nat) : (s.dropRest x).sched.entries = s.sched.entries := by
  unfold State.dropRest; split <;> rfl

theorem State.dropOff_entries (s : State) (k : Nat) : (s.dropOff k).sched.entries = s.sched.entries := by
  unfold State.dropOff; split <;> rfl

theorem foldl_entries {α : Type} {f : State → α → State} (h : ∀ s a, (f s a).sched.entries = s.sched.entries)
    (l : List α) (s : State) : (l.foldl f s).sched.entries = s.sched.entries := by
  induction l generalizing s with
  | nil => rfl
  | cons a l ih => exact (ih (f s a)).trans (h s a)

theorem State.cleared_entries (s : State) (commands : List (Entry × Nat)) :
    (s.cleared commands).sched.entries = s.sched.entries := by
  unfold State.cleared
  rw [foldl_entries State.dropOff_entries, foldl_entries State.dropRest_touchesSched]

theorem State.cleared_touches (s : State) (commands : List (Entry × Nat)) :
    Touches { sched := true } s (s.cleared commands) :=
  (Touches.foldl State.dropRest_touches commands s).seq (Touches.foldl State.dropOff_touches allKeys _)

/-! The stages of the filling of a window (R136), each a function of the state it begins on and of the window's commands. -/

/-- The commands of a window that may be sent: those no later PedalSet outdoes. -/
def commandsIn (window : List (Entry × Nat)) : List (Entry × Nat) :=
  window.filter (fun x => x.1.isCommand && !outdone window x)

/-- The first 24 of what each station is offered. -/
def State.placesFor (u : State) (commands : List (Entry × Nat)) : List (List Item) :=
  allStations.map (fun b => u.placed commands b)

/-- The commands without a place. -/
def State.unplacedOf (u : State) (commands : List (Entry × Nat)) : List (Entry × Nat) :=
  commands.filter (fun x => !((u.placesFor commands).flatten.filterMap Item.number?).contains x.2)

/-- What the sections carry: the places without the entries held back. -/
def State.itemsFor (u : State) (commands : List (Entry × Nat)) : List (List Item) :=
  (u.placesFor commands).map (fun l => l.filter
    (Item.goes ((commands.filter (heldBack (u.unplacedOf commands))).map (fun x => x.2))))

/-- The numbers of the entries that the sections carry. -/
def State.numbersFor (u : State) (commands : List (Entry × Nat)) : List Nat :=
  (u.itemsFor commands).flatten.filterMap Item.number?

/-- The commands put back. -/
def State.backOf (u : State) (commands : List (Entry × Nat)) : List Entry :=
  (commands.filter (fun x => !(u.numbersFor commands).contains x.2)).map (fun x => x.1)

/-- The entries of the window that are sent, Markers and Ends among them. -/
def State.sentOf (u : State) (window : List (Entry × Nat)) : List Entry :=
  (window.filter (fun x => !x.1.isCommand || (u.numbersFor (commandsIn window)).contains x.2)).map (fun x => x.1)

/-- What is put back stands in the schedule again, the targets without a place 20 ticks later and counted. -/
def State.postpones (u : State) (left : List Entry) (commands : List (Entry × Nat)) : State :=
  ((u.setEntries (u.backOf commands ++ left)).moveEntries
    (fun e => if (u.unplacedOf commands).any (fun y => e.sameTarget y.1) then 20 else 0)).bumpTimes .postponed
    (u.unplacedOf commands).length

/-- The filling in its stages: the drops, what is put back, the effects of the items, then those of the entries sent. -/
theorem State.fillSections_eq (s : State) (left : List Entry) (window : List (Entry × Nat)) {u : State}
    (hu : u = s.cleared (commandsIn window)) :
    s.fillSections left window =
      ((u.sentOf window).foldl State.sent
          ((u.itemsFor (commandsIn window)).flatten.foldl State.itemSent (u.postpones left (commandsIn window))),
        (u.itemsFor (commandsIn window)).map (fun l => l.map (Item.command s.windowStart))) := by
  rw [hu]
  unfold State.fillSections State.postpones State.sentOf State.backOf State.numbersFor State.itemsFor State.unplacedOf
    State.placesFor commandsIn State.cleared
  with_reducible rfl

theorem State.itemSent_time (s : State) (i : Item) : (s.itemSent i).time = s.time := by cases i <;> rfl

theorem State.itemsSent_time (l : List Item) (s : State) : (l.foldl State.itemSent s).time = s.time := by
  induction l generalizing s with
  | nil => rfl
  | cons i l ih => exact (ih _).trans (s.itemSent_time i)

theorem State.postpones_touches (u : State) (left : List Entry) (commands : List (Entry × Nat)) :
    Touches { sched := true, port := true } u (u.postpones left commands) :=
  (State.bumpTimes_touches _ _ _).via
    ((State.moveEntries_touches _ _).via ((u.setEntries_touches _).mono rfl) rfl) rfl

/-- What is put back of a window is a part of it, in its order. -/
theorem State.backOf_sublist (u : State) (es : List Entry) : (u.backOf (commandsIn es.zipIdx)).Sublist es := by
  have h : ((commandsIn es.zipIdx).filter (fun x => !(u.numbersFor (commandsIn es.zipIdx)).contains x.2)).Sublist
      es.zipIdx := List.filter_sublist.trans List.filter_sublist
  simpa [State.backOf] using h.map (fun x => x.1)

/-- A window taken out of the schedule is filled into the sections: the laws stand where window and rest are the schedule, in
its order, and where entries are sent only in a take. -/
theorem State.fillSections_keeps (s : State) (left es : List Entry)
    (all : ∀ e ∈ es ++ left, e ∈ s.sched.entries) (length : (es ++ left).length = s.sched.entries.length)
    (sorted : Ordered s.sched.entries → Ordered (es ++ left)) (taking : es = [] ∨ s.time.transport ≠ .stopped) :
    Keeps s (s.fillSections left es.zipIdx).1 := by
  obtain ⟨u, hu⟩ : ∃ u, u = s.cleared (commandsIn es.zipIdx) := ⟨_, rfl⟩
  rw [s.fillSections_eq left es.zipIdx hu]
  have entries : u.sched.entries = s.sched.entries := hu ▸ s.cleared_entries _
  have put : Quiet u (u.setEntries (u.backOf (commandsIn es.zipIdx) ++ left)) := by
    refine .of_sched (State.setEntries_touches _ _) (.putBack _ ((u.backOf_sublist es).append_right left) ?_ ?_ ?_)
    all_goals rw [entries]
    · exact all
    · exact length
    · exact sorted
  have postponed : Quiet s (u.postpones left (commandsIn es.zipIdx)) :=
    (Quiet.trans (hu ▸ s.cleared_quiet _) put).trans ((State.moveEntries_quiet _ _).trans (State.bumpTimes_quiet _ _ _))
  refine (postponed.trans (Quiet.foldl State.itemSent_quiet
    (u.itemsFor (commandsIn es.zipIdx)).flatten _)).keeps.trans ?_
  rcases taking with none | taking
  · subst none; exact .refl _
  · refine State.sentAll_keeps _ _ ?_
    rw [State.itemsSent_time, (u.postpones_touches _ _).time rfl, hu, (s.cleared_touches _).time rfl]
    exact taking

/-- In the order of R124 the window stands before the rest. -/
theorem Ordered.window {l : List Entry} (h : Ordered l) (w : Nat) :
    l.filter (fun e => decide (e.onset ≤ w)) ++ l.filter (fun e => !decide (e.onset ≤ w)) = l := by
  induction l with
  | nil => rfl
  | cons e l ih =>
    obtain ⟨first, rest⟩ := List.pairwise_cons.1 h
    by_cases he : e.onset ≤ w
    · simp only [he, decide_true, List.filter_cons, if_true, Bool.not_true, Bool.false_eq_true, if_false,
        List.cons_append, ih rest]
    · have later : ∀ x ∈ l, ¬ x.onset ≤ w := by
        intro x hx
        have := (Entry.not_before_iff x e).1 (first x hx)
        omega
      have none : l.filter (fun e => decide (e.onset ≤ w)) = [] := by
        rw [List.filter_eq_nil_iff]; simpa using later
      have all : l.filter (fun e => !decide (e.onset ≤ w)) = l := by
        rw [List.filter_eq_self]; simpa using later
      simp [he, none, all]

theorem State.takeCommands_keeps (s : State) : Keeps s s.takeCommands.1 := by
  have held : ∀ u : State, Keeps u (u.fillSections u.sched.entries []).1 := fun u =>
    u.fillSections_keeps u.sched.entries [] (fun _ h => by simpa using h) (by simp) (fun o => by simpa using o) (.inl rfl)
  unfold State.takeCommands
  split
  · exact .refl s
  · exact .refl s
  · exact .refl s
  · exact held s
  · exact held s
  · split
    · next dispatches =>
      refine s.catchUp_quiet.keeps.trans (State.fillSections_keeps _ _ _ (fun e he => ?_) ?_ (fun o => ?_) (.inr ?_))
      · rcases List.mem_append.1 he with he | he <;> exact (List.mem_filter.1 he).1
      · have := List.length_eq_length_filter_add (l := s.catchUp.sched.entries) s.catchUp.inWindow
        rw [List.length_append]; omega
      · rw [show s.catchUp.inWindow = fun e => decide (e.onset ≤ s.catchUp.windowStart + 19) from rfl, o.window]
        exact o
      · rw [(s.catchUp_touches).time rfl]
        simp only [State.dispatches, Bool.and_eq_true, beq_iff_eq] at dispatches
        rw [dispatches.2]; decide
    · exact held s

end Sys2Proof.Machine
end

section
/-! PROOFS. What replay admission, the transport and the modes keep of the laws. -/

namespace Sys2Proof.Machine

/-! ### Frames sent -/

/-- What an entry offered to a section can be. -/
theorem State.mem_offered {s : State} {window : List (Entry × Nat)} {b : Nat} {i : Item} (h : i ∈ s.offered window b) :
    (∃ k, i = .offNow k) ∨ (∃ q, i = .rest q ∧ s.link.state = .driving) ∨
      ∃ x ∈ window, i = .entry x.2 x.1 ∧ s.stationFor x.1 = some b ∧
        (x.1.kind = .off ∨ x.1.kind = .attack ∨ x.1.kind = .hold ∨ x.1.kind = .pedalSet) := by
  have entry : ∀ kind, i ∈ s.windowItems window b kind →
      ∃ x ∈ window, i = .entry x.2 x.1 ∧ s.stationFor x.1 = some b ∧ x.1.kind = kind := by
    intro kind hi
    obtain ⟨x, hx, rfl⟩ := List.mem_map.1 hi
    obtain ⟨hw, hp⟩ := List.mem_filter.1 hx
    simp only [Bool.and_eq_true, beq_iff_eq] at hp
    exact ⟨x, hw, rfl, hp.2, hp.1⟩
  simp only [State.offered, List.mem_append] at h
  rcases h with ((((h | h) | h) | h) | h) | h
  · obtain ⟨k, -, rfl⟩ := List.mem_map.1 h
    exact .inl ⟨k, rfl⟩
  · unfold State.pendingRests at h
    split at h
    · next hd =>
      obtain ⟨q, -, rfl⟩ := List.mem_map.1 h
      exact .inr (.inl ⟨q, rfl, hd⟩)
    · cases h
  · obtain ⟨x, hx, hi, hs, hk⟩ := entry _ h
    exact .inr (.inr ⟨x, hx, hi, hs, .inl hk⟩)
  · obtain ⟨x, hx, hi, hs, hk⟩ := entry _ h
    exact .inr (.inr ⟨x, hx, hi, hs, .inr (.inl hk)⟩)
  · obtain ⟨x, hx, hi, hs, hk⟩ := entry _ h
    exact .inr (.inr ⟨x, hx, hi, hs, .inr (.inr (.inl hk))⟩)
  · obtain ⟨x, hx, hi, hs, hk⟩ := entry _ h
    exact .inr (.inr ⟨x, hx, hi, hs, .inr (.inr (.inr hk))⟩)

/-- A section carries a part of what its station's places hold. -/
theorem State.mem_itemsFor {u : State} {commands : List (Entry × Nat)} {l : List Item}
    (h : l ∈ u.itemsFor commands) : ∃ b ∈ allStations, l.Sublist (u.placed commands b) := by
  obtain ⟨l', hl', rfl⟩ := List.mem_map.1 h
  obtain ⟨b, hb, rfl⟩ := List.mem_map.1 hl'
  exact ⟨b, hb, List.filter_sublist⟩

theorem State.mem_itemsFor_item {u : State} {commands : List (Entry × Nat)} {l : List Item} {i : Item}
    (h : l ∈ u.itemsFor commands) (hi : i ∈ l) : ∃ b ∈ allStations, i ∈ u.offered commands b := by
  obtain ⟨b, hb, hl⟩ := State.mem_itemsFor h
  exact ⟨b, hb, List.mem_of_mem_take (hl.subset hi)⟩

/-- A frame has eight sections, or, in DOWN, none. -/
theorem State.length_takeCommands (s : State) (h : s.link.state ≠ .down) : s.takeCommands.2.length = 8 := by
  have filled : ∀ (u : State) left window, (u.fillSections left window).2.length = 8 := by
    intro u left window
    rw [u.fillSections_eq left window rfl]
    simp [State.itemsFor, State.placesFor, allStations]
  unfold State.takeCommands
  split
  · exact absurd ‹_› h
  · rfl
  · rfl
  · exact filled ..
  · exact filled ..
  · split <;> exact filled ..

/-- A section filled holds at most 24 commands; where no window is dispatched it holds immediate Offs and, in DRIVING, rests. -/
theorem State.mem_fillSections {s : State} {left : List Entry} {window : List (Entry × Nat)} {l : List Command}
    (h : l ∈ (s.fillSections left window).2) :
    l.length ≤ 24 ∧ ∀ c ∈ l, ∃ i b, c = i.command s.windowStart ∧
      i ∈ (s.cleared (commandsIn window)).offered (commandsIn window) b := by
  rw [s.fillSections_eq left window rfl] at h
  obtain ⟨items, hi, rfl⟩ := List.mem_map.1 h
  refine ⟨?_, fun c hc => ?_⟩
  · obtain ⟨b, -, hs⟩ := State.mem_itemsFor hi
    rw [List.length_map]
    exact hs.length_le.trans (List.length_take_le _ _)
  · obtain ⟨i, hi', rfl⟩ := List.mem_map.1 hc
    obtain ⟨b, -, ho⟩ := State.mem_itemsFor_item hi hi'
    exact ⟨i, b, rfl, ho⟩

theorem State.takeCommands_lawful (s : State) :
    (s.link.state ≠ .driving → onlyOffs s.takeCommands.2 = true) ∧ ∀ l ∈ s.takeCommands.2, l.length ≤ 24 := by
  have offs : ∀ u : State, u.link.state ≠ .driving → onlyOffs (u.fillSections u.sched.entries []).2 = true := by
    intro u hu
    simp only [onlyOffs, List.all_eq_true, beq_iff_eq]
    intro l hl c hc
    obtain ⟨i, b, rfl, hi⟩ := (State.mem_fillSections hl).2 c hc
    rcases State.mem_offered hi with ⟨k, rfl⟩ | ⟨q, -, hd⟩ | ⟨x, hx, -⟩
    · rfl
    · rw [(u.cleared_touches _).link rfl] at hd; exact absurd hd hu
    · simp [commandsIn] at hx
  have few : ∀ (u : State) left window, ∀ l ∈ (u.fillSections left window).2, l.length ≤ 24 :=
    fun u left window l hl => (State.mem_fillSections hl).1
  unfold State.takeCommands
  split
  · exact ⟨fun _ => rfl, fun l hl => nomatch hl⟩
  · exact ⟨fun _ => rfl, fun l hl => by rw [List.eq_of_mem_replicate hl]; exact Nat.zero_le _⟩
  · exact ⟨fun _ => rfl, fun l hl => by rw [List.eq_of_mem_replicate hl]; exact Nat.zero_le _⟩
  · next hs => exact ⟨offs s, few _ _ _⟩
  · next hs => exact ⟨offs s, few _ _ _⟩
  · next hs =>
    refine ⟨fun hn => absurd hs hn, ?_⟩
    split <;> exact few _ _ _

theorem State.buildFrame_keeps (s : State) : Keeps s s.buildFrame := by
  unfold State.buildFrame
  split
  · exact .refl s
  · refine s.takeCommands_keeps.trans (Keeps.frameOut (f := _) rfl s.takeCommands_lawful)

/-! ### Replay admission -/

/-- What an admission may do behind the intake: at most `n` entries more, its counts, and nothing else. -/
structure Admits (n : Nat) (s t : State) : Prop where
  blocks : Touches { sched := true, port := true } s t
  sched : s.sched.Grows n t.sched
  counters : s.countersBounded → t.countersBounded
  profile : t.port.profile = s.port.profile

theorem Quiet.admits {s t : State} (h : Quiet s t) (b : Touches { sched := true, port := true } s t) (n : Nat) :
    Admits n s t := ⟨b, h.sched.grows n, h.counters, h.profile⟩

theorem Admits.after {n : Nat} {s t u : State} (k : Admits n t u) (h : Quiet s t)
    (b : Touches { sched := true, port := true } s t) : Admits n s u :=
  ⟨b.seq k.blocks, h.sched.then k.sched, fun x => k.counters (h.counters x), k.profile.trans h.profile⟩

theorem State.placeComputed_admits (s : State) (k : Nat) (kind : EntryKind) (via : Via) (c : Computation)
    (h : kind = .attack ∨ kind = .hold) : Admits 2 s (s.placeComputed k kind via c) := by
  have counted := s.countComputation_quiet c
  unfold State.placeComputed
  dsimp only
  split
  · exact counted.admits ((s.countComputation_touches c).mono rfl) 2
  · have spaced := counted.trans (State.spaceNote_quiet _ k c.onset c.rearm)
    refine Admits.after ⟨(State.makeNote_touches _ _ _).mono rfl, State.makeNote_grows _ _ _ h, ?_, ?_⟩ spaced
      ((s.countComputation_touches c).via (Touches.refl _ s) rfl |>.seq ((State.spaceNote_touches _ _ _ _).mono rfl))
    · unfold State.countersBounded
      rw [(State.makeNote_touches _ _ _).port rfl]; exact id
    · rw [(State.makeNote_touches _ _ _).port rfl]

theorem State.admitStrike_admits (s : State) (r : EventRecord) (e : CacheEntry) (points : List Breakpoint) (sc : Scalars) :
    Admits 2 s (s.admitStrike r e points sc) := by
  unfold State.admitStrike
  split
  · exact (s.bump_quiet _).admits ((s.bump_touches _).mono rfl) 2
  · dsimp only
    split
    · exact s.placeComputed_admits _ _ _ _ (.inl rfl)
    · exact s.placeComputed_admits _ _ _ _ (.inr rfl)

/-- A note-free entry inserted by R124. -/
theorem State.insert_admits (s : State) (e : Entry) (h : e.note = none) :
    Admits 1 s (s.setEntries (insertEntry e s.sched.entries)) :=
  ⟨(s.setEntries_touches _).mono rfl, .insert s.sched e h, id, rfl⟩

theorem State.admitPedal_admits (s : State) (r : EventRecord) (e : CacheEntry) (points : List Breakpoint) :
    Admits 1 s (s.admitPedal r e points) := by
  unfold State.admitPedal
  dsimp only
  split
  · exact (Quiet.refl s).admits (.refl _ s) 1
  · refine Admits.after (State.insert_admits _ _ rfl)
      (((s.bumpIf_quiet _ _).trans (State.bumpIf_quiet _ _ _)).trans (State.bumpIf_quiet _ _ _)) ?_
    exact (((s.bumpIf_touches _ _).seq (State.bumpIf_touches _ _ _)).seq (State.bumpIf_touches _ _ _)).mono rfl

theorem State.admitMarker_admits (s : State) (r : EventRecord) : Admits 1 s (s.admitMarker r) := s.insert_admits _ rfl

theorem State.proceed_admits (s : State) (r : EventRecord) (e : CacheEntry) :
    Admits (recordNeeds r.kind) s (s.proceed r e) := by
  unfold State.proceed
  split
  · next hk _ _ => rw [hk]; exact s.admitStrike_admits ..
  · next hk _ _ => rw [hk]; exact s.admitStrike_admits ..
  · exact (s.admitRelease_quiet r e.target).admits (s.admitRelease_touches r e.target) _
  · next hk _ _ => rw [hk]; exact s.admitPedal_admits ..
  · next hk _ _ => rw [hk]; exact s.admitPedal_admits ..
  · exact (s.bump_quiet _).admits ((s.bump_touches _).mono rfl) _

/-- The head of the intake leaves it, and its admission keeps the laws. -/
theorem Keeps.proceeds {s t : State} {v : VoiceUnit} {r : EventRecord} {rest : List EventRecord}
    (hi : s.intake = r :: rest)
    (may : s.voices.walk.isSome = true ∨ s.time.transport = .running ∧ recordNeeds r.kind ≤ s.freeEntries)
    (hv : s.cacheLawful → State.cacheLawful { s with voices := v }) (hw : v.walk = none)
    (h : Admits (recordNeeds r.kind) { s with voices := v, intake := rest } t) : Keeps s t := by
  have e : t = { s with sched := t.sched, voices := v, intake := rest, port := t.port } := h.blocks.eq
  refine (Keeps.admission hi may h.sched hv hw).trans ?_
  rw [e]
  exact ((Quiet.refl { s with sched := t.sched, voices := v, intake := rest }).on_port (x := t.port)
    h.counters h.profile).keeps

theorem State.admitHead_keeps (s : State) {r : EventRecord} {rest : List EventRecord} (hi : s.intake = r :: rest)
    (ha : s.admissible r = true) : Keeps s (s.admitHead r) := by
  simp only [State.admissible, Bool.and_eq_true, beq_iff_eq, decide_eq_true_eq, Option.isNone_iff_eq_none] at ha
  obtain ⟨⟨⟨running, walk⟩, -⟩, room⟩ := ha
  have pop : s.popIntake = { s with intake := rest } := by unfold State.popIntake; rw [hi]; rfl
  have marker : recordNeeds r.kind = 1 → Keeps s (s.popIntake.admitMarker r) := by
    intro one
    rw [pop]
    exact Keeps.proceeds (v := s.voices) hi (.inr ⟨running, room⟩) id walk (one ▸ State.admitMarker_admits _ r)
  have other : Keeps s (
      if r.voice = 0 ∨ 127 < r.voice then s.popIntake.bump .voiceAbsent
      else match s.voices.find r.voice with
        | some e => ((s.touch e).popIntake).proceed r e
        | none => { s with voices := { s.voices with
            walk := some { voice := r.voice, set := s.voices.activeSet, descriptor := none, page := none } } }) := by
    split
    · rw [pop]
      exact (((Quiet.refl s).on_intake walk (by simp [hi])).trans (State.bump_quiet _ _)).keeps
    · split
      · next e he =>
        have touched : (s.touch e).popIntake = { s.touch e with intake := rest } := by
          unfold State.popIntake; rw [show (s.touch e).intake = r :: rest from hi]; rfl
        rw [touched]
        exact (s.touch_quiet he).keeps.trans (Keeps.proceeds (s := s.touch e) (v := (s.touch e).voices) hi
          (.inr ⟨running, room⟩) id walk (State.proceed_admits _ r e))
      · next he =>
        refine Keeps.look hi running room (fun e hm => ?_)
        have := List.find?_eq_none.1 he e hm
        simpa using this
  unfold State.admitHead
  split
  · next hk => exact marker (by rw [hk]; rfl)
  · next hk => exact marker (by rw [hk]; rfl)
  · exact other

theorem State.testHead_keeps (s : State) : Keeps s s.testHead := by
  unfold State.testHead
  split
  · exact .refl s
  · next r rest hi =>
    split
    · next ha => exact s.admitHead_keeps hi ha
    · exact .refl s

/-- The cache with a walk's entry filled in keeps its law (R96, R99). -/
theorem State.cacheLawful_insert {s : State} (h : s.cacheLawful) {w : Walk} (hw : s.voices.walk = some w) {e : CacheEntry}
    (he : e.voice = w.voice) :
    State.cacheLawful { s with voices := { s.voices with entries := insertCache e s.voices.entries, walk := none } } := by
  obtain ⟨size, apart, walk⟩ := h
  have kept : (if s.voices.entries.length < 16 then s.voices.entries else s.voices.entries.dropLast).Sublist
      s.voices.entries := by
    split
    · exact List.Sublist.refl _
    · exact List.dropLast_sublist _
  refine ⟨?_, List.pairwise_cons.2 ⟨fun x hx => ?_, apart.sublist kept⟩, fun _ h => nomatch h⟩
  · show (insertCache e s.voices.entries).length ≤ 16
    unfold insertCache
    split <;> simp <;> omega
  · rw [he]; exact (walk w hw x (kept.subset hx)).symm

theorem descriptorValid_accessed {d : VoiceDescriptor} (h : descriptorValid d = true) :
    descriptorValid { d with accessed := true } = true := h

theorem State.walkEnd_keeps (s : State) : Keeps s s.walkEnd := by
  unfold State.walkEnd
  split
  · exact .refl s
  next w hw =>
  split
  · exact .refl s
  next d _ =>
  split
  · exact s.walkAbsent_quiet.keeps
  split
  · exact s.walkAbsent_quiet.keeps
  next p _ =>
  split
  swap
  · exact s.walkAbsent_quiet.keeps
  dsimp only
  set e : CacheEntry :=
    { voice := w.voice, set := w.set, kind := d.kind, target := d.target, slot := d.page, trim := d.trim, page := p }
  set v : VoiceUnit := { s.voices with entries := insertCache e s.voices.entries, walk := none } with hv
  have marked : State.modDescriptor { s with voices := v } w.set w.voice (fun d => { d with accessed := true }) =
      { s.modDescriptor w.set w.voice (fun d => { d with accessed := true }) with voices := v } := by
    unfold State.modDescriptor
    cases s.mem.descriptor w.set w.voice <;> rfl
  have quiet := s.modDescriptor_quiet w.set w.voice (fun d => { d with accessed := true }) (fun _ => descriptorValid_accessed)
  have touches := s.modDescriptor_touches w.set w.voice (fun d => { d with accessed := true })
  have walk : (s.modDescriptor w.set w.voice (fun d => { d with accessed := true })).voices = s.voices := touches.voices rfl
  rw [marked]
  generalize s.modDescriptor w.set w.voice (fun d => { d with accessed := true }) = u at *
  have filled : u.cacheLawful → State.cacheLawful { u with voices := v } := fun h => by
    have := State.cacheLawful_insert h (walk ▸ hw) (e := e) rfl
    rw [walk] at this
    exact this
  split
  · exact (quiet.on_voices filled (by simp [hv])).keeps
  · next r rest hi =>
    have hi' : u.intake = r :: rest := (touches.intake rfl).trans hi
    have pop : State.popIntake { u with voices := v } = { u with voices := v, intake := rest } := by
      unfold State.popIntake
      rw [show State.intake { u with voices := v } = r :: rest from hi']; rfl
    rw [pop]
    exact quiet.keeps.trans (Keeps.proceeds hi' (.inl (by rw [walk, hw]; rfl)) filled rfl (State.proceed_admits _ r e))

/-! ### The clock and the modes -/

/-- A tick of the cycle, or the next cycle: the counters stay in range (R1, R2). -/
theorem Keeps.count {s : State} {x : TimeBase} (hl : x.linkCycle < cycleModulus) (ht : x.tick < 20)
    (hb : x.takeBase = s.time.takeBase) (hr : x.transport = s.time.transport) (hp : x.pauseStart = s.time.pauseStart)
    (hm : x.mode = s.time.mode) : Keeps s { s with time := x } := by
  have same : s.restLawful → State.restLawful { s with time := x } := by
    unfold State.restLawful
    dsimp only
    rw [hr, hm]; exact id
  refine .time (fun c l => ⟨⟨hl, ht, ?_⟩, fun b => ?_, same l.2⟩) (fun c => ?_)
  · dsimp only
    rw [hb, hr, hp, hm]; exact c.2.2
  · exact hm.trans (l.1 b)
  · unfold State.capacityLawful
    dsimp only
    rw [hm]; exact c

theorem State.advanceCycle_keeps (s : State) : Keeps s s.advanceCycle := by
  have counted : Keeps s { s with time := { s.time with
      linkCycle := (s.time.linkCycle + 1) % cycleModulus, tick := 0,
      linkLeft := if s.time.linkLeft = .none then .none else .due } } :=
    .count (Nat.mod_lt _ (by decide)) (by simp) rfl rfl rfl rfl
  have marked := ((Quiet.refl { s with time := { s.time with
      linkCycle := (s.time.linkCycle + 1) % cycleModulus, tick := 0,
      linkLeft := if s.time.linkLeft = .none then .none else .due } }).on_link
    (x := { s.link with recovery := s.link.recovery.map (fun r => { r with cycles := r.cycles + 1 }) }) rfl).on_calib
    (x := { s.calib with testDue := true }) id le_rfl
  exact counted.trans marked.keeps

/-- The tick in the cycle moved on within it. -/
theorem Keeps.tick {s : State} {n : Nat} (h : s.time.tick < 20 → n < 20) :
    Keeps s (s.setTime { s.time with tick := n }) :=
  .time (fun c l => ⟨⟨c.1, h c.2.1, c.2.2⟩, l⟩) id

theorem State.passTick_keeps (s : State) : Keeps s s.passTick := .tick (fun _ => by omega)

theorem State.releaseExpiry_keeps (s : State) (k : Nat) : Keeps s (s.releaseExpiry k) := by
  unfold State.releaseExpiry
  split
  · exact .refl s
  · split
    · exact (Keeps.tick (fun h => by omega)).trans (State.redecide_quiet _ k).keeps
    · exact .refl s

/-- A take that stands, runs or is paused in the same mode: only the transport and what follows it change (R5, R6, R9). -/
theorem Keeps.transport {s : State} {x : TimeBase} (hl : x.linkCycle = s.time.linkCycle) (ht : x.tick = s.time.tick)
    (hm : x.mode = s.time.mode) (take : s.clockLawful → x.takeBase.isSome = true ∧ x.transport ≠ .stopped)
    (pause : x.pauseStart.isSome = true ↔ x.transport = .paused) (mode : s.clockLawful → s.time.mode ≠ .idle) :
    Keeps s { s with time := x } := by
  refine .time (fun c l => ?_) (fun c => ?_)
  · obtain ⟨store, idle, empty, intake, current⟩ := l
    obtain ⟨base, running⟩ := take c
    have stays : ∀ {p : Prop}, x.mode = .idle → p := fun h => absurd (hm.symm.trans h) (mode c)
    refine ⟨⟨hl ▸ c.1, ht ▸ c.2.1, ⟨fun _ => running, fun _ => base⟩, pause, stays⟩, fun b => hm.trans (store b), stays,
      fun hn => empty ?_, fun hr => intake (hm ▸ hr), fun hc => hm.trans (current hc)⟩
    rcases hn with hn | hn
    · exact .inl (hm ▸ hn)
    · exact absurd hn running
  · unfold State.capacityLawful
    dsimp only
    rw [hm]; exact c

theorem State.clockLawful.active {s : State} (c : s.clockLawful) (h : s.time.transport ≠ .stopped) :
    s.time.takeBase.isSome = true ∧ s.time.mode ≠ .idle := by
  obtain ⟨-, -, base, -, idle⟩ := c
  exact ⟨base.2 h, fun hm => h (idle hm)⟩

theorem State.pauseTake_keeps (s : State) (h : s.time.transport = .running) : Keeps s s.pauseTake := by
  have taking : s.time.transport ≠ .stopped := by rw [h]; decide
  have paused : Keeps s { s with time := { s.time with transport := .paused, pauseStart := some s.startTick } } :=
    .transport rfl rfl rfl (fun c => ⟨(c.active taking).1, by simp⟩) (by simp) (fun c => (c.active taking).2)
  exact paused.trans ((State.pauseSchedule_quiet _).trans (State.clearWindows_quiet _)).keeps

theorem State.resumeTake_keeps (s : State) (h : s.time.transport = .paused) : Keeps s s.resumeTake := by
  have taking : s.time.transport ≠ .stopped := by rw [h]; decide
  have time : (s.resumeSchedule s.pausedFor).time = s.time := (s.resumeSchedule_touches _).time rfl
  refine (s.resumeSchedule_quiet s.pausedFor).keeps.trans (.transport rfl rfl rfl (fun c => ?_) (by simp) (fun c => ?_))
  · exact ⟨(c.active (by rw [time]; exact taking)).1, by simp⟩
  · exact (c.active (by rw [time]; exact taking)).2

theorem State.beginTake_keeps (s : State) (preroll : Nat) (h : s.mayStart = true) : Keeps s (s.beginTake preroll) := by
  simp only [State.mayStart, Bool.and_eq_true, beq_iff_eq, bne_iff_ne] at h
  have begun : Keeps s (s.setTime { s.time with
      takeBase := some s.time.linkCycle, shift := 0, preroll := preroll, pauseStart := none, endTick := none,
      transport := .running }) :=
    .transport rfl rfl rfl (fun _ => ⟨rfl, by simp⟩) (by simp) (fun _ => h.1.2)
  have cleared := (State.startTracker_quiet (s.setTime { s.time with
      takeBase := some s.time.linkCycle, shift := 0, preroll := preroll, pauseStart := none, endTick := none,
      transport := .running })).trans (State.startSchedule_quiet _)
  refine begun.trans (cleared.trans ?_).keeps
  exact .ite (fun _ => State.openTake_quiet _) (fun _ => .refl _)

/-! ### Stop -/

theorem State.stopDrive_quiet (s : State) : Quiet s s.stopDrive := by
  have aborted : Quiet s (if s.time.mode = .calibrate then s.abortJobs .stop else s) :=
    .ite (fun _ => s.abortJobs_quiet _) (fun _ => .refl s)
  unfold State.stopDrive
  dsimp only
  generalize (if s.time.mode = .calibrate then s.abortJobs .stop else s) = t at aborted
  split
  · exact ((aborted.trans (State.emptyIntake_quiet _)).trans (State.stopSchedule_quiet _)).trans (State.clearWindows_quiet _)
  · exact aborted

/-- No job is current behind an abort (R166). -/
theorem State.abortJobs_current (s : State) (cause : AbortCause) : (s.abortJobs cause).calib.current = none := by
  rcases s.abortJobs_cases cause with ⟨h, -, e⟩ | ⟨-, h⟩
  · rw [e]; exact h
  · exact h

theorem State.stopKey_entries (s : State) (k : Nat) : (s.stopKey k).sched.entries = s.sched.entries := by
  unfold State.stopKey
  simp

theorem State.stopSchedule_entries (s : State) : s.stopSchedule.sched.entries = [] := by
  unfold State.stopSchedule
  dsimp only
  rw [foldl_entries State.stopKey_entries]
  rfl

/-- What the Stop's clearing leaves of what a take holds: nothing in the modes that drive, no job in Calibrate (R10). -/
theorem State.stopDrive_clears (s : State) :
    (s.time.mode.drives = true → s.stopDrive.sched.entries = [] ∧
      s.stopDrive.duplex.windows = Vector.replicate 97 none ∧ s.stopDrive.voices.walk = none ∧ s.stopDrive.intake = []) ∧
    (s.time.mode = .calibrate → s.stopDrive.calib.current = none) := by
  refine ⟨fun drives => ?_, fun mode => ?_⟩
  · unfold State.stopDrive
    simp only [drives, if_true]
    refine ⟨?_, rfl, ?_, ?_⟩
    · rw [(State.clearWindows_touches _).sched rfl]; exact State.stopSchedule_entries _
    · rw [(State.clearWindows_touches _).voices rfl, (State.stopSchedule_touches _).voices rfl]; rfl
    · rw [(State.clearWindows_touches _).intake rfl, (State.stopSchedule_touches _).intake rfl]; rfl
  · unfold State.stopDrive
    have drives : s.time.mode.drives = true := by rw [mode]; rfl
    simp only [drives, if_true, if_pos mode]
    rw [(State.clearWindows_touches _).calib rfl, (State.stopSchedule_touches _).calib rfl,
      (State.emptyIntake_touches _).calib rfl]
    exact s.abortJobs_current _

/-- The transport Stopped in the same mode, nothing of the take left (R10). -/
theorem Keeps.stop {s : State} {x : TimeBase} (hl : x.linkCycle = s.time.linkCycle) (ht : x.tick = s.time.tick)
    (hm : x.mode = s.time.mode) (hb : x.takeBase = none) (hp : x.pauseStart = none) (hs : x.transport = .stopped)
    (drives : s.time.mode.drives = true → s.sched.entries = [] ∧ s.duplex.windows = Vector.replicate 97 none ∧
      s.voices.walk = none)
    (job : s.time.mode = .calibrate → s.calib.current = none) : Keeps s { s with time := x } := by
  refine .time (fun c l => ?_) (fun c => ?_)
  · obtain ⟨store, idle, empty, intake, current⟩ := l
    refine ⟨⟨hl ▸ c.1, ht ▸ c.2.1, by simp [hb, hs], by simp [hp, hs], fun _ => hs⟩, fun b => hm.trans (store b),
      fun _ => hs, fun _ => ?_, fun hr => intake (hm ▸ hr), fun hc => hm.trans (current hc)⟩
    have none : s.calib.current = none := by
      by_contra hc
      have := current (Option.isSome_iff_ne_none.2 hc)
      exact hc (job this)
    by_cases hd : s.time.mode.drives = true
    · obtain ⟨entries, windows, walk⟩ := drives hd
      exact ⟨entries, windows, walk, none⟩
    · exact empty (.inl (by simpa using hd))
  · unfold State.capacityLawful
    dsimp only
    rw [hm]; exact c

theorem State.stopDrive_time (s : State) : s.stopDrive.time = s.time := (s.stopDrive_touches).time rfl

/-- The flush of a Stop in Capture and Duplex (R82). -/
theorem State.stopFlush_quiet (s : State) (cause : StopCause) :
    Quiet s (if s.captureMode then s.flush cause else s) := .ite (fun _ => s.flush_quiet cause) (fun _ => .refl s)

theorem State.stopFlush_touches (s : State) (cause : StopCause) :
    Touches { capture := true, port := true } s (if s.captureMode then s.flush cause else s) :=
  .ite (fun _ => s.flush_touches cause) (fun _ => .refl _ s)

theorem State.stopTake_keeps (s : State) (cause : StopCause) : Keeps s (s.stopTake cause) := by
  obtain ⟨drives, job⟩ := s.stopDrive_clears
  have touches := s.stopDrive.stopFlush_touches cause
  refine (s.stopDrive_quiet.trans (s.stopDrive.stopFlush_quiet cause)).keeps.trans
    (.stop rfl rfl rfl rfl rfl rfl (fun hd => ?_) (fun hm => ?_))
  · rw [touches.time rfl, s.stopDrive_time] at hd
    obtain ⟨entries, windows, walk, -⟩ := drives hd
    rw [touches.sched rfl, touches.duplex rfl, touches.voices rfl]
    exact ⟨entries, windows, walk⟩
  · rw [touches.time rfl, s.stopDrive_time] at hm
    rw [touches.calib rfl]
    exact job hm

theorem State.stopGap_quiet (s : State) : Quiet s s.stopGap := (Quiet.refl s).on_link rfl

/-! ### The transport requests -/

theorem State.unlessRestoring_keeps (s : State) (tag : Byte) (code : Nat) {owner : State → State}
    (h : s.restoring = false → Keeps s (owner s)) : Keeps s (s.unlessRestoring tag code owner) := by
  rcases s.unlessRestoring_cases tag code owner with ⟨-, e⟩ | ⟨hr, e⟩ <;> rw [e]
  · exact (s.reply_quiet ..).keeps
  · exact h hr

theorem State.unlessStoring_keeps (s : State) (tag : Byte) (code : Nat) {owner : State → State}
    (h : s.storeBusy = false → Keeps s (owner s)) : Keeps s (s.unlessStoring tag code owner) := by
  rcases s.unlessStoring_cases tag code owner with ⟨-, e⟩ | ⟨hr, e⟩ <;> rw [e]
  · exact (s.reply_quiet ..).keeps
  · exact h hr

theorem State.judged_keeps (s : State) (tag : Byte) (code : Nat) (failure : Option Nat) {done : State → State}
    (h : failure = none → Keeps s (done s)) : Keeps s (s.judged tag code failure done) := by
  rcases s.judged_cases tag code failure done with ⟨_, -, e⟩ | ⟨hf, e⟩ <;> rw [e]
  · exact (s.reply_quiet ..).keeps
  · exact h hf

theorem Keeps.ite {s t u : State} {p : Prop} [Decidable p] (h : p → Keeps s t) (k : ¬p → Keeps s u) :
    Keeps s (if p then t else u) := by
  split
  · exact h ‹_›
  · exact k ‹_›

theorem Keeps.reply {s t : State} (h : Keeps s t) (tag : Byte) (code : Nat) (r : Result) (d : ReplyData) :
    Keeps s (t.reply tag code r d) := h.trans (t.reply_quiet tag code r d).keeps

theorem Keeps.report {s t : State} (h : Keeps s t) (r : Report) : Keeps s (t.report r) :=
  h.trans (t.report_quiet r).keeps

theorem State.reply_time (s : State) (tag : Byte) (code : Nat) (r : Result) (d : ReplyData) :
    (s.reply tag code r d).time = s.time := (s.reply_touches tag code r d).time rfl

theorem State.transportStart_keeps (s : State) (tag : Byte) (preroll : Nat) : Keeps s (s.transportStart tag preroll) :=
  s.unlessRestoring_keeps tag 2 (fun _ => .ite (fun h => (s.beginTake_keeps preroll h).reply ..)
    (fun _ => (Keeps.refl s).reply ..))

theorem State.transportPause_keeps (s : State) (tag : Byte) : Keeps s (s.transportPause tag) :=
  s.unlessRestoring_keeps tag 3 (fun _ => .ite
    (fun h => (((Keeps.refl s).reply ..).trans (State.pauseTake_keeps _ (by rw [s.reply_time]; exact h.1))).report _)
    (fun _ => (Keeps.refl s).reply ..))

theorem State.transportResume_keeps (s : State) (tag : Byte) : Keeps s (s.transportResume tag) :=
  s.unlessRestoring_keeps tag 4 (fun _ => .ite
    (fun h => (((Keeps.refl s).reply ..).trans (State.resumeTake_keeps _ (by rw [s.reply_time]; exact h.1))).report _)
    (fun _ => (Keeps.refl s).reply ..))

theorem State.transportStop_keeps (s : State) (tag : Byte) : Keeps s (s.transportStop tag) :=
  s.unlessRestoring_keeps tag 5 (fun _ => .ite
    (fun _ => (((Keeps.refl s).reply ..).trans (State.stopTake_keeps _ _)).trans (State.stopGap_quiet _).keeps)
    (fun _ => (Keeps.refl s).reply ..))

theorem State.setCue_quiet (s : State) (cue : Option Nat) : Quiet s (s.setTime { s.time with cue := cue }) :=
  (Quiet.refl s).on_time ⟨rfl, rfl, rfl, rfl, rfl, rfl⟩

theorem State.takeCue_keeps (s : State) (tag : Byte) (presence tick : Nat) : Keeps s (s.takeCue tag presence tick) :=
  s.unlessRestoring_keeps tag 6 (fun _ => .ite (fun _ => (s.setCue_quiet _).keeps.reply ..) (fun _ =>
    .ite (fun _ => (Keeps.refl s).reply ..) (fun _ => .ite (fun _ => (Keeps.refl s).reply ..)
      (fun _ => (s.setCue_quiet _).keeps.reply ..))))

/-! ### SetMode -/

theorem State.leaveIdle_keeps (s : State) (m : Mode) (hm : s.time.mode = .idle) (hb : s.storeBusy = false) :
    Keeps s (s.leaveIdle m) := by
  have entered : Keeps s (s.setTime { s.time with mode := m }) := by
    refine .time (fun c l => ?_) (fun c => ?_)
    · obtain ⟨cycle, tick, base, pause, idle⟩ := c
      obtain ⟨-, stopped, empty, intake, current⟩ := l
      have nothing := empty (.inr (stopped hm))
      exact ⟨⟨cycle, tick, base, pause, fun _ => idle hm⟩, fun b => absurd (hb.symm.trans b) (by decide),
        fun _ => stopped hm, fun _ => nothing, fun _ => intake (by rw [hm]; rfl),
        fun hc => absurd (show s.calib.current.isSome = true from hc) (by simp [nothing.2.2.2])⟩
    · obtain ⟨size, entries, queue, replays, calibrate, room⟩ := c
      rw [hm] at replays calibrate
      exact ⟨size, entries, queue, fun h => absurd (replays h) (by decide), fun h => absurd (calibrate h) (by decide), room⟩
  exact entered.trans (State.startTimer_quiet _).keeps

/-- The mode Idle entered from a Stopped transport, with no record and no job left (R14). -/
theorem Keeps.idle {s : State} (ht : s.time.transport = .stopped) (hi : s.time.mode.replays = true → s.intake = [])
    (hc : s.time.mode = .calibrate → s.calib.current = none) : Keeps s (s.setTime { s.time with mode := .idle }) := by
  refine .time (fun c l => ?_) (fun c => ?_)
  · obtain ⟨cycle, tick, base, pause, -⟩ := c
    obtain ⟨-, -, empty, intake, -⟩ := l
    have nothing := empty (.inr ht)
    refine ⟨⟨cycle, tick, base, pause, fun _ => ht⟩, fun _ => rfl, fun _ => ht, fun _ => nothing, fun _ => ?_,
      fun h => absurd (show s.calib.current.isSome = true from h) (by simp [nothing.2.2.2])⟩
    by_cases hr : s.time.mode.replays = true
    · exact hi hr
    · exact intake (by simpa using hr)
  · obtain ⟨size, entries, queue, replays, calibrate, room⟩ := c
    exact ⟨size, entries, queue, fun h => absurd (hi (replays h)) h,
      fun h => absurd (hc (calibrate h)) (Option.isSome_iff_ne_none.1 h), room⟩

theorem State.stopTake_time (s : State) (cause : StopCause) :
    (s.stopTake cause).time = s.time.stopped := by
  unfold State.stopTake
  rw [State.setTime_time, (s.stopDrive.stopFlush_touches cause).time rfl, s.stopDrive_time]
  rfl

theorem State.abortJobs_time (s : State) (cause : AbortCause) : (s.abortJobs cause).time = s.time :=
  (s.abortJobs_touches cause).time rfl

theorem State.stopTake_current (s : State) (cause : StopCause) (h : s.calib.current = none) :
    (s.stopTake cause).calib.current = none := by
  refine eq_none_of_isSome_imp (fun x => s.stopDrive_quiet.current ?_) h
  rw [← ((s.stopDrive.stopFlush_touches cause).calib rfl)]
  exact x

theorem State.emptyIntake_time (s : State) : s.emptyIntake.time = s.time := rfl

theorem Mode.replays_iff (m : Mode) : m.replays = true ↔ m = .replay ∨ m = .duplex := by
  cases m <;> simp [Mode.replays]

theorem State.enterIdle_keeps (s : State) : Keeps s s.enterIdle := by
  unfold State.enterIdle
  obtain ⟨s1, h1⟩ : ∃ u, u = if s.time.mode = .calibrate then s.abortJobs .modeIdle else s := ⟨_, rfl⟩
  obtain ⟨s2, h2⟩ : ∃ u, u = if s1.taking then s1.stopTake .modeIdle else s1 := ⟨_, rfl⟩
  obtain ⟨s3, h3⟩ : ∃ u, u = if s.time.mode = .replay ∨ s.time.mode = .duplex then s2.emptyIntake else s2 := ⟨_, rfl⟩
  simp only [← h1, ← h2, ← h3]
  have keep1 : Keeps s s1 := by
    rw [h1]; exact (Quiet.ite (fun _ => s.abortJobs_quiet _) (fun _ => .refl s)).keeps
  have keep2 : Keeps s1 s2 := by
    rw [h2]; exact .ite (fun _ => s1.stopTake_keeps _) (fun _ => .refl s1)
  have keep3 : Keeps s2 s3 := by
    rw [h3]; exact (Quiet.ite (fun _ => s2.emptyIntake_quiet) (fun _ => .refl s2)).keeps
  have time1 : s1.time = s.time := by
    rw [h1]; split
    · exact s.abortJobs_time _
    · rfl
  have mode2 : s2.time.mode = s.time.mode ∧ s2.time.transport = .stopped := by
    rw [h2]; split
    · rw [s1.stopTake_time, ← time1]; exact ⟨rfl, rfl⟩
    · next ht =>
      refine ⟨by rw [time1], ?_⟩
      simpa [State.taking] using ht
  have time3 : s3.time = s2.time := by rw [h3]; split <;> rfl
  have idle : Keeps s3 (s3.setTime { s3.time with mode := .idle }) := by
    refine .idle (by rw [time3]; exact mode2.2) (fun hr => ?_) (fun hm => ?_)
    · rw [time3, mode2.1, Mode.replays_iff] at hr
      rw [h3, if_pos hr]; rfl
    · rw [time3, mode2.1] at hm
      have none1 : s1.calib.current = none := by rw [h1, if_pos hm]; exact s.abortJobs_current _
      have none2 : s2.calib.current = none := by
        rw [h2]; split
        · exact s1.stopTake_current _ none1
        · exact none1
      rw [h3]; split <;> exact none2
  refine (((keep1.trans keep2).trans keep3).trans idle).trans (Quiet.trans ?_ (State.stopGap_quiet _)).keeps
  exact (Quiet.refl _).on_port id rfl

theorem modeCode_one_iff (m : Mode) : m.code = 1 ↔ m = .idle := by cases m <;> decide

theorem State.takeMode_keeps (s : State) (tag : Byte) (code : Nat) : Keeps s (s.takeMode tag code) := by
  refine s.unlessRestoring_keeps tag 1 (fun hr => ?_)
  split
  · exact (Keeps.refl s).reply ..
  next hs =>
  split
  · exact (Keeps.refl s).reply ..
  split
  · exact s.enterIdle_keeps.reply ..
  next h1 =>
  split
  · exact (Keeps.refl s).reply ..
  next hm =>
  split
  · exact (Keeps.refl s).reply ..
  · refine (s.leaveIdle_keeps _ (by simpa using hm) ?_).reply ..
    have saving : s.saving = false := by simpa [h1] using hs
    simp [State.storeBusy, hr, saving]

/-! ### What comes at a cycle start -/

theorem State.linkLeftPause_keeps (s : State) : Keeps s s.linkLeftPause := by
  have taken : Keeps s (s.setTime { s.time with linkLeft := .none }) :=
    ((Quiet.refl s).on_time (x := { s.time with linkLeft := .none }) ⟨rfl, rfl, rfl, rfl, rfl, rfl⟩).keeps
  exact .ite (fun _ => .ite (fun h => (taken.trans (State.pauseTake_keeps _ h)).report _) (fun _ => taken))
    (fun _ => .refl s)

theorem State.reachCue_keeps (s : State) : Keeps s s.reachCue := by
  unfold State.reachCue
  split
  · exact .refl s
  · have reached := (s.setCue_quiet none).keeps
    exact .ite (fun h => (reached.trans (State.pauseTake_keeps _ h.1)).report _) (fun _ => reached)

theorem State.reachEnd_keeps (s : State) : Keeps s s.reachEnd := by
  unfold State.reachEnd
  split
  · exact .refl s
  · exact .ite (fun _ => ((Keeps.refl s).report _).trans (State.stopTake_keeps _ _)) (fun _ => .refl s)

theorem State.reachClockEnd_keeps (s : State) : Keeps s s.reachClockEnd :=
  .ite (fun _ => s.stopTake_keeps _) (fun _ => .refl s)

theorem State.expireWindow_keeps (s : State) (k : Nat) : Keeps s (s.expireWindow k) := by
  unfold State.expireWindow
  split
  · exact .refl s
  · split
    · split
      · exact (s.missed_quiet ..).keeps
      · exact s.noCrossing_keeps k
    · exact .refl s

theorem State.takeTimed_keeps (s : State) (r : Byte × Request) : Keeps s (s.takeTimed r) := by
  unfold State.takeTimed
  split
  · exact s.takeMode_keeps _ _
  · exact s.transportStart_keeps _ _
  · exact s.transportPause_keeps _
  · exact s.transportResume_keeps _
  · exact s.transportStop_keeps _
  · exact s.takeCue_keeps _ _ _
  · exact .refl s

theorem State.setWaiting_quiet (s : State) (l : List (Byte × Request)) :
    Quiet s (s.setTime { s.time with waiting := l }) := (Quiet.refl s).on_time ⟨rfl, rfl, rfl, rfl, rfl, rfl⟩

theorem State.takeNext_keeps (s : State) : Keeps s s.takeNext := by
  unfold State.takeNext
  split
  · exact .refl s
  · exact (s.setWaiting_quiet _).keeps.trans (State.takeTimed_keeps _ _)

theorem State.startAction_keeps (s : State) (a : StartAction) : Keeps s (s.startAction a) := by
  cases a
  case frame => exact s.linkLeftPause_keeps.trans (State.buildFrame_keeps _)
  case request => exact s.takeNext_keeps
  case release => exact s.captureRelease_quiet.keeps
  case retry => exact s.retryStrike_keeps
  case pauseLinkLeft => exact s.linkLeftPause_keeps
  case cueReached => exact s.reachCue_keeps
  case endTick => exact s.reachEnd_keeps
  case clockEnd => exact s.reachClockEnd_keeps
  case windowExpiry k => exact s.expireWindow_keeps k
  case jobStart => exact s.startJob_keeps
  case recoveryLimit => exact s.expireRecovery_quiet.keeps
  case admitRecord => exact s.testHead_keeps
  case walkRead => exact s.walkRead_quiet.keeps
  case walkEnd => exact s.walkEnd_keeps

theorem State.cycleStart_keeps (s : State) (order : List StartAction) : Keeps s (s.cycleStart order) :=
  ((s.advanceCycle_keeps.trans (Keeps.foldl State.startAction_keeps (s.startActs order) _)).trans
    (State.setWaiting_quiet _ _).keeps).trans (Keeps.foldl State.takeTimed_keeps _ _)

end Sys2Proof.Machine
end

section
/-! PROOFS. What the Calibration Store, the requests, the Score Port and the resets keep of the laws, and every command by its
operation: the laws of the part are kept by every step. -/

namespace Sys2Proof.Machine

/-! ### Table Memory's law -/

/-- A chain of tests fails nothing where its first test does not and its rest does not. -/
theorem ite_some_eq_none {α : Type} {p : Prop} [Decidable p] {a : α} {o : Option α} :
    (if p then some a else o) = none ↔ ¬p ∧ o = none := by
  by_cases hp : p <;> simp [hp]

theorem descriptorFailure_none {set voice : Nat} {f : RawDescriptor} (h : descriptorFailure set voice f = none) :
    descriptorValid (RawDescriptor.descriptor f) = true := by
  obtain ⟨-, h⟩ := Option.or_eq_none_iff.1 h
  cases hk : voiceKindOf f.kind with
  | none => rw [hk] at h; cases h
  | some k =>
    simp only [hk, ite_some_eq_none] at h
    obtain ⟨target, page, trim, -⟩ := h
    simp only [descriptorValid, RawDescriptor.descriptor, hk, Option.getD_some, Bool.and_eq_true, decide_eq_true_eq]
    omega

theorem TableMemory.lawful.setSense {m : TableMemory} (h : m.lawful) {type number first second third : Nat}
    (hw : keySenseWriteFailure type number first second third = none) :
    (m.setSense type number first second third).lawful := by
  obtain ⟨sets, pages, keys, pedals⟩ := h
  obtain ⟨-, hw⟩ := Option.or_eq_none_iff.1 hw
  unfold TableMemory.setSense
  split
  · next ht =>
    rw [if_pos ht] at hw
    refine ⟨sets, pages, fun i => ?_, pedals⟩
    rw [getElem_setNth]
    split
    · exact hw
    · exact keys i
  · next ht =>
    rw [if_neg ht] at hw
    refine ⟨sets, pages, keys, fun i => ?_⟩
    rw [getElem_setNth]
    split
    · exact hw
    · exact pedals i

/-- A content judged good loads into a lawful Table Memory (R181, R184). -/
theorem TableMemory.lawful.load {m : TableMemory} (h : m.lawful) {b : Nat} {c : BlockContent}
    (hc : contentValid b c = true) : (m.load b c).lawful := by
  obtain ⟨sets, pages, keys, pedals⟩ := h
  cases c with
  | voicing set =>
    simp only [contentValid, Bool.and_eq_true, Vector.all_eq_true] at hc
    refine ⟨fun i j => ?_, pages, keys, pedals⟩
    simp only [TableMemory.load, Fin.getElem_fin, Vector.getElem_setIfInBounds]
    split
    · exact hc.2 j j.isLt
    · exact sets i j
  | sense table =>
    simp only [contentValid, Bool.and_eq_true, Vector.all_eq_true, Option.isNone_iff_eq_none] at hc
    exact ⟨sets, pages, fun i => hc.1.2 i i.isLt, fun i => hc.2 i i.isLt⟩
  | pages slots =>
    simp only [contentValid, Bool.and_eq_true, Vector.all_eq_true] at hc
    show (if b < 5 then m else { m with pages := m.pages.setIfInBounds (b - 5) slots }).lawful
    split
    · exact ⟨sets, pages, keys, pedals⟩
    · refine ⟨sets, fun i j => ?_, keys, pedals⟩
      simp only [Fin.getElem_fin, Vector.getElem_setIfInBounds]
      split
      · exact hc.2 j j.isLt
      · exact pages i j

theorem contentValid_badContent {b : Nat} (h : b ≤ 36) : contentValid b (badContent b) = true := by
  unfold badContent
  split
  · next h4 =>
    simp only [contentValid, Bool.and_eq_true, decide_eq_true_eq, Vector.all_eq_true]
    exact ⟨h4, fun i hi => by simp only [clearedSet, Vector.getElem_replicate]; rfl⟩
  · split
    · next h4 =>
      simp only [contentValid, Bool.and_eq_true, beq_iff_eq, Vector.all_eq_true, defaultSense, Vector.getElem_replicate]
      exact ⟨⟨h4, fun _ _ => rfl⟩, fun _ _ => rfl⟩
    · simp only [contentValid, Bool.and_eq_true, decide_eq_true_eq, Vector.all_eq_true, emptyPages,
        Vector.getElem_replicate]
      exact ⟨⟨by omega, h⟩, fun _ _ => rfl⟩

/-- Outside the blocks of 12.1 nothing is loaded. -/
theorem TableMemory.load_badContent_above (m : TableMemory) {b : Nat} (h : 36 < b) : m.load b (badContent b) = m := by
  have h4 : ¬ b < 4 := by omega
  have h5 : b ≠ 4 := by omega
  have h6 : ¬ b < 5 := by omega
  have out : 32 ≤ b - 5 := by omega
  simp only [badContent, if_neg h4, if_neg h5, TableMemory.load, if_neg h6]
  rw [Vector.setIfInBounds_eq_of_size_le out]

theorem TableMemory.lawful.loadFound {m : TableMemory} (h : m.lawful) (b : Nat) (x : StoreBlock) :
    (m.load b ((goodContent b x).getD (badContent b))).lawful := by
  cases hf : goodContent b x with
  | some c => exact h.load (goodContent_some hf)
  | none =>
    by_cases hb : b ≤ 36
    · exact h.load (contentValid_badContent hb)
    · rw [Option.getD_none, m.load_badContent_above (by omega)]; exact h

theorem TableMemory.cleared_lawful : TableMemory.cleared.lawful := by
  refine ⟨fun i j => ?_, fun i j => ?_, fun i => ?_, fun i => ?_⟩ <;>
    simp only [TableMemory.cleared, clearedSet, emptyPages, defaultSense, Fin.getElem_fin, Vector.getElem_replicate] <;> rfl

/-! ### The Calibration Store -/

/-- A save at its next block: none is in flight, or it stays on an unprotected block (R182, R183). -/
theorem State.saveFrom_keeps (fuel : Nat) (s : State) (op : SaveOp) (hm : s.storeLawful → s.time.mode = .idle)
    (hb : s.saveLawful → op.boundary = s.boundary ∧ op.last ≤ 36) : Keeps s (State.saveFrom fuel s op) := by
  rcases State.saveFrom_cases fuel s op with ⟨results, h⟩ | ⟨b, results, -, hl, hp, h⟩ <;> rw [h]
  · exact (Keeps.operation (op := .idle) (fun _ => hm) (fun _ => trivial)).report _
  · exact .operation (fun _ => hm) (fun x => ⟨(hb x).1, hp, hl, (hb x).2⟩)

theorem State.storeBusy_of_save {s : State} {op : SaveOp} (h : s.store.op = .save op) : s.storeBusy = true := by
  simp [State.storeBusy, State.saving, h]

theorem State.storeBusy_of_restore {s : State} {op : RestoreOp} (h : s.store.op = .restore op) : s.storeBusy = true := by
  simp [State.storeBusy, State.restoring, h]

theorem State.saveLawful_iff {s : State} {op : SaveOp} (h : s.store.op = .save op) :
    s.saveLawful ↔ op.boundary = s.boundary ∧ op.block < op.boundary ∧ op.block ≤ op.last ∧ op.last ≤ 36 := by
  unfold State.saveLawful; rw [h]

/-- A save that stays on its block. -/
theorem Keeps.stage {s : State} {op op' : SaveOp} {b : Nat} {x : StoreBlock} (h : s.store.op = .save op)
    (hb : op'.boundary = op.boundary) (hk : op'.block = op.block) (hl : op'.last = op.last) :
    Keeps s ((s.setStoreBlock b x).setOp (.save op')) := by
  have written : Keeps s (s.setStoreBlock b x) := (Quiet.refl s).on_blocks.keeps
  refine written.trans (.operation (fun _ l => l.1 (State.storeBusy_of_save h)) (fun y => ?_))
  have same : State.boundary (s.setStoreBlock b x) = s.boundary := rfl
  rw [State.saveLawful_iff (s := s.setStoreBlock b x) h, same] at y
  show op'.boundary = s.boundary ∧ op'.block < op'.boundary ∧ op'.block ≤ op'.last ∧ op'.last ≤ 36
  rw [hb, hk, hl]; exact y

theorem State.eraseDone_keeps (s : State) : Keeps s s.eraseDone := by
  unfold State.eraseDone
  split
  · next op h =>
    split
    · exact .stage h rfl rfl rfl
    · exact .refl s
  · exact .refl s

theorem State.programDone_keeps (s : State) (medium : Option StoreBlock) : Keeps s (s.programDone medium) := by
  unfold State.programDone
  split
  · next op h =>
    split
    · exact .stage h rfl rfl rfl
    · exact .refl s
  · exact .refl s

theorem State.verifyDone_keeps (s : State) : Keeps s s.verifyDone := by
  unfold State.verifyDone
  split
  · next op h =>
    split
    · refine s.saveFrom_keeps _ _ (fun l => l.1 (State.storeBusy_of_save h)) (fun x => ?_)
      rw [State.saveLawful_iff h] at x
      exact ⟨x.1, x.2.2.2⟩
    · exact .refl s
  · exact .refl s

theorem State.readDone_keeps (s : State) : Keeps s s.readDone := by
  unfold State.readDone
  split
  · next op h =>
    have loaded : Keeps s { s with
        mem := s.mem.load op.block ((goodContent op.block (s.storeBlock op.block)).getD (badContent op.block)) } :=
      ((Quiet.refl s).on_mem (fun m => m.loadFound _ _)).keeps
    have idle : ∀ t : State, t.store = s.store → t.storeLawful → t.time.mode = .idle := fun t ht l =>
      l.1 (State.storeBusy_of_restore (ht ▸ h))
    dsimp only
    split
    · exact loaded.trans (.operation (fun _ => idle _ rfl) (fun _ => trivial))
    · exact (loaded.trans (.operation (op := .idle) (fun _ => idle _ rfl) (fun _ => trivial))).report _
  · exact .refl s

/-! ### Resets -/

section
variable (cause : ResetCause) (mem : TableMemory) (store : CalibrationStore) (pending : List Instr)

theorem State.fresh_clockLawful : (State.fresh cause mem store pending).clockLawful :=
  ⟨by simp [State.fresh, TimeBase.initial, cycleModulus], by simp [State.fresh, TimeBase.initial],
    by simp [State.fresh, TimeBase.initial], by simp [State.fresh, TimeBase.initial], fun _ => rfl⟩

theorem State.fresh_storeLawful : (State.fresh cause mem store pending).storeLawful :=
  ⟨fun _ => rfl, fun _ => rfl, fun _ => ⟨rfl, rfl, rfl, rfl⟩, fun _ => rfl, fun h => (nomatch h)⟩

theorem State.fresh_capacityLawful : (State.fresh cause mem store pending).capacityLawful :=
  ⟨by simp [State.fresh], by simp [State.fresh, DriveSchedule.initial], by simp [State.fresh, Sequencer.initial],
    fun h => absurd rfl h, fun h => (nomatch h), fun h => (nomatch h)⟩

theorem State.fresh_captureLawful : (State.fresh cause mem store pending).captureLawful :=
  ⟨by simp [State.fresh, CaptureQueue.initial], List.Pairwise.nil⟩

theorem State.fresh_scheduleOrdered : (State.fresh cause mem store pending).scheduleOrdered := List.Pairwise.nil

theorem State.fresh_cacheLawful : (State.fresh cause mem store pending).cacheLawful :=
  ⟨by simp [State.fresh, VoiceUnit.initial], List.Pairwise.nil, fun _ h => (nomatch h)⟩

theorem State.fresh_notesBounded : (State.fresh cause mem store pending).notesBounded :=
  fun i => by simp [State.fresh, DriveSchedule.initial, KeyDrive.initial]

theorem State.fresh_notesNamed : (State.fresh cause mem store pending).notesNamed :=
  ⟨fun _ h => (nomatch h), fun _ h => (nomatch h), fun i => by simp [State.fresh, DriveSchedule.initial, KeyDrive.initial]⟩

theorem State.fresh_yieldsBounded : (State.fresh cause mem store pending).yieldsBounded :=
  fun i => by simp [State.fresh, DuplexMonitor.initial, YieldRecord.initial]

theorem State.fresh_countersBounded : (State.fresh cause mem store pending).countersBounded :=
  fun i => by simp [State.fresh, ScorePort.initial]

theorem State.fresh_frameLawful : (State.fresh cause mem store pending).frameLawful := fun _ h => nomatch h

variable {store}

theorem State.fresh_saveLawful (h : ∀ op, store.op ≠ .save op) : (State.fresh cause mem store pending).saveLawful := by
  unfold State.saveLawful
  split
  · next op hs => exact absurd hs (h op)
  · trivial

/-- A reset over lawful tables, with no save in flight, keeps every law, for they hold of its state (R178). -/
theorem State.fresh_keeps (s : State) {mem : TableMemory} (hm : s.mem.lawful → mem.lawful) (hs : ∀ op, store.op ≠ .save op) :
    Keeps s (State.fresh cause mem store pending) where
  clock _ _ := ⟨State.fresh_clockLawful _ _ _ _, State.fresh_storeLawful _ _ _ _⟩
  mem := hm
  capacity _ := State.fresh_capacityLawful _ _ _ _
  capture _ := State.fresh_captureLawful _ _ _ _
  ordered _ := State.fresh_scheduleOrdered _ _ _ _
  cache _ := State.fresh_cacheLawful _ _ _ _
  notes _ := State.fresh_notesBounded _ _ _ _
  named _ := State.fresh_notesNamed _ _ _ _
  yields _ := State.fresh_yieldsBounded _ _ _ _
  counters _ := State.fresh_countersBounded _ _ _ _
  frame _ := State.fresh_frameLawful _ _ _ _
  save _ := State.fresh_saveLawful _ _ _ hs

end

theorem State.coldReset_keeps (s : State) (cause : ResetCause) : Keeps s (s.coldReset cause) :=
  State.fresh_keeps cause _ s (fun _ => TableMemory.cleared_lawful) nofun

theorem State.warmReset_keeps (s : State) (cause : ResetCause) : Keeps s (s.warmReset cause) :=
  State.fresh_keeps cause _ s id nofun

theorem State.restartReset_keeps (s : State) : Keeps s s.restartReset :=
  .ite (fun _ => s.warmReset_keeps _) (fun _ => .refl s)

/-! ### Requests -/

theorem State.heard_keeps (s : State) {owner : State → State} (h : Keeps s (owner s)) : Keeps s (s.heard owner) :=
  .ite (fun _ => h) (fun _ => .refl s)

theorem State.linkStart_keeps (s : State) (tag : Byte) : Keeps s (s.linkStart tag) :=
  s.unlessRestoring_keeps tag 7 (fun _ => .ite
    (fun _ => .ite (fun _ => (Keeps.refl s).reply ..)
      (fun _ => ((Keeps.refl s).reply ..).trans (State.enterLink_quiet _ _ _).keeps))
    (fun _ => (Keeps.refl s).reply ..))

theorem State.linkStop_keeps (s : State) (tag : Byte) : Keeps s (s.linkStop tag) :=
  s.unlessRestoring_keeps tag 8 (fun _ => .ite (fun _ => (Keeps.refl s).reply ..)
    (fun _ => ((Keeps.refl s).reply ..).trans (State.enterLink_quiet _ _ _).keeps))

theorem State.setPermit_quiet (s : State) (b : Bool) : Quiet s (s.setPermit b) := (Quiet.refl s).on_link rfl

theorem State.drivePermit_keeps (s : State) (tag : Byte) : Keeps s (s.drivePermit tag) := by
  refine s.unlessRestoring_keeps tag 9 (fun _ => ?_)
  have permitted := (s.setPermit_quiet true).keeps
  split
  · exact (Keeps.refl s).reply ..
  · exact permitted.reply ..
  · exact permitted.reply ..
  · exact permitted.reply ..
  · exact ((s.setPermit_quiet false).keeps.reply ..).trans (State.enterLink_quiet _ _ _).keeps
  · exact (Keeps.refl s).reply ..

theorem State.readRoster_keeps (s : State) (tag : Byte) : Keeps s (s.readRoster tag) :=
  s.unlessRestoring_keeps tag 10 (fun _ => (Keeps.refl s).reply ..)

theorem State.clearFault_quiet (s : State) (k : Nat) : Quiet s (s.clearFault k) :=
  .ite (fun _ => ((Quiet.refl s).on_link (x := (s.setFault k false).link) rfl).trans (State.redecide_quiet _ k))
    (fun _ => .refl s)

theorem State.clearKeyFault_keeps (s : State) (tag : Byte) (key : Nat) : Keeps s (s.clearKeyFault tag key) :=
  s.unlessRestoring_keeps tag 11 (fun _ => .ite
    (fun _ => (Quiet.foldl State.clearFault_quiet allKeys s).keeps.reply ..)
    (fun _ => s.judged_keeps tag 11 _ (fun _ => (s.clearFault_quiet key).keeps.reply ..)))

theorem State.writeKeySense_keeps (s : State) (tag : Byte) (type number first second third : Nat) :
    Keeps s (s.writeKeySense tag type number first second third) :=
  s.unlessStoring_keeps tag 12 (fun _ => s.judged_keeps tag 12 _ (fun h =>
    ((Quiet.refl s).on_mem (fun m => m.setSense h)).keeps.reply ..))

theorem State.readKeySense_keeps (s : State) (tag : Byte) (type number : Nat) : Keeps s (s.readKeySense tag type number) :=
  s.unlessRestoring_keeps tag 13 (fun _ => s.judged_keeps tag 13 _ (fun _ => (Keeps.refl s).reply ..))

theorem State.writeDescriptor_keeps (s : State) (tag : Byte) (set voice : Nat) (f : RawDescriptor) :
    Keeps s (s.writeDescriptor tag set voice f) :=
  s.unlessStoring_keeps tag 14 (fun _ => s.judged_keeps tag 14 _ (fun h =>
    ((Quiet.refl s).on_mem (fun m => m.setDescriptor set voice (descriptorFailure_none h))).keeps.reply ..))

theorem State.readDescriptor_keeps (s : State) (tag : Byte) (set voice : Nat) : Keeps s (s.readDescriptor tag set voice) :=
  s.unlessRestoring_keeps tag 15 (fun _ => s.judged_keeps tag 15 _ (fun _ => (Keeps.refl s).reply ..))

/-- A page write names a valid page, or none (R91, R92). -/
theorem pageWrite_valid {slot : Nat} {p : RawPage} {content : Option Page} (h : pageWrite slot p = .inl content) :
    content.all pageValid = true := by
  unfold pageWrite at h
  split at h
  · cases h
  cases p with
  | other code => cases h
  | empty => cases h; rfl
  | strike points sc =>
    dsimp only at h
    split at h
    · cases h
    · next hf => cases h; simp [pageValid, hf]
  | pedal points =>
    dsimp only at h
    split at h
    · cases h
    · next hf => cases h; simp [pageValid, hf]

theorem State.writePage_keeps (s : State) (tag : Byte) (slot : Nat) (p : RawPage) : Keeps s (s.writePage tag slot p) := by
  refine s.unlessStoring_keeps tag 16 (fun _ => ?_)
  split
  · exact (Keeps.refl s).reply ..
  · next content hw => exact ((Quiet.refl s).on_mem (fun m => m.setPage slot (pageWrite_valid hw))).keeps.reply ..

theorem State.readPage_keeps (s : State) (tag : Byte) (slot : Nat) : Keeps s (s.readPage tag slot) :=
  s.unlessRestoring_keeps tag 17 (fun _ => s.judged_keeps tag 17 _ (fun _ => (Keeps.refl s).reply ..))

theorem State.selectVoicing_keeps (s : State) (tag : Byte) (set : Nat) : Keeps s (s.selectVoicing tag set) :=
  s.unlessRestoring_keeps tag 18 (fun _ => s.judged_keeps tag 18 _ (fun _ =>
    (s.emptyCache_quiet.on_voices (x := { s.emptyCache.voices with activeSet := set }) id id).keeps.reply ..))

theorem State.invalidateVoice_keeps (s : State) (tag : Byte) (voice : Nat) : Keeps s (s.invalidateVoice tag voice) :=
  s.unlessRestoring_keeps tag 19 (fun _ => s.judged_keeps tag 19 _ (fun _ => (s.dropVoice_quiet voice).keeps.reply ..))

theorem State.invalidateAll_keeps (s : State) (tag : Byte) : Keeps s (s.invalidateAll tag) :=
  s.unlessRestoring_keeps tag 20 (fun _ => s.emptyCache_quiet.keeps.reply ..)

theorem State.calibrateQueue_keeps (s : State) (tag : Byte) (j : Job) : Keeps s (s.calibrateQueue tag j) :=
  s.unlessRestoring_keeps tag 21 (fun _ => .ite
    (fun _ => s.judged_keeps tag 21 _ (fun _ => .ite (fun _ => (Keeps.refl s).reply ..)
      (fun h => (Keeps.job (by omega)).reply ..)))
    (fun _ => (Keeps.refl s).reply ..))

theorem State.calibrateAbort_keeps (s : State) (tag : Byte) : Keeps s (s.calibrateAbort tag) :=
  s.unlessRestoring_keeps tag 22 (fun _ => ((Keeps.refl s).reply ..).trans (State.abortJobs_quiet _ _).keeps)

theorem State.setProfile_keeps (s : State) (tag : Byte) (f : RawProfile) : Keeps s (s.setProfile tag f) := by
  refine s.unlessStoring_keeps tag 23 (fun hb => ?_)
  split
  · exact (Keeps.refl s).reply ..
  · exact s.judged_keeps tag 23 _ (fun _ =>
      (Keeps.profile (p := { s.port with profile := some (RawProfile.profile f) }) hb rfl).reply ..)

theorem State.putOptions_quiet (s : State) (values : List (OptionName × Nat)) : Quiet s (s.putOptions values) := by
  have set : Quiet s { s with port := { s.port with options := values.foldl Options.set s.port.options } } :=
    (Quiet.refl s).on_port id rfl
  exact .ite (fun _ => set.trans (State.startTimer_quiet _)) (fun _ => set)

theorem State.setOptions_keeps (s : State) (tag : Byte) (values : List (OptionName × Nat)) :
    Keeps s (s.setOptions tag values) := by
  refine s.unlessRestoring_keeps tag 24 (fun _ => ?_)
  split
  · exact (Keeps.refl s).reply ..
  · exact (s.putOptions_quiet values).keeps.reply ..

theorem State.clearCounters_quiet (s : State) :
    Quiet s { s with port := { s.port with counters := Vector.replicate 22 0 } } :=
  (Quiet.refl s).on_port (fun _ i => by simp) rfl

theorem State.readStatus_keeps (s : State) (tag : Byte) (clear : Nat) : Keeps s (s.readStatus tag clear) := by
  unfold State.readStatus
  split
  · exact (Keeps.refl s).reply ..
  · exact ((Quiet.ite (fun _ => s.clearCounters_quiet) (fun _ => .refl s)).trans (State.offer_quiet _ _)).keeps

theorem State.takeRestart_keeps (s : State) (tag : Byte) : Keeps s (s.takeRestart tag) :=
  s.unlessStoring_keeps tag 26 (fun _ => .ite
    (fun _ => ((Quiet.refl s).on_port (x := { s.port with restart := .replying }) id rfl).keeps.reply ..)
    (fun _ => s.warmReset_keeps _))

/-- What a save range that passes gives (R183). -/
theorem saveFailure_none {first last : Nat} (h : saveFailure first last = none) :
    first ≤ 36 ∧ last ≤ 36 ∧ first ≤ last := by
  simp only [saveFailure, ite_some_eq_none] at h
  omega

theorem State.storeSave_keeps (s : State) (tag : Byte) (first last : Nat) : Keeps s (s.storeSave tag first last) := by
  refine s.unlessStoring_keeps tag 27 (fun _ => .ite (fun _ => (Keeps.refl s).reply ..)
    (fun hm => s.judged_keeps tag 27 _ (fun hf => ((Keeps.refl s).reply tag 27 .done .nothing).trans ?_)))
  refine State.saveFrom_keeps _ _ _ (fun _ => ?_) (fun _ => ⟨rfl, (saveFailure_none hf).2.1⟩)
  rw [s.reply_time]; exact not_not.1 hm

theorem State.storeRestore_keeps (s : State) (tag : Byte) : Keeps s (s.storeRestore tag) := by
  refine s.unlessStoring_keeps tag 28 (fun _ => .ite (fun _ => (Keeps.refl s).reply ..) (fun hm => ?_))
  refine (((Keeps.refl s).reply ..).trans (State.emptyCache_quiet _).keeps).trans
    (.operation (fun _ _ => ?_) (fun _ => trivial))
  show (s.reply tag 28 .done .nothing).time.mode = .idle
  rw [s.reply_time]; exact not_not.1 hm

/-! ### The Score Port -/

theorem State.takeAtOnce_keeps (s : State) (tag : Byte) (r : Request) : Keeps s (s.takeAtOnce tag r) := by
  cases r with
  | linkStart => exact s.linkStart_keeps tag
  | linkStop => exact s.linkStop_keeps tag
  | drivePermit => exact s.drivePermit_keeps tag
  | readRoster => exact s.readRoster_keeps tag
  | clearKeyFault key => exact s.clearKeyFault_keeps tag key
  | writeKeySense type number first second third => exact s.writeKeySense_keeps ..
  | readKeySense type number => exact s.readKeySense_keeps ..
  | writeDescriptor set voice fields => exact s.writeDescriptor_keeps ..
  | readDescriptor set voice => exact s.readDescriptor_keeps ..
  | writePage slot page => exact s.writePage_keeps ..
  | readPage slot => exact s.readPage_keeps ..
  | selectVoicing set => exact s.selectVoicing_keeps ..
  | invalidateVoice voice => exact s.invalidateVoice_keeps ..
  | invalidateAll => exact s.invalidateAll_keeps tag
  | calibrateQueue job => exact s.calibrateQueue_keeps ..
  | calibrateAbort => exact s.calibrateAbort_keeps tag
  | setProfile fields => exact s.setProfile_keeps ..
  | setOptions values => exact s.setOptions_keeps ..
  | readStatus clear => exact s.readStatus_keeps ..
  | restart => exact s.takeRestart_keeps tag
  | storeSave first last => exact s.storeSave_keeps ..
  | storeRestore => exact s.storeRestore_keeps tag
  | setMode _ => exact .refl s
  | transportStart _ => exact .refl s
  | transportPause => exact .refl s
  | transportResume => exact .refl s
  | transportStop => exact .refl s
  | setCue _ _ => exact .refl s

theorem State.takeRequest_keeps (s : State) (tag : Byte) (payload : List Byte) : Keeps s (s.takeRequest tag payload) := by
  unfold State.takeRequest
  split
  · exact (Keeps.refl s).reply ..
  · exact (Keeps.refl s).reply ..
  · exact .ite (fun _ => (s.setWaiting_quiet _).keeps) (fun _ => s.takeAtOnce_keeps tag _)

theorem State.takeRecord_keeps (s : State) (r : EventRecord) (h : s.time.mode.replays = true) :
    Keeps s (s.takeRecord r) :=
  .ite (fun room => .record h room) (fun _ => (s.bump_quiet _).keeps)

theorem State.takeRecord_time (s : State) (r : EventRecord) : (s.takeRecord r).time = s.time := by
  unfold State.takeRecord
  split
  · rfl
  · exact (s.bump_touches _).time rfl

theorem State.takeRecords_replays_keeps (s : State) (l : List EventRecord) (h : s.time.mode.replays = true) :
    Keeps s (l.foldl State.takeRecord s) := by
  induction l generalizing s with
  | nil => exact .refl s
  | cons r l ih => exact (s.takeRecord_keeps r h).trans (ih _ (by rw [s.takeRecord_time]; exact h))

theorem State.takeEvents_keeps (s : State) (records : List EventRecord) : Keeps s (s.takeEvents records) :=
  .ite (fun h => s.takeRecords_replays_keeps records ((Mode.replays_iff _).2 h))
    (fun _ => (s.bumpTimes_quiet _ _).keeps)

theorem State.takeFrame_keeps (s : State) (f : Frame) : Keeps s (s.takeFrame f) := by
  refine s.heard_keeps ?_
  cases f with
  | bad => exact (s.bump_quiet _).keeps
  | events tag records => exact s.takeEvents_keeps records
  | request tag payload => exact s.takeRequest_keeps tag payload

theorem State.handOn_keeps (s : State) (f : Frame) (rest : List Byte) : Keeps s (s.handOn f rest) := by
  have taken := (s.setReceived_quiet []).keeps.trans (State.takeFrame_keeps _ f)
  exact .ite (fun _ => taken) (fun _ => taken.trans (State.setReceived_quiet _ _).keeps)

theorem State.takeFrames_keeps (fuel : Nat) (s : State) : Keeps s (State.takeFrames fuel s) := by
  induction fuel generalizing s with
  | zero => exact .refl s
  | succ n ih =>
    unfold State.takeFrames
    split
    · exact (s.setReceived_quiet _).keeps
    · split
      · exact (s.setReceived_quiet _).keeps
      · exact (s.handOn_keeps _ _).trans (ih _)

theorem State.receiveByte_keeps (s : State) (b : Byte) : Keeps s (s.receiveByte b) :=
  (s.setReceived_quiet _).keeps.trans (State.takeFrames_keeps _ _)

theorem State.receiveBytes_keeps (s : State) (bytes : List Byte) : Keeps s (s.receiveBytes bytes) :=
  Keeps.foldl State.receiveByte_keeps bytes s

theorem State.receiveEvents_keeps (s : State) (tag : Byte) (records : List EventRecord) :
    Keeps s (s.receiveEvents tag records) := (s.setReceived_quiet _).keeps.trans (State.takeFrame_keeps _ _)

theorem State.receiveRequest_keeps (s : State) (tag : Byte) (payload : List Byte) :
    Keeps s (s.receiveRequest tag payload) := (s.setReceived_quiet _).keeps.trans (State.takeFrame_keeps _ _)

theorem State.transmitDone_keeps (s : State) : Keeps s s.transmitDone := by
  unfold State.transmitDone
  split
  · dsimp only
    exact (Quiet.trans ((Quiet.refl s).on_port (x := _) (by exact id) (by rfl)) (State.beginSending_quiet _)).keeps
  · exact .refl s

theorem State.statusExpiry_keeps (s : State) : Keeps s s.statusExpiry :=
  .ite (fun _ => ((Quiet.ite (fun _ => s.hand_quiet _) (fun _ => .refl s)).trans (State.startTimer_quiet _)).keeps)
    (fun _ => .refl s)

theorem State.yieldExpiry_keeps (s : State) (k : Nat) : Keeps s (s.yieldExpiry k) :=
  .ite (fun _ => (s.endYield_quiet k).keeps) (fun _ => .refl s)

/-! ### Every command and every step -/

/-- What every command keeps: the laws that hold of the state it is taken on hold of the state it answers. -/
theorem exec_keeps {c : Instr} {s t : State} (h : exec c s = .next t) : Keeps s t := by
  cases c with
  | powerOn => cases h; exact s.coldReset_keeps _
  | coldResetSupplyLow => cases h; exact s.coldReset_keeps _
  | resetPin => cases h; exact s.warmReset_keeps _
  | restartReset => cases h; exact s.restartReset_keeps
  | cycleStart order => cases h; exact s.cycleStart_keeps order
  | transportStart tag preroll => cases h; exact s.transportStart_keeps tag preroll
  | transportPause tag => cases h; exact s.transportPause_keeps tag
  | transportResume tag => cases h; exact s.transportResume_keeps tag
  | transportStop tag => cases h; exact s.transportStop_keeps tag
  | setCue tag presence tick => cases h; exact s.takeCue_keeps tag presence tick
  | setMode tag mode => cases h; exact s.takeMode_keeps tag mode
  | pauseLinkLeft => cases h; exact s.linkLeftPause_keeps
  | cueReached => cases h; exact s.reachCue_keeps
  | endTick => cases h; exact s.reachEnd_keeps
  | clockEnd => cases h; exact s.reachClockEnd_keeps
  | releaseEndExpiry key => cases h; exact s.releaseExpiry_keeps key
  | returnFrame elapsed bytes => cases h; exact s.takeReturn_keeps elapsed bytes
  | returnExpiry => cases h; exact s.expireReturn_quiet.keeps
  | recoveryLimitExpiry => cases h; exact s.expireRecovery_quiet.keeps
  | yieldWaitEnd key => cases h; exact s.yieldExpiry_keeps key
  | windowExpiry key => cases h; exact s.expireWindow_keeps key
  | jobStart => cases h; exact s.startJob_keeps
  | admitRecord => cases h; exact s.testHead_keeps
  | walkDescriptorRead => cases h; exact s.walkRead_quiet.keeps
  | walkComplete => cases h; exact s.walkEnd_keeps
  | eventsFrame tag records => cases h; exact s.receiveEvents_keeps tag records
  | frameErrors bytes => cases h; exact s.receiveBytes_keeps bytes
  | requestFrame tag payload => cases h; exact s.receiveRequest_keeps tag payload
  | transmitComplete => cases h; exact s.transmitDone_keeps
  | statusPeriodExpiry => cases h; exact s.statusExpiry_keeps
  | linkStart tag => cases h; exact s.heard_keeps (s.linkStart_keeps tag)
  | linkStop tag => cases h; exact s.heard_keeps (s.linkStop_keeps tag)
  | drivePermit tag => cases h; exact s.heard_keeps (s.drivePermit_keeps tag)
  | readRoster tag => cases h; exact s.heard_keeps (s.readRoster_keeps tag)
  | clearKeyFault tag key => cases h; exact s.heard_keeps (s.clearKeyFault_keeps tag key)
  | writeKeySense tag type number first second third =>
    cases h; exact s.heard_keeps (s.writeKeySense_keeps tag type number first second third)
  | readKeySense tag type number => cases h; exact s.heard_keeps (s.readKeySense_keeps tag type number)
  | writeDescriptor tag set voice fields => cases h; exact s.heard_keeps (s.writeDescriptor_keeps tag set voice fields)
  | readDescriptor tag set voice => cases h; exact s.heard_keeps (s.readDescriptor_keeps tag set voice)
  | writePage tag slot page => cases h; exact s.heard_keeps (s.writePage_keeps tag slot page)
  | readPage tag slot => cases h; exact s.heard_keeps (s.readPage_keeps tag slot)
  | selectVoicing tag set => cases h; exact s.heard_keeps (s.selectVoicing_keeps tag set)
  | invalidateVoice tag voice => cases h; exact s.heard_keeps (s.invalidateVoice_keeps tag voice)
  | invalidateAll tag => cases h; exact s.heard_keeps (s.invalidateAll_keeps tag)
  | calibrateQueue tag job => cases h; exact s.heard_keeps (s.calibrateQueue_keeps tag job)
  | calibrateAbort tag => cases h; exact s.heard_keeps (s.calibrateAbort_keeps tag)
  | setProfile tag fields => cases h; exact s.heard_keeps (s.setProfile_keeps tag fields)
  | setOptions tag values => cases h; exact s.heard_keeps (s.setOptions_keeps tag values)
  | readStatus tag clear => cases h; exact s.heard_keeps (s.readStatus_keeps tag clear)
  | restart tag => cases h; exact s.heard_keeps (s.takeRestart_keeps tag)
  | storeSave tag first last => cases h; exact s.heard_keeps (s.storeSave_keeps tag first last)
  | storeRestore tag => cases h; exact s.heard_keeps (s.storeRestore_keeps tag)
  | storeEraseComplete => cases h; exact s.eraseDone_keeps
  | storeProgramComplete medium => cases h; exact s.programDone_keeps medium
  | storeVerifyComplete => cases h; exact s.verifyDone_keeps
  | storeReadComplete => cases h; exact s.readDone_keeps

/-- The queue of commands is read by no law. -/
theorem Keeps.pending (s : State) (l : List Instr) : Keeps s { s with pending := l } := { Keeps.refl s with }

theorem step_keeps {s t : State} (h : step s = .next t) : Keeps s t := by
  unfold step at h
  split at h
  · cases h; exact s.passTick_keeps
  · exact (Keeps.pending s _).trans (exec_keeps h)

/-- Settles O55: every operation keeps the laws of the clock and of the modes. -/
theorem everyStepKeepsTheClockAndModeLaws : Obligations.EveryStepKeepsTheClockAndModeLaws :=
  fun _ _ clock store h => (step_keeps h).clock clock store

/-- Settles O56. -/
theorem everyStepKeepsTableMemoryValid : Obligations.EveryStepKeepsTableMemoryValid :=
  fun _ _ mem h => (step_keeps h).mem mem

/-- Settles O57. -/
theorem everyStepKeepsTheCapacities : Obligations.EveryStepKeepsTheCapacities :=
  fun _ _ capacity h => (step_keeps h).capacity capacity

/-- Settles O58. -/
theorem everyStepKeepsTheBounds : Obligations.EveryStepKeepsTheBounds := by
  intro s t h
  have k := step_keeps h
  exact ⟨k.capture, k.ordered, k.cache, k.notes, k.named, k.yields, k.counters⟩

/-- Settles O59. -/
theorem everyStepKeepsTheFrameAndSaveLaws : Obligations.EveryStepKeepsTheFrameAndSaveLaws :=
  fun _ _ h => ⟨(step_keeps h).frame, (step_keeps h).save⟩

end Sys2Proof.Machine
end

section
/-! PROOFS. The command at the front, the footprint of every command, and what a reset leaves. -/

namespace Sys2Proof.Machine

/-- Settles O1. -/
theorem stepRunsTheFrontCommand : Obligations.StepRunsTheFrontCommand := by
  intro s c rest h
  simp only [step, h]

/-! ### Resets -/

theorem State.warmReset_touches (s : State) (cause : ResetCause) :
    Touches { Blocks.whole with mem := false } s (s.warmReset cause) :=
  ⟨nofun, nofun, nofun, nofun, fun _ => rfl, nofun, nofun, nofun, nofun, nofun, nofun, nofun, fun _ => rfl⟩

theorem State.coldReset_touches (s : State) (cause : ResetCause) : Touches Blocks.whole s (s.coldReset cause) :=
  ⟨nofun, nofun, nofun, nofun, nofun, nofun, nofun, nofun, nofun, nofun, nofun, nofun, fun _ => rfl⟩

theorem State.restartReset_touches (s : State) : Touches { Blocks.whole with mem := false } s s.restartReset :=
  .ite (fun _ => s.warmReset_touches _) (fun _ => .refl _ s)

/-- Whatever the tables, the store and the queue, a reset leaves every other block at its reset values. -/
theorem State.fresh_atReset (cause : ResetCause) (mem : TableMemory) (store : CalibrationStore) (pending : List Instr) :
    (State.fresh cause mem store pending).atReset cause := by
  refine ⟨⟨rfl, rfl, rfl, rfl, rfl, rfl, rfl, rfl, rfl, rfl, rfl, rfl⟩, ?link,
    ⟨fun i => Vector.getElem_replicate _, fun i => Vector.getElem_replicate _, rfl, rfl⟩,
    ⟨rfl, rfl, rfl, fun i => Vector.getElem_replicate _, fun i => Vector.getElem_replicate _,
      fun i => Vector.getElem_replicate _, fun i => Vector.getElem_replicate _, rfl, rfl⟩,
    rfl, ?status, rfl, fun i => Vector.getElem_replicate _, rfl, rfl, rfl, rfl, rfl⟩
  case link =>
    exact ⟨rfl, rfl, fun i => Vector.getElem_replicate _, rfl, rfl, rfl, rfl, rfl, rfl, rfl, rfl, rfl,
      fun i => ⟨Vector.getElem_replicate _, Vector.getElem_replicate _⟩,
      fun i => ⟨Vector.getElem_replicate _, Vector.getElem_replicate _⟩⟩
  case status => rfl

theorem State.fresh_tablesCleared (cause : ResetCause) (store : CalibrationStore) (pending : List Instr) :
    (State.fresh cause TableMemory.cleared store pending).tablesCleared := by
  refine ⟨fun set voice hs hv => ?_, fun slot hs => ?_, fun i => Vector.getElem_replicate _,
    fun i => Vector.getElem_replicate _⟩
  · have h4 : set < 4 := by omega
    have h128 : voice < 128 := by omega
    simp [State.fresh, TableMemory.cleared, TableMemory.descriptor, clearedSet, clearedDescriptor, h4, h128]
  · have h32 : slot / 16 < 32 := by omega
    have h16 : slot % 16 < 16 := Nat.mod_lt _ (by decide)
    simp [State.fresh, TableMemory.cleared, TableMemory.page, emptyPages, h32, h16]

/-- A block of the store behind a reset (R186). -/
theorem CalibrationStore.afterReset_getElem (x : CalibrationStore) {b : Nat} (hb : b ≤ 36) :
    x.afterReset[b]?.getD .erased =
      match x.op with
      | .save op => if b = op.block ∧ op.stage ≠ .verifying then .partly else x.blocks[b]?.getD .erased
      | .idle => x.blocks[b]?.getD .erased
      | .restore _ => x.blocks[b]?.getD .erased := by
  have b37 : b < 37 := by omega
  unfold CalibrationStore.afterReset
  cases x.op with
  | idle => rfl
  | restore op => rfl
  | save op =>
    have cut : (x.blocks.setIfInBounds op.block .partly)[b]?.getD .erased =
        if b = op.block then .partly else x.blocks[b]?.getD .erased := by
      by_cases h : b = op.block
      · simp [← h, b37]
      · simp [h, Ne.symm h]
    cases hst : op.stage <;> simp [cut, hst]

/-- Settles O3: every reset is `State.fresh` on the tables and the store that it keeps. -/
theorem resetsLeaveTheirInitialState : Obligations.ResetsLeaveTheirInitialState := by
  refine ⟨fun s => ⟨⟨_, rfl, ?_, ?_, rfl, rfl⟩, ⟨_, rfl, ?_, ?_, rfl, rfl⟩⟩,
    fun s => ⟨⟨_, rfl, ?_, rfl, rfl, rfl⟩, fun hd => ?_, fun hd => ?_⟩, fun c s t hc h b hb => ?_⟩
  · exact State.fresh_atReset ..
  · exact State.fresh_tablesCleared ..
  · exact State.fresh_atReset ..
  · exact State.fresh_tablesCleared ..
  · exact State.fresh_atReset ..
  · exact ⟨s.warmReset .restart, congrArg _ (if_pos hd), State.fresh_atReset .., rfl, rfl, rfl⟩
  · exact congrArg _ (if_neg hd)
  · have blocks : t.store.blocks = s.store.afterReset := by
      rcases hc with rfl | rfl | rfl | ⟨rfl, hd⟩
      · cases h; rfl
      · cases h; rfl
      · cases h; rfl
      · have : t = s.restartReset := by cases h; rfl
        rw [this, State.restartReset, if_pos hd]; rfl
    unfold State.storeBlock
    rw [blocks]
    exact s.store.afterReset_getElem hb

/-- Settles O60. -/
theorem theLawsHoldAtReset : Obligations.TheLawsHoldAtReset :=
  ⟨State.fresh_clockLawful _ _ _ _, State.fresh_storeLawful _ _ _ _, TableMemory.cleared_lawful, State.fresh_captureLawful _ _ _ _,
    State.fresh_scheduleOrdered _ _ _ _, State.fresh_capacityLawful _ _ _ _, State.fresh_cacheLawful _ _ _ _, State.fresh_notesBounded _ _ _ _,
    State.fresh_notesNamed _ _ _ _, State.fresh_yieldsBounded _ _ _ _, State.fresh_countersBounded _ _ _ _, State.fresh_frameLawful _ _ _ _,
    State.fresh_saveLawful _ _ _ nofun, State.fresh_atReset _ _ _ _⟩

/-! ### Frames of the Score Port -/

theorem State.heard_touches {b : Blocks} {s : State} {owner : State → State} (h : Touches b s (owner s)) :
    Touches b s (s.heard owner) := .ite (fun _ => h) (fun _ => .refl b s)

theorem State.takeRestart_touches (s : State) (tag : Byte) :
    Touches { Blocks.whole with mem := false } s (s.takeRestart tag) :=
  State.unlessStoring_touches rfl (.ite
    (fun _ => ((Touches.refl { port := true } s).on_port rfl |>.seq (State.reply_touches _ _ _ _ _)).mono rfl)
    (fun _ => s.warmReset_touches _))

theorem State.takeAtOnce_touches (s : State) (tag : Byte) (r : Request) : Touches Blocks.whole s (s.takeAtOnce tag r) := by
  cases r with
  | linkStart => exact (s.linkStart_touches ..).mono rfl
  | linkStop => exact (s.linkStop_touches ..).mono rfl
  | drivePermit => exact (s.drivePermit_touches ..).mono rfl
  | readRoster => exact (s.readRoster_touches ..).mono rfl
  | clearKeyFault key => exact (s.clearKeyFault_touches ..).mono rfl
  | writeKeySense type number first second third => exact (s.writeKeySense_touches ..).mono rfl
  | readKeySense type number => exact (s.readKeySense_touches ..).mono rfl
  | writeDescriptor set voice fields => exact (s.writeDescriptor_touches ..).mono rfl
  | readDescriptor set voice => exact (s.readDescriptor_touches ..).mono rfl
  | writePage slot page => exact (s.writePage_touches ..).mono rfl
  | readPage slot => exact (s.readPage_touches ..).mono rfl
  | selectVoicing set => exact (s.selectVoicing_touches ..).mono rfl
  | invalidateVoice voice => exact (s.invalidateVoice_touches ..).mono rfl
  | invalidateAll => exact (s.invalidateAll_touches ..).mono rfl
  | calibrateQueue job => exact (s.calibrateQueue_touches ..).mono rfl
  | calibrateAbort => exact (s.calibrateAbort_touches ..).mono rfl
  | setProfile fields => exact (s.setProfile_touches ..).mono rfl
  | setOptions values => exact (s.setOptions_touches ..).mono rfl
  | readStatus clear => exact (s.readStatus_touches ..).mono rfl
  | restart => exact (s.takeRestart_touches tag).mono rfl
  | storeSave first last => exact (s.storeSave_touches ..).mono rfl
  | storeRestore => exact (s.storeRestore_touches ..).mono rfl
  | setMode _ => exact .refl _ s
  | transportStart _ => exact .refl _ s
  | transportPause => exact .refl _ s
  | transportResume => exact .refl _ s
  | transportStop => exact .refl _ s
  | setCue _ _ => exact .refl _ s

theorem State.takeRequest_touches (s : State) (tag : Byte) (payload : List Byte) :
    Touches Blocks.whole s (s.takeRequest tag payload) := by
  unfold State.takeRequest
  split
  · exact (s.reply_touches ..).mono rfl
  · exact (s.reply_touches ..).mono rfl
  · exact .ite (fun _ => (s.setTime_touches _).mono rfl) (fun _ => s.takeAtOnce_touches tag _)

theorem State.takeFrame_touches (s : State) (f : Frame) : Touches Blocks.whole s (s.takeFrame f) := by
  refine State.heard_touches ?_
  cases f with
  | bad => exact (s.bump_touches _).mono rfl
  | events tag records => exact (s.takeEvents_touches records).mono rfl
  | request tag payload => exact s.takeRequest_touches tag payload

theorem State.handOn_touches (s : State) (f : Frame) (rest : List Byte) : Touches Blocks.whole s (s.handOn f rest) := by
  have taken := ((s.setReceived_touches []).mono (b := Blocks.whole) rfl).seq (State.takeFrame_touches _ f)
  exact .ite (fun _ => taken) (fun _ => taken.seq ((State.setReceived_touches _ _).mono rfl))

theorem State.takeFrames_touches (fuel : Nat) (s : State) : Touches Blocks.whole s (State.takeFrames fuel s) := by
  induction fuel generalizing s with
  | zero => exact .refl _ s
  | succ n ih =>
    unfold State.takeFrames
    split
    · exact (s.setReceived_touches _).mono rfl
    · split
      · exact (s.setReceived_touches _).mono rfl
      · exact (s.handOn_touches _ _).seq (ih _)

theorem State.receiveBytes_touches (s : State) (bytes : List Byte) : Touches Blocks.whole s (s.receiveBytes bytes) :=
  Touches.foldl (fun s _ => ((s.setReceived_touches _).mono rfl).seq (State.takeFrames_touches _ _)) bytes s

theorem State.receiveRequest_touches (s : State) (tag : Byte) (payload : List Byte) :
    Touches Blocks.whole s (s.receiveRequest tag payload) :=
  ((s.setReceived_touches []).mono rfl).seq (State.takeFrame_touches _ _)

theorem State.receiveEvents_touches (s : State) (tag : Byte) (records : List EventRecord) :
    Touches { intake := true, port := true } s (s.receiveEvents tag records) := by
  have received := (s.setReceived_touches []).mono (b := { intake := true, port := true }) rfl
  unfold State.receiveEvents
  split
  · exact received.seq (State.heard_touches ((State.bump_touches _ _).mono rfl))
  · exact received.seq (State.heard_touches (State.takeEvents_touches _ _))

/-! ### What a command's state narrows -/

/-- From a state that is neither READY nor DRIVING nothing is left behind (R36, R37). -/
theorem State.leaveLink_of_not_up {s : State} (h : s.linkUp = false) (into : LinkState) : s.leaveLink into = s := by
  have down : s.link.state ≠ .driving := by
    intro hd
    simp [State.linkUp, hd] at h
  simp [State.leaveLink, h, down]

/-- READY and DRIVING are entered without leaving anything. -/
theorem State.leaveLink_of_up (s : State) {into : LinkState} (h : into = .driving ∨ into = .ready) : s.leaveLink into = s :=
  if_pos h

theorem State.enterWaking_touches {s : State} (h : s.linkUp = false) (cause : LinkCause) :
    Touches { link := true, sched := true, port := true } s (s.enterLink .waking cause) := by
  unfold State.enterLink
  rw [State.leaveLink_of_not_up h]
  exact (((Touches.refl _ s).on_link rfl).seq ((State.linkSilence_touches _).mono rfl)).seq
    ((State.report_touches _ _).mono rfl)

theorem State.enterDriving_touches (s : State) (cause : LinkCause) :
    Touches { link := true, port := true } s (s.enterLink .driving cause) := by
  unfold State.enterLink
  rw [s.leaveLink_of_up (.inl rfl)]
  exact ((Touches.refl _ s).on_link rfl).seq ((State.report_touches _ _).mono rfl)

theorem State.expireRecovery_touches_waking (s : State) :
    Touches { link := true, sched := true, port := true } s s.expireRecovery :=
  .ite (fun h => State.enterWaking_touches (by simp [State.linkUp, h.1]) _) (fun _ => .refl _ s)

theorem State.linkStart_touches_waking (s : State) (tag : Byte) :
    Touches { link := true, sched := true, port := true } s (s.linkStart tag) := by
  have replied : ∀ r d, Touches { link := true, sched := true, port := true } s (s.reply tag 7 r d) :=
    fun r d => (s.reply_touches tag 7 r d).mono rfl
  refine State.unlessRestoring_touches rfl (.ite (fun h => .ite (fun _ => replied _ _) (fun _ => ?_)) (fun _ => replied _ _))
  refine (replied _ _).seq (State.enterWaking_touches ?_ _)
  rw [State.linkUp, (s.reply_touches ..).link rfl, h]; rfl

theorem State.drivePermit_touches_link (s : State) (tag : Byte) :
    Touches { link := true, port := true } s (s.drivePermit tag) := by
  have replied : ∀ (t : State) r d, Touches { link := true, port := true } t (t.reply tag 9 r d) :=
    fun t r d => (t.reply_touches tag 9 r d).mono rfl
  have permitted : ∀ b, Touches { link := true, port := true } s (s.setPermit b) :=
    fun b => (s.setPermit_touches b).mono rfl
  refine State.unlessRestoring_touches rfl ?_
  split
  · exact replied ..
  · exact (permitted _).seq (replied ..)
  · exact (permitted _).seq (replied ..)
  · exact (permitted _).seq (replied ..)
  · exact ((permitted _).seq (replied ..)).seq (State.enterDriving_touches _ _)
  · exact replied ..

/-- A Pending strike has no window: its failure, like its admission, leaves the windows alone (R164). -/
theorem State.askStrike_touches_pending (s : State) {c : CurrentJob} (h : c.state = .pending) :
    Touches { sched := true, calib := true, port := true } s (s.askStrike c) := by
  have failed : ∀ (t : State) reason, Touches { calib := true, port := true } t (t.failJob c reason) := by
    intro t reason
    unfold State.failJob State.endStrike
    rw [h]
    exact ((t.leaveJob_touches).mono rfl).seq ((State.report_touches _ _).mono rfl)
  rcases s.askStrike_cases c with ⟨-, e⟩ | ⟨-, ⟨counter, -, e⟩ | ⟨-, -, e⟩ | ⟨spaced, hs, -, -, e⟩⟩ <;> rw [e]
  · exact (failed s _).mono rfl
  · exact ((s.bump_touches _).mono rfl).seq ((failed _ _).mono rfl)
  · exact (s.setJob_touches c).mono rfl
  · subst hs
    exact (((s.spaceNote_touches _ _ _).mono rfl).seq ((State.makeNote_touches _ _ _).mono rfl)).seq
      ((State.setJob_touches _ _).mono rfl)

theorem State.startJob_touches_pending (s : State) :
    Touches { sched := true, calib := true, port := true } s s.startJob := by
  rcases s.startJob_cases with ⟨-, h⟩ | ⟨-, h⟩ | ⟨j, rest, c, -, -, -, -, -, hc, -, h⟩ <;> rw [h]
  · exact .refl _ s
  · exact (Touches.refl _ s).on_calib rfl
  · exact ((Touches.refl _ s).on_calib rfl).seq (State.askStrike_touches_pending _ hc)

/-! ### Every command -/

/-- Settles O2: each command answers the state of its operation, whose footprint is stated with it. -/
theorem everyCommandKeepsToItsFootprint : Obligations.EveryCommandKeepsToItsFootprint := by
  intro c s
  cases c with
  | powerOn => exact ⟨_, rfl, s.coldReset_touches _⟩
  | coldResetSupplyLow => exact ⟨_, rfl, s.coldReset_touches _⟩
  | resetPin => exact ⟨_, rfl, s.warmReset_touches _⟩
  | restartReset => exact ⟨_, rfl, s.restartReset_touches⟩
  | cycleStart order => exact ⟨_, rfl, (s.cycleStart_touches order).mono rfl⟩
  | transportStart tag preroll => exact ⟨_, rfl, (s.transportStart_touches ..).mono rfl⟩
  | transportPause tag => exact ⟨_, rfl, (s.transportPause_touches ..).mono rfl⟩
  | transportResume tag => exact ⟨_, rfl, (s.transportResume_touches ..).mono rfl⟩
  | transportStop tag => exact ⟨_, rfl, (s.transportStop_touches ..).mono rfl⟩
  | setCue tag presence tick => exact ⟨_, rfl, (s.takeCue_touches ..).mono rfl⟩
  | setMode tag mode => exact ⟨_, rfl, (s.takeMode_touches ..).mono rfl⟩
  | pauseLinkLeft => exact ⟨_, rfl, s.linkLeftPause_touches.mono rfl⟩
  | cueReached => exact ⟨_, rfl, s.reachCue_touches.mono rfl⟩
  | endTick => exact ⟨_, rfl, s.reachEnd_touches.mono rfl⟩
  | clockEnd => exact ⟨_, rfl, s.reachClockEnd_touches.mono rfl⟩
  | releaseEndExpiry key => exact ⟨_, rfl, (s.releaseExpiry_touches key).mono rfl⟩
  | returnFrame elapsed bytes => exact ⟨_, rfl, (s.takeReturn_touches ..).mono rfl⟩
  | returnExpiry => exact ⟨_, rfl, s.expireReturn_touches.mono rfl⟩
  | recoveryLimitExpiry => exact ⟨_, rfl, s.expireRecovery_touches_waking⟩
  | yieldWaitEnd key => exact ⟨_, rfl, (s.yieldExpiry_touches key).mono rfl⟩
  | windowExpiry key => exact ⟨_, rfl, (s.expireWindow_touches key).mono rfl⟩
  | jobStart => exact ⟨_, rfl, s.startJob_touches_pending⟩
  | admitRecord => exact ⟨_, rfl, s.testHead_touches.mono rfl⟩
  | walkDescriptorRead => exact ⟨_, rfl, s.walkRead_touches.mono rfl⟩
  | walkComplete => exact ⟨_, rfl, s.walkEnd_touches.mono rfl⟩
  | eventsFrame tag records => exact ⟨_, rfl, s.receiveEvents_touches tag records⟩
  | frameErrors bytes => exact ⟨_, rfl, s.receiveBytes_touches bytes⟩
  | requestFrame tag payload => exact ⟨_, rfl, s.receiveRequest_touches tag payload⟩
  | transmitComplete => exact ⟨_, rfl, s.transmitDone_touches.mono rfl⟩
  | statusPeriodExpiry => exact ⟨_, rfl, s.statusExpiry_touches.mono rfl⟩
  | linkStart tag => exact ⟨_, rfl, State.heard_touches (s.linkStart_touches_waking tag)⟩
  | linkStop tag => exact ⟨_, rfl, State.heard_touches ((s.linkStop_touches ..).mono rfl)⟩
  | drivePermit tag => exact ⟨_, rfl, State.heard_touches (s.drivePermit_touches_link tag)⟩
  | readRoster tag => exact ⟨_, rfl, State.heard_touches ((s.readRoster_touches ..).mono rfl)⟩
  | clearKeyFault tag key => exact ⟨_, rfl, State.heard_touches ((s.clearKeyFault_touches ..).mono rfl)⟩
  | writeKeySense tag type number first second third =>
    exact ⟨_, rfl, State.heard_touches ((s.writeKeySense_touches ..).mono rfl)⟩
  | readKeySense tag type number => exact ⟨_, rfl, State.heard_touches ((s.readKeySense_touches ..).mono rfl)⟩
  | writeDescriptor tag set voice fields => exact ⟨_, rfl, State.heard_touches ((s.writeDescriptor_touches ..).mono rfl)⟩
  | readDescriptor tag set voice => exact ⟨_, rfl, State.heard_touches ((s.readDescriptor_touches ..).mono rfl)⟩
  | writePage tag slot page => exact ⟨_, rfl, State.heard_touches ((s.writePage_touches ..).mono rfl)⟩
  | readPage tag slot => exact ⟨_, rfl, State.heard_touches ((s.readPage_touches ..).mono rfl)⟩
  | selectVoicing tag set => exact ⟨_, rfl, State.heard_touches ((s.selectVoicing_touches ..).mono rfl)⟩
  | invalidateVoice tag voice => exact ⟨_, rfl, State.heard_touches ((s.invalidateVoice_touches ..).mono rfl)⟩
  | invalidateAll tag => exact ⟨_, rfl, State.heard_touches ((s.invalidateAll_touches ..).mono rfl)⟩
  | calibrateQueue tag job => exact ⟨_, rfl, State.heard_touches ((s.calibrateQueue_touches ..).mono rfl)⟩
  | calibrateAbort tag => exact ⟨_, rfl, State.heard_touches ((s.calibrateAbort_touches ..).mono rfl)⟩
  | setProfile tag fields => exact ⟨_, rfl, State.heard_touches ((s.setProfile_touches ..).mono rfl)⟩
  | setOptions tag values => exact ⟨_, rfl, State.heard_touches ((s.setOptions_touches ..).mono rfl)⟩
  | readStatus tag clear => exact ⟨_, rfl, State.heard_touches ((s.readStatus_touches ..).mono rfl)⟩
  | restart tag => exact ⟨_, rfl, State.heard_touches (s.takeRestart_touches tag)⟩
  | storeSave tag first last => exact ⟨_, rfl, State.heard_touches ((s.storeSave_touches ..).mono rfl)⟩
  | storeRestore tag => exact ⟨_, rfl, State.heard_touches ((s.storeRestore_touches ..).mono rfl)⟩
  | storeEraseComplete => exact ⟨_, rfl, s.eraseDone_touches.mono rfl⟩
  | storeProgramComplete medium => exact ⟨_, rfl, (s.programDone_touches medium).mono rfl⟩
  | storeVerifyComplete => exact ⟨_, rfl, s.verifyDone_touches.mono rfl⟩
  | storeReadComplete => exact ⟨_, rfl, s.readDone_touches.mono rfl⟩

end Sys2Proof.Machine
end

section
/-! PROOFS. A cycle start: what its acts and the requests that waited leave of the clock, of the frame sent and of the profile,
and the acts it makes where nothing waits. -/

namespace Sys2Proof.Machine

/-! ### What the transport's acts leave -/

/-- From `s` to `t` no cycle has passed, no request has come or gone, and the link and the profile stand but for the mark of an
open gap. -/
structure SameCycle (s t : State) : Prop where
  cycle : t.time.linkCycle = s.time.linkCycle
  tick : t.time.tick = s.time.tick
  waiting : t.time.waiting = s.time.waiting
  link : ∃ g, t.link = { s.link with gap := g }
  profile : t.port.profile = s.port.profile

theorem SameCycle.refl (s : State) : SameCycle s s := ⟨rfl, rfl, rfl, ⟨_, rfl⟩, rfl⟩

theorem SameCycle.trans {s t u : State} (h : SameCycle s t) (k : SameCycle t u) : SameCycle s u where
  cycle := k.cycle.trans h.cycle
  tick := k.tick.trans h.tick
  waiting := k.waiting.trans h.waiting
  link := by
    obtain ⟨g, hg⟩ := h.link
    obtain ⟨g', hg'⟩ := k.link
    exact ⟨g', by rw [hg', hg]⟩
  profile := k.profile.trans h.profile

theorem SameCycle.ite {s t u : State} {p : Prop} [Decidable p] (h : p → SameCycle s t) (k : ¬p → SameCycle s u) :
    SameCycle s (if p then t else u) := by
  split
  · exact h ‹_›
  · exact k ‹_›

theorem SameCycle.foldl {α : Type} {f : State → α → State} (h : ∀ s a, SameCycle s (f s a)) (l : List α) (s : State) :
    SameCycle s (l.foldl f s) := by
  induction l generalizing s with
  | nil => exact .refl s
  | cons a l ih => exact (h s a).trans (ih (f s a))

/-- A quiet change off the Time Base and the link. -/
theorem Quiet.sameCycle {s t : State} (h : Quiet s t) {b : Blocks} (k : Touches b s t) (ht : b.time = false)
    (hl : b.link = false) : SameCycle s t :=
  ⟨by rw [k.time ht], by rw [k.time ht], by rw [k.time ht], ⟨s.link.gap, k.link hl⟩, h.profile⟩

theorem SameCycle.reply {s t : State} (h : SameCycle s t) (tag : Byte) (code : Nat) (r : Result) (d : ReplyData) :
    SameCycle s (t.reply tag code r d) :=
  h.trans ((t.reply_quiet tag code r d).sameCycle (t.reply_touches ..) rfl rfl)

theorem SameCycle.report {s t : State} (h : SameCycle s t) (r : Report) : SameCycle s (t.report r) :=
  h.trans ((t.report_quiet r).sameCycle (t.report_touches _) rfl rfl)

/-- A change of the Time Base that counts nothing. -/
theorem SameCycle.setTime (s : State) {x : TimeBase} (hc : x.linkCycle = s.time.linkCycle) (ht : x.tick = s.time.tick)
    (hw : x.waiting = s.time.waiting) : SameCycle s (s.setTime x) := ⟨hc, ht, hw, ⟨_, rfl⟩, rfl⟩

theorem State.pauseTake_sameCycle (s : State) : SameCycle s s.pauseTake := by
  have paused : SameCycle s (s.setTime { s.time with transport := .paused, pauseStart := some s.startTick }) :=
    .setTime s rfl rfl rfl
  exact (paused.trans ((State.pauseSchedule_quiet _).sameCycle (State.pauseSchedule_touches _) rfl rfl)).trans
    ((State.clearWindows_quiet _).sameCycle (State.clearWindows_touches _) rfl rfl)

theorem State.resumeTake_sameCycle (s : State) : SameCycle s s.resumeTake :=
  ((s.resumeSchedule_quiet s.pausedFor).sameCycle (s.resumeSchedule_touches _) rfl rfl).trans (.setTime _ rfl rfl rfl)

theorem State.beginTake_sameCycle (s : State) (preroll : Nat) : SameCycle s (s.beginTake preroll) := by
  have begun : SameCycle s (s.setTime { s.time with
      takeBase := some s.time.linkCycle, shift := 0, preroll := preroll, pauseStart := none, endTick := none,
      transport := .running }) := .setTime s rfl rfl rfl
  refine SameCycle.trans ((begun.trans
    ((State.startTracker_quiet _).sameCycle (State.startTracker_touches _) rfl rfl)).trans
    ((State.startSchedule_quiet _).sameCycle (State.startSchedule_touches _) rfl rfl)) ?_
  exact .ite (fun _ => (State.openTake_quiet _).sameCycle (State.openTake_touches _) rfl rfl) (fun _ => .refl _)

theorem State.stopTake_sameCycle (s : State) (cause : StopCause) : SameCycle s (s.stopTake cause) :=
  ((s.stopDrive_quiet.sameCycle s.stopDrive_touches rfl rfl).trans
    ((s.stopDrive.stopFlush_quiet cause).sameCycle (s.stopDrive.stopFlush_touches cause) rfl rfl)).trans
    (.setTime _ rfl rfl rfl)

theorem State.stopGap_sameCycle (s : State) : SameCycle s s.stopGap := ⟨rfl, rfl, rfl, ⟨_, rfl⟩, rfl⟩

theorem State.unlessRestoring_sameCycle (s : State) (tag : Byte) (code : Nat) {owner : State → State}
    (h : SameCycle s (owner s)) : SameCycle s (s.unlessRestoring tag code owner) :=
  .ite (fun _ => (SameCycle.refl s).reply ..) (fun _ => h)

theorem State.transportStart_sameCycle (s : State) (tag : Byte) (preroll : Nat) :
    SameCycle s (s.transportStart tag preroll) :=
  s.unlessRestoring_sameCycle tag 2 (.ite (fun _ => (s.beginTake_sameCycle preroll).reply ..)
    (fun _ => (SameCycle.refl s).reply ..))

theorem State.transportPause_sameCycle (s : State) (tag : Byte) : SameCycle s (s.transportPause tag) :=
  s.unlessRestoring_sameCycle tag 3 (.ite
    (fun _ => (((SameCycle.refl s).reply ..).trans (State.pauseTake_sameCycle _)).report _)
    (fun _ => (SameCycle.refl s).reply ..))

theorem State.transportResume_sameCycle (s : State) (tag : Byte) : SameCycle s (s.transportResume tag) :=
  s.unlessRestoring_sameCycle tag 4 (.ite
    (fun _ => (((SameCycle.refl s).reply ..).trans (State.resumeTake_sameCycle _)).report _)
    (fun _ => (SameCycle.refl s).reply ..))

theorem State.transportStop_sameCycle (s : State) (tag : Byte) : SameCycle s (s.transportStop tag) :=
  s.unlessRestoring_sameCycle tag 5 (.ite
    (fun _ => (((SameCycle.refl s).reply ..).trans (State.stopTake_sameCycle _ _)).trans (State.stopGap_sameCycle _))
    (fun _ => (SameCycle.refl s).reply ..))

theorem State.takeCue_sameCycle (s : State) (tag : Byte) (presence tick : Nat) :
    SameCycle s (s.takeCue tag presence tick) := by
  have set : ∀ cue, SameCycle s (s.setTime { s.time with cue := cue }) := fun _ => .setTime s rfl rfl rfl
  exact s.unlessRestoring_sameCycle tag 6 (.ite (fun _ => (set none).reply ..)
    (fun _ => .ite (fun _ => (SameCycle.refl s).reply ..) (fun _ => .ite (fun _ => (SameCycle.refl s).reply ..)
      (fun _ => (set (some tick)).reply ..))))

theorem State.enterIdle_sameCycle (s : State) : SameCycle s s.enterIdle := by
  obtain ⟨s1, h1⟩ : ∃ u, u = if s.time.mode = .calibrate then s.abortJobs .modeIdle else s := ⟨_, rfl⟩
  obtain ⟨s2, h2⟩ : ∃ u, u = if s1.taking then s1.stopTake .modeIdle else s1 := ⟨_, rfl⟩
  obtain ⟨s3, h3⟩ : ∃ u, u = if s.time.mode = .replay ∨ s.time.mode = .duplex then s2.emptyIntake else s2 := ⟨_, rfl⟩
  have aborted : SameCycle s s1 := by
    rw [h1]
    exact .ite (fun _ => (s.abortJobs_quiet _).sameCycle (s.abortJobs_touches _) rfl rfl) (fun _ => .refl s)
  have stopped : SameCycle s1 s2 := by
    rw [h2]; exact .ite (fun _ => s1.stopTake_sameCycle _) (fun _ => .refl s1)
  have emptied : SameCycle s2 s3 := by
    rw [h3]; exact .ite (fun _ => s2.emptyIntake_quiet.sameCycle s2.emptyIntake_touches rfl rfl) (fun _ => .refl s2)
  have left : s.enterIdle =
      State.stopGap { s3.setTime { s3.time with mode := .idle } with port := { s3.port with timer := none } } := by
    rw [h3, h2, h1]; rfl
  rw [left]
  exact ((aborted.trans stopped).trans emptied).trans ⟨rfl, rfl, rfl, ⟨_, rfl⟩, rfl⟩

theorem State.leaveIdle_sameCycle (s : State) (m : Mode) : SameCycle s (s.leaveIdle m) :=
  ⟨rfl, rfl, rfl, ⟨_, rfl⟩, rfl⟩

theorem State.takeMode_sameCycle (s : State) (tag : Byte) (code : Nat) : SameCycle s (s.takeMode tag code) := by
  have replied : ∀ r d, SameCycle s (s.reply tag 1 r d) := fun r d => (SameCycle.refl s).reply ..
  refine s.unlessRestoring_sameCycle tag 1 (.ite (fun _ => replied _ _) (fun _ => .ite (fun _ => replied _ _) (fun _ =>
    .ite (fun _ => s.enterIdle_sameCycle.reply ..) (fun _ => .ite (fun _ => replied _ _) (fun _ => ?_)))))
  split
  · exact replied _ _
  · exact (s.leaveIdle_sameCycle _).reply ..

/-- A request that waited changes no count of the clock. -/
theorem State.takeTimed_sameCycle (s : State) (r : Byte × Request) : SameCycle s (s.takeTimed r) := by
  unfold State.takeTimed
  split
  · exact s.takeMode_sameCycle _ _
  · exact s.transportStart_sameCycle _ _
  · exact s.transportPause_sameCycle _
  · exact s.transportResume_sameCycle _
  · exact s.transportStop_sameCycle _
  · exact s.takeCue_sameCycle _ _ _
  · exact .refl s

theorem State.linkLeftPause_sameCycle (s : State) : SameCycle s s.linkLeftPause := by
  have taken : SameCycle s (s.setTime { s.time with linkLeft := .none }) := .setTime s rfl rfl rfl
  exact .ite (fun _ => .ite (fun _ => (taken.trans (State.pauseTake_sameCycle _)).report _) (fun _ => taken))
    (fun _ => .refl s)

/-! ### The acts of a cycle start -/

/-- From `s` to `t` the link cycle and the tick stand. -/
def SameTick (s t : State) : Prop := t.time.linkCycle = s.time.linkCycle ∧ t.time.tick = s.time.tick

theorem SameTick.trans {s t u : State} (h : SameTick s t) (k : SameTick t u) : SameTick s u :=
  ⟨k.1.trans h.1, k.2.trans h.2⟩

theorem SameCycle.sameTick {s t : State} (h : SameCycle s t) : SameTick s t := ⟨h.cycle, h.tick⟩

theorem Touches.sameTick {b : Blocks} {s t : State} (k : Touches b s t) (ht : b.time = false) : SameTick s t :=
  ⟨by rw [k.time ht], by rw [k.time ht]⟩

/-- Of the Time Base the dispatch changes at most the end tick (R135). -/
theorem State.fillSections_time (s : State) (left : List Entry) (window : List (Entry × Nat)) :
    ∃ x, (s.fillSections left window).1.time = { s.time with endTick := x } := by
  have sent : ∀ (l : List Entry) (u : State), ∃ x, (l.foldl State.sent u).time = { u.time with endTick := x } := by
    intro l
    induction l with
    | nil => exact fun u => ⟨u.time.endTick, rfl⟩
    | cons e l ih =>
      intro u
      obtain ⟨x, hx⟩ := u.sent_time e
      obtain ⟨y, hy⟩ := ih (u.sent e)
      exact ⟨y, by rw [List.foldl_cons, hy, hx]⟩
  obtain ⟨u, hu⟩ : ∃ u, u = s.cleared (commandsIn window) := ⟨_, rfl⟩
  rw [s.fillSections_eq left window hu]
  obtain ⟨x, hx⟩ := sent _ ((u.itemsFor (commandsIn window)).flatten.foldl State.itemSent
    (u.postpones left (commandsIn window)))
  refine ⟨x, hx.trans ?_⟩
  rw [State.itemsSent_time, (u.postpones_touches _ _).time rfl, hu, (s.cleared_touches _).time rfl]

theorem State.takeCommands_time (s : State) : ∃ x, s.takeCommands.1.time = { s.time with endTick := x } := by
  unfold State.takeCommands
  split
  · exact ⟨_, rfl⟩
  · exact ⟨_, rfl⟩
  · exact ⟨_, rfl⟩
  · exact s.fillSections_time _ _
  · exact s.fillSections_time _ _
  · split
    · obtain ⟨x, hx⟩ := s.catchUp.fillSections_time (s.catchUp.sched.entries.filter (fun e => !s.catchUp.inWindow e))
        (s.catchUp.sched.entries.filter s.catchUp.inWindow).zipIdx
      exact ⟨x, hx.trans (by rw [s.catchUp_touches.time rfl])⟩
    · exact s.fillSections_time _ _

theorem State.buildFrame_time (s : State) : ∃ x, s.buildFrame.time = { s.time with endTick := x } := by
  unfold State.buildFrame
  split
  · exact ⟨_, rfl⟩
  · exact s.takeCommands_time

theorem State.reachCue_sameCycle (s : State) : SameCycle s s.reachCue := by
  unfold State.reachCue
  split
  · exact .refl s
  · have reached : SameCycle s (s.setTime { s.time with cue := none }) := .setTime s rfl rfl rfl
    exact .ite (fun _ => (reached.trans (State.pauseTake_sameCycle _)).report _) (fun _ => reached)

theorem State.reachEnd_sameCycle (s : State) : SameCycle s s.reachEnd := by
  unfold State.reachEnd
  split
  · exact .refl s
  · exact .ite (fun _ => ((SameCycle.refl s).report _).trans (State.stopTake_sameCycle _ _)) (fun _ => .refl s)

theorem State.reachClockEnd_sameCycle (s : State) : SameCycle s s.reachClockEnd :=
  .ite (fun _ => s.stopTake_sameCycle _) (fun _ => .refl s)

theorem State.takeNext_sameTick (s : State) : SameTick s s.takeNext := by
  unfold State.takeNext
  split
  · exact ⟨rfl, rfl⟩
  · exact SameTick.trans (t := s.setTime { s.time with waiting := _ }) ⟨rfl, rfl⟩ (State.takeTimed_sameCycle _ _).sameTick

theorem State.buildFrame_sameTick (s : State) : SameTick s s.buildFrame := by
  obtain ⟨x, hx⟩ := s.buildFrame_time
  exact ⟨by rw [hx], by rw [hx]⟩

theorem State.startAction_sameTick (s : State) (a : StartAction) : SameTick s (s.startAction a) := by
  cases a
  case frame => exact s.linkLeftPause_sameCycle.sameTick.trans (State.buildFrame_sameTick _)
  case request => exact s.takeNext_sameTick
  case release => exact s.captureRelease_touches.sameTick rfl
  case retry => exact s.retryStrike_touches.sameTick rfl
  case pauseLinkLeft => exact s.linkLeftPause_sameCycle.sameTick
  case cueReached => exact s.reachCue_sameCycle.sameTick
  case endTick => exact s.reachEnd_sameCycle.sameTick
  case clockEnd => exact s.reachClockEnd_sameCycle.sameTick
  case windowExpiry k => exact (s.expireWindow_touches k).sameTick rfl
  case jobStart => exact s.startJob_touches.sameTick rfl
  case recoveryLimit => exact s.expireRecovery_touches_waking.sameTick rfl
  case admitRecord => exact s.testHead_touches.sameTick rfl
  case walkRead => exact s.walkRead_touches.sameTick rfl
  case walkEnd => exact s.walkEnd_touches.sameTick rfl

theorem State.startActions_sameTick (l : List StartAction) (s : State) : SameTick s (l.foldl State.startAction s) := by
  induction l generalizing s with
  | nil => exact ⟨rfl, rfl⟩
  | cons a l ih => exact (s.startAction_sameTick a).trans (ih _)

/-- A cycle start counts one cycle, stands at its first tick and leaves no request waiting, whatever its acts (R1, R4). -/
theorem State.cycleStart_time (s : State) (order : List StartAction) :
    (s.cycleStart order).time.linkCycle = (s.time.linkCycle + 1) % cycleModulus ∧ (s.cycleStart order).time.tick = 0 ∧
      (s.cycleStart order).time.waiting = [] := by
  have acts := State.startActions_sameTick (s.startActs order) s.advanceCycle
  have requests := SameCycle.foldl State.takeTimed_sameCycle
    ((s.startActs order).foldl State.startAction s.advanceCycle).time.waiting
    (((s.startActs order).foldl State.startAction s.advanceCycle).setTime
      { ((s.startActs order).foldl State.startAction s.advanceCycle).time with waiting := [] })
  exact ⟨requests.cycle.trans acts.1, requests.tick.trans acts.2, requests.waiting⟩

/-! ### A cycle start given no order -/

/-- Frame, retry where a strike stood Pending, release (R18, R77, R158; log 3). -/
theorem State.startActs_nil (s : State) :
    s.startActs [] = if s.strikeWaits then [.frame, .retry, .release] else [.frame, .release] := by
  unfold State.startActs
  split <;> rfl

/-- The acts of a cycle start given no order, up to the requests that waited. -/
def State.afterActs (s : State) : State :=
  let u := (s.advanceCycle.linkLeftPause).buildFrame
  (if s.strikeWaits then u.retryStrike else u).captureRelease

theorem State.cycleStart_nil (s : State) :
    s.cycleStart [] = s.afterActs.time.waiting.foldl State.takeTimed
      (s.afterActs.setTime { s.afterActs.time with waiting := [] }) := by
  have acts : (s.startActs []).foldl State.startAction s.advanceCycle = s.afterActs := by
    rw [s.startActs_nil, State.afterActs]
    split <;> rfl
  rw [State.cycleStart, acts]

/-- With no departure due there is no Pause (R8). -/
theorem State.linkLeftPause_of_none {s : State} (h : s.time.linkLeft = .none) : s.linkLeftPause = s :=
  if_neg (by rw [h]; decide)

theorem State.advanceCycle_linkLeft {s : State} (h : s.time.linkLeft = .none) : s.advanceCycle.time.linkLeft = .none := by
  simp [State.advanceCycle, h]

/-- Where nothing waits, a cycle start given no order is its frame, the retry and the release. -/
theorem State.cycleStart_nil_of_quiet {s : State} (hl : s.time.linkLeft = .none) (hw : s.time.waiting = []) :
    s.cycleStart [] = State.captureRelease
      (if s.strikeWaits then s.advanceCycle.buildFrame.retryStrike else s.advanceCycle.buildFrame) := by
  have acts : s.afterActs = State.captureRelease
      (if s.strikeWaits then s.advanceCycle.buildFrame.retryStrike else s.advanceCycle.buildFrame) := by
    unfold State.afterActs
    rw [State.linkLeftPause_of_none (State.advanceCycle_linkLeft hl)]
  obtain ⟨x, hx⟩ := s.advanceCycle.buildFrame_time
  have time : s.afterActs.time = s.advanceCycle.buildFrame.time := by
    rw [acts, State.captureRelease_touches _ |>.time rfl]
    split
    · exact (State.retryStrike_touches _).time rfl
    · rfl
  have waiting : s.afterActs.time.waiting = [] := by rw [time, hx]; exact hw
  have held : s.afterActs.setTime { s.afterActs.time with waiting := [] } = s.afterActs := by rw [← waiting]; rfl
  rw [s.cycleStart_nil, held, waiting, List.foldl_nil, acts]

/-- Settles O4. -/
theorem cycleStartsCount : Obligations.CycleStartsCount := by
  refine ⟨fun order s => ⟨_, rfl, s.cycleStart_time order⟩, fun s down recovery stopped waiting left job => ?_⟩
  have frame : s.advanceCycle.buildFrame = s.advanceCycle := if_pos down
  have waits : s.strikeWaits = false := by simp [State.strikeWaits, job]
  have release : s.advanceCycle.captureRelease = s.advanceCycle := if_neg (by simp [State.taking, State.advanceCycle, stopped])
  refine congrArg _ ((State.cycleStart_nil_of_quiet left waiting).trans ?_)
  rw [waits, frame, if_neg (by decide), release]
  simp only [State.advanceCycle, recovery, left, if_true, Option.map_none, cycleModulus]
  rw [← left, ← recovery]

/-! ### The frame of a cycle start -/

theorem State.ringRecord_congr {s t : State} (hs : t.link.state = s.link.state) (hr : t.link.roster = s.link.roster)
    (hp : t.port.profile = s.port.profile) : t.ringRecord = s.ringRecord := by
  simp only [State.ringRecord, State.keyCount, State.presenceMap, State.stationOf, hs, hr, hp]
  rfl

/-- In WAKING and ALIGNING every section is empty (R18). -/
theorem State.takeCommands_of_silent {s : State} (h : s.link.state = .waking ∨ s.link.state = .aligning) :
    s.takeCommands = (s, List.replicate 8 []) := by
  unfold State.takeCommands
  rcases h with h | h <;> rw [h]

/-- Settles O5: the frame is built of the state that a Pause for a link departure leaves, and the acts and requests behind it
leave it sent. -/
theorem aCycleStartSendsOneFrame : Obligations.ACycleStartSendsOneFrame := by
  intro s up
  set u := s.advanceCycle.linkLeftPause with hu
  have paused : SameCycle s.advanceCycle u := s.advanceCycle.linkLeftPause_sameCycle
  obtain ⟨g, link⟩ := paused.link
  have state : u.link.state = s.link.state := by rw [link]; rfl
  have hup : u.link.state ≠ .down := by rw [state]; exact up
  set f : CycleFrame :=
    { cycle := u.time.linkCycle, state := u.link.state, echo := u.link.echo, slow := u.slowByte, sections := u.takeCommands.2 }
    with hf
  have built : u.buildFrame.link = { u.takeCommands.1.link with
      frameOut := some f, expiry := some u.time.linkCycle, echo := .idle } := by
    unfold State.buildFrame
    rw [if_neg hup]
  have acts : s.afterActs.link = u.buildFrame.link := by
    unfold State.afterActs
    rw [(State.captureRelease_touches _).link rfl]
    split
    · exact (State.retryStrike_touches _).link rfl
    · rfl
  obtain ⟨g', requests⟩ := (SameCycle.foldl State.takeTimed_sameCycle s.afterActs.time.waiting
    (s.afterActs.setTime { s.afterActs.time with waiting := [] })).link
  have sent : s.afterActs.link = { u.takeCommands.1.link with
      frameOut := some f, expiry := some u.time.linkCycle, echo := .idle } := acts.trans built
  rw [← State.cycleStart_nil, show (s.afterActs.setTime { s.afterActs.time with waiting := [] }).link =
    s.afterActs.link from rfl, sent] at requests
  have cycle : u.time.linkCycle = (s.time.linkCycle + 1) % 4294967296 := paused.cycle
  refine ⟨_, f, rfl, by rw [requests], by rw [requests], cycle, state, by rw [hf, link]; rfl, by rw [requests], ?slow,
    u.length_takeCommands hup, fun h l hl => ?empty, u.takeCommands_lawful⟩
  case slow =>
    have ring : u.ringRecord = s.ringRecord := State.ringRecord_congr state (by rw [link]; rfl) paused.profile
    rw [← ring]; rfl
  case empty =>
    rw [hf, State.takeCommands_of_silent (by rw [state]; exact h)] at hl
    exact List.eq_of_mem_replicate hl

end Sys2Proof.Machine
end

section
/-! PROOFS. The Pauses, the Resume and the Stops (R5 to R12, R139, R140): what one key's part leaves of that key and of the
others, the whole schedule by it, and the requests and acts of the transport. -/

namespace Sys2Proof.Machine

/-! ### What is done key by key -/

theorem mem_allKeys {k : Nat} : k ∈ allKeys ↔ Keyed k := by
  simp only [allKeys, List.mem_range'_1]; omega

theorem nodup_allKeys : allKeys.Nodup := List.nodup_range'

/-- Of something done once for each of some keys, what it does for one of them, between what it does for the others. -/
theorem foldl_at {f : State → Nat → State} {R : State → State → Prop} (refl : ∀ s, R s s)
    (trans : ∀ {s t u}, R s t → R t u → R s u) {k : Nat} (h : ∀ s a, a ≠ k → R s (f s a)) {l : List Nat} (hk : k ∈ l)
    (hn : l.Nodup) (s : State) : ∃ u, R s u ∧ R (f u k) (l.foldl f s) := by
  have others : ∀ (l : List Nat) (s : State), k ∉ l → R s (l.foldl f s) := by
    intro l
    induction l with
    | nil => exact fun s _ => refl s
    | cons a l ih =>
      intro s ha
      exact trans (h s a (fun e => ha (e ▸ List.mem_cons_self ..))) (ih _ (fun hm => ha (List.mem_cons_of_mem _ hm)))
  obtain ⟨l1, l2, rfl⟩ := List.append_of_mem hk
  obtain ⟨-, hn2, apart⟩ := List.nodup_append.1 hn
  have h1 : k ∉ l1 := fun hm => apart k hm k (List.mem_cons_self ..) rfl
  rw [List.foldl_append, List.foldl_cons]
  exact ⟨l1.foldl f s, others l1 s h1, others l2 _ (List.nodup_cons.1 hn2).1⟩

/-- What is decided by R126, in the terms of the statements. -/
theorem State.decideDrive_eq (s : State) (k : Nat) : s.decideDrive k = s.stateBy126 k := rfl

theorem State.stateBy126_congr {s t : State} {k : Nat} (hf : t.faulted k = s.faulted k)
    (hy : t.waitingYield k = s.waitingYield k) (hd : t.driveOf k = s.driveOf k) (ha : t.armed k = s.armed k)
    (hn : t.now = s.now) : t.stateBy126 k = s.stateBy126 k :=
  State.decideDrive_congr hf hy (by rw [hd]) (by rw [hd]) ha hn

/-- The key's record once an immediate Off is asked (R138). -/
theorem State.driveOf_askOff (s : State) {k : Nat} (hk : Keyed k) :
    (s.askOff k).driveOf k = (s.driveOf k).offAsked s.earliest := by
  rcases s.askOff_cases k with ⟨hd, h⟩ | ⟨hd, h⟩ <;> rw [h]
  · simp [KeyDrive.offAsked, hd]
  · rw [s.driveOf_setDrive_self _ hk.1 hk.2]
    simp [KeyDrive.offAsked, hd, atLeast, laterOf]

theorem KeyDrive.offAsked_driven (d : KeyDrive) (e : Nat) : (d.offAsked e).driven = false := by
  unfold KeyDrive.offAsked
  cases h : d.driven <;> simp [h]

theorem KeyDrive.offAsked_asked (d : KeyDrive) (e : Nat) (h : d.driven = true) : (d.offAsked e).immediateOff = true := by
  simp [KeyDrive.offAsked, h]

/-- From `s` to `t` nothing that R126 reads of key k has changed, nor its record. -/
structure SameKey (k : Nat) (s t : State) : Prop where
  drive : t.driveOf k = s.driveOf k
  strikes : t.sched.entries.filter (fun e => e.strikes k) = s.sched.entries.filter (fun e => e.strikes k)
  blocks : Touches { sched := true } s t

theorem SameKey.refl (k : Nat) (s : State) : SameKey k s s := ⟨rfl, rfl, .refl _ s⟩

theorem SameKey.trans {k : Nat} {s t u : State} (h : SameKey k s t) (g : SameKey k t u) : SameKey k s u :=
  ⟨g.drive.trans h.drive, g.strikes.trans h.strikes, h.blocks.seq g.blocks⟩

theorem armed_of_strikes {k : Nat} {s t : State}
    (h : t.sched.entries.filter (fun e => e.strikes k) = s.sched.entries.filter (fun e => e.strikes k)) :
    t.armed k = s.armed k := by
  have any : ∀ u : State, u.armed k = !(u.sched.entries.filter (fun e => e.strikes k)).isEmpty := by
    intro u
    rw [State.armed, Bool.eq_iff_iff]
    simp [List.any_eq_true, List.filter_eq_nil_iff]
  rw [any, any, h]

theorem SameKey.armed {k : Nat} {s t : State} (h : SameKey k s t) : t.armed k = s.armed k := armed_of_strikes h.strikes

/-- Where only the schedule changes, R126 reads the fault set, the yield records and now as before. -/
theorem Touches.stateBy126 {k : Nat} {s t : State} (h : Touches { sched := true } s t) (hd : t.driveOf k = s.driveOf k)
    (ha : t.armed k = s.armed k) : t.stateBy126 k = s.stateBy126 k :=
  State.stateBy126_congr (State.faulted_congr (by rw [h.link rfl]) k) (State.waitingYield_congr (by rw [h.duplex rfl]) k)
    hd ha (State.now_congr (h.time rfl))

theorem SameKey.state {k : Nat} {s t : State} (h : SameKey k s t) : t.stateBy126 k = s.stateBy126 k :=
  h.blocks.stateBy126 h.drive h.armed

/-- A key decided anew. -/
theorem State.driveOf_redecide (s : State) {k : Nat} (hk : Keyed k) :
    (s.redecide k).driveOf k = { s.driveOf k with state := (s.redecide k).stateBy126 k } := by
  rw [s.driveOf_redecide_self hk.1 hk.2, s.decideDrive_eq]
  have same : (s.redecide k).stateBy126 k = s.stateBy126 k :=
    State.decideDrive_congr (s := s) (t := s.redecide k) rfl rfl (by rw [s.driveOf_redecide_self hk.1 hk.2])
      (by rw [s.driveOf_redecide_self hk.1 hk.2]) rfl rfl
  rw [same]

/-! ### The Pause (R139) -/

/-- The Off `e` leaves by a Pause, given the notes of the key's Attacks and Holds and whether one of them stands before it. -/
def KeyDrive.pauses (d : KeyDrive) (k : Nat) (strikes : List Nat) (seen : Bool) (e : Entry) : Bool :=
  e.offOf k && e.note.any (fun id =>
    d.notes.any (fun n => n.id == id && n.attackDispatched && !n.offDispatched) ||
      (d.driven && !seen && !d.notes.any (fun n => n.id == id) && !strikes.contains id))

theorem pauseRemoves_cons (d : KeyDrive) (k : Nat) (strikes : List Nat) (seen : Bool) (e : Entry) (es : List Entry) :
    pauseRemoves d k strikes seen (e :: es) =
      if d.pauses k strikes seen e then pauseRemoves d k strikes (seen || e.strikes k) es
      else e :: pauseRemoves d k strikes (seen || e.strikes k) es := rfl

/-- One of the key's Attacks and Holds stands before `x` among some numbered entries. -/
def strikeBefore (k : Nat) (l : List (Entry × Nat)) (x : Entry × Nat) : Bool :=
  l.any (fun y => y.1.strikes k && decide (y.2 < x.2))

/-- What a Pause removes of one key, entry by entry at their numbers. -/
theorem pauseRemoves_numbered (d : KeyDrive) (k : Nat) (strikes : List Nat) (l : List (Entry × Nat)) (seen : Bool)
    (sorted : l.Pairwise (fun a b => a.2 < b.2)) :
    pauseRemoves d k strikes seen (l.map Prod.fst) =
      (l.filter (fun x => !d.pauses k strikes (seen || strikeBefore k l x) x.1)).map Prod.fst := by
  induction l generalizing seen with
  | nil => rfl
  | cons y l ih =>
    obtain ⟨first, rest⟩ := List.pairwise_cons.1 sorted
    have head : strikeBefore k (y :: l) y = false := by
      simp only [strikeBefore, List.any_cons, Nat.lt_irrefl, decide_false, Bool.and_false, Bool.false_or,
        List.any_eq_false, Bool.and_eq_true, decide_eq_true_eq, not_and]
      intro x hx _
      have := first x hx
      omega
    have tail : ∀ x ∈ l, (seen || strikeBefore k (y :: l) x) = (seen || y.1.strikes k || strikeBefore k l x) := by
      intro x hx
      simp [strikeBefore, first x hx, Bool.or_assoc]
    have same : l.filter (fun x => !d.pauses k strikes (seen || strikeBefore k (y :: l) x) x.1) =
        l.filter (fun x => !d.pauses k strikes (seen || y.1.strikes k || strikeBefore k l x) x.1) :=
      List.filter_congr (fun x hx => by rw [tail x hx])
    rw [List.map_cons, pauseRemoves_cons, ih _ rest, List.filter_cons, head, Bool.or_false, same]
    cases d.pauses k strikes seen y.1 <;> simp

/-- The notes of the key's Attacks and Holds. -/
def State.strikeNotes (s : State) (k : Nat) : List Nat :=
  (s.sched.entries.filter (fun e => e.strikes k)).filterMap Entry.note

/-- The numbered entry `x` of `s` leaves by a Pause of key k. -/
def State.pausesAt (s : State) (x : Entry × Nat) (k : Nat) : Bool :=
  (s.driveOf k).pauses k (s.strikeNotes k) (strikeBefore k s.sched.entries.zipIdx x) x.1

theorem Entry.not_offOf_of_strikes {e : Entry} {j k : Nat} (h : e.strikes j = true) : e.offOf k = false := by
  simp only [Entry.strikes, Bool.and_eq_true, Bool.or_eq_true, beq_iff_eq] at h
  rcases h.1 with hk | hk <;> simp [Entry.offOf, hk]

theorem State.not_pausesAt_of_strikes {s : State} {x : Entry × Nat} {j k : Nat} (h : x.1.strikes j = true) :
    s.pausesAt x k = false := by
  simp [State.pausesAt, KeyDrive.pauses, Entry.not_offOf_of_strikes h]

/-- The number of an entry is its place. -/
theorem sorted_zipIdx {α : Type} (l : List α) : l.zipIdx.Pairwise (fun a b => a.2 < b.2) := by
  rw [List.pairwise_iff_getElem]
  intro i j hi hj hij
  simpa using hij

theorem State.pauseKey_entries (s : State) (k : Nat) :
    (s.pauseKey k).sched.entries = pauseRemoves (s.driveOf k) k (s.strikeNotes k) false s.sched.entries := by
  unfold State.pauseKey
  simp only [State.redecide_entries, State.askOff_entries, State.mapNotes_entries, State.setEntries_sched_entries]
  rfl

theorem State.driveOf_pauseKey_ne (s : State) {j k : Nat} (h : j ≠ k) : (s.pauseKey k).driveOf j = s.driveOf j := by
  unfold State.pauseKey
  simp only
  rw [State.driveOf_redecide_ne _ h, State.driveOf_askOff_ne _ h, State.driveOf_mapNotes_ne _ _ h]
  exact State.driveOf_congr rfl j

/-- A Pause of one key removes no Attack and no Hold. -/
theorem State.pauseKey_strikes (s : State) (j k : Nat) :
    (s.pauseKey k).sched.entries.filter (fun e => e.strikes j) = s.sched.entries.filter (fun e => e.strikes j) := by
  rw [s.pauseKey_entries]
  generalize s.strikeNotes k = strikes
  generalize false = seen
  induction s.sched.entries generalizing seen with
  | nil => rfl
  | cons e es ih =>
    rw [pauseRemoves_cons, List.filter_cons]
    split
    · next hp =>
      have : e.strikes j = false := by
        cases hs : e.strikes j
        · rfl
        · simp [KeyDrive.pauses, Entry.not_offOf_of_strikes hs] at hp
      rw [ih, this]; rfl
    · rw [List.filter_cons, ih]

theorem State.pauseKey_sameKey (s : State) {j k : Nat} (h : j ≠ k) : SameKey k s (s.pauseKey j) :=
  ⟨s.driveOf_pauseKey_ne h.symm, s.pauseKey_strikes k j, s.pauseKey_touches j⟩

theorem Note.paused_eq (e : Nat) (n : Note) :
    (if n.attackDispatched && !n.offDispatched then { n with offDispatched := true, off := e, origin := .paused } else n) =
      Note.paused e n := rfl

/-- What a Pause makes of the key itself (R138, R139). -/
theorem State.driveOf_pauseKey (s : State) {k : Nat} (hk : Keyed k) :
    (s.pauseKey k).driveOf k = { (s.driveOf k).offAsked s.earliest with
      notes := (s.driveOf k).notes.map (Note.paused s.earliest), state := (s.pauseKey k).stateBy126 k } := by
  set u := s.setEntries (pauseRemoves (s.driveOf k) k (s.strikeNotes k) false s.sched.entries) with hu
  have paused : s.pauseKey k = ((u.mapNotes k (Note.paused s.earliest)).askOff k).redecide k := rfl
  have drive : u.driveOf k = s.driveOf k := rfl
  have asked : ((u.mapNotes k (Note.paused s.earliest)).askOff k).driveOf k =
      { (s.driveOf k).offAsked s.earliest with notes := (s.driveOf k).notes.map (Note.paused s.earliest) } := by
    rw [State.driveOf_askOff _ hk, State.driveOf_mapNotes_self _ _ hk.1 hk.2, drive]
    unfold KeyDrive.offAsked
    cases (s.driveOf k).driven <;> rfl
  rw [paused, State.driveOf_redecide _ hk, asked]

/-- What the Pause leaves of the schedule: of its numbered entries those that no key's part takes. -/
theorem State.pauseKeys_entries (s : State) (l : List Nat) (u : State) (kept : Entry × Nat → Bool) (hn : l.Nodup)
    (entries : u.sched.entries = (s.sched.entries.zipIdx.filter kept).map Prod.fst)
    (strikes : ∀ x k, x.1.strikes k = true → kept x = true) (drive : ∀ k ∈ l, u.driveOf k = s.driveOf k) :
    (l.foldl State.pauseKey u).sched.entries =
      (s.sched.entries.zipIdx.filter (fun x => kept x && !l.any (s.pausesAt x))).map Prod.fst := by
  induction l generalizing u kept with
  | nil => simp [entries]
  | cons k l ih =>
    obtain ⟨fresh, hn⟩ := List.nodup_cons.1 hn
    have notes : u.strikeNotes k = s.strikeNotes k := by
      have : u.sched.entries.filter (fun e => e.strikes k) = s.sched.entries.filter (fun e => e.strikes k) := by
        rw [entries, List.filter_map, List.filter_filter]
        conv_rhs => rw [← List.zipIdx_map_fst 0 s.sched.entries, List.filter_map]
        refine congrArg _ (List.filter_congr (fun x _ => ?_))
        cases hx : x.1.strikes k
        · simp [hx]
        · simp [hx, strikes x k hx]
      unfold State.strikeNotes
      rw [this]
    have before : ∀ x, strikeBefore k (s.sched.entries.zipIdx.filter kept) x = strikeBefore k s.sched.entries.zipIdx x := by
      intro x
      rw [Bool.eq_iff_iff]
      simp only [strikeBefore, List.any_eq_true, List.mem_filter, Bool.and_eq_true]
      exact ⟨fun ⟨y, ⟨hy, _⟩, h⟩ => ⟨y, hy, h⟩, fun ⟨y, hy, h⟩ => ⟨y, ⟨hy, strikes y k h.1⟩, h⟩⟩
    have step : (u.pauseKey k).sched.entries =
        (s.sched.entries.zipIdx.filter (fun x => kept x && !s.pausesAt x k)).map Prod.fst := by
      rw [u.pauseKey_entries, notes, drive k (List.mem_cons_self ..), entries,
        pauseRemoves_numbered _ _ _ _ _ ((sorted_zipIdx _).sublist List.filter_sublist), List.filter_filter]
      congr 1
      refine List.filter_congr (fun x _ => ?_)
      rw [Bool.false_or, before, State.pausesAt, Bool.and_comm]
    rw [List.foldl_cons, ih (u.pauseKey k) _ hn step (fun x j hx => ?_) (fun j hj => ?_)]
    · congr 1
      refine List.filter_congr (fun x _ => ?_)
      rw [List.any_cons]
      cases kept x <;> simp
    · rw [strikes x j hx, State.not_pausesAt_of_strikes hx]; rfl
    · rw [u.driveOf_pauseKey_ne (fun e : j = k => fresh (e ▸ hj)), drive j (List.mem_cons_of_mem _ hj)]

/-- Which of the numbered entries leave by a Pause, key by key and as R139 says it. -/
theorem State.pauseTakes_iff (s : State) {x : Entry × Nat} (hx : x ∈ s.sched.entries.zipIdx) :
    allKeys.any (s.pausesAt x) = true ↔ s.pauseTakes x := by
  have off : ∀ k, x.1.offOf k = true ↔ x.1.kind = .off ∧ x.1.target = k := fun k => by
    simp [Entry.offOf]
  have sounding : ∀ id, ((s.driveOf x.1.target).notes.any
      (fun n => n.id == id && n.attackDispatched && !n.offDispatched) = true) ↔
        ∃ n ∈ (s.driveOf x.1.target).notes, n.id = id ∧ n.sounds = true := fun id => by
    simp [List.any_eq_true, Note.sounds, and_assoc]
  have gone : ∀ id, ((s.driveOf x.1.target).notes.any (fun n => n.id == id) = false) ↔
      ∀ n ∈ (s.driveOf x.1.target).notes, n.id ≠ id := fun id => by
    simp [List.any_eq_false]
  have alone : ∀ id, x.1.kind = .off → ((strikeBefore x.1.target s.sched.entries.zipIdx x = false ∧
      (s.strikeNotes x.1.target).contains id = false) ↔
        ∀ y ∈ s.sched.entries.zipIdx, y.1.strikes x.1.target = true → x.2 < y.2 ∧ y.1.note ≠ some id) := by
    intro id hoff
    have notStrike : x.1.strikes x.1.target = false := by simp [Entry.strikes, hoff]
    constructor
    · rintro ⟨before, none⟩ y hy hs
      have notBefore : ¬ y.2 < x.2 := by
        intro hlt
        have : strikeBefore x.1.target s.sched.entries.zipIdx x = true :=
          List.any_eq_true.2 ⟨y, hy, by simp [hs, hlt]⟩
        rw [before] at this; cases this
      have apart : y.2 ≠ x.2 := by
        intro he
        have hye := List.mem_zipIdx_iff_getElem?.1 hy
        have hxe := List.mem_zipIdx_iff_getElem?.1 hx
        rw [he, hxe] at hye
        rw [← Option.some.inj hye] at hs
        rw [hs] at notStrike; cases notStrike
      refine ⟨by omega, fun hn => ?_⟩
      have : id ∈ s.strikeNotes x.1.target :=
        List.mem_filterMap.2 ⟨y.1, List.mem_filter.2 ⟨List.fst_mem_of_mem_zipIdx hy, hs⟩, hn⟩
      rw [← List.contains_iff_mem, none] at this; cases this
    · intro h
      constructor
      · rw [Bool.eq_false_iff]
        intro hb
        obtain ⟨y, hy, hyb⟩ := List.any_eq_true.1 hb
        simp only [Bool.and_eq_true, decide_eq_true_eq] at hyb
        have := (h y hy hyb.1).1
        omega
      · rw [Bool.eq_false_iff]
        intro hc
        obtain ⟨e, he, hn⟩ := List.mem_filterMap.1 (List.contains_iff_mem.1 hc)
        obtain ⟨hm, hs⟩ := List.mem_filter.1 he
        obtain ⟨i, hi⟩ := List.mem_iff_getElem?.1 hm
        exact (h (e, i) (List.mem_zipIdx_iff_getElem?.2 hi) hs).2 hn
  rw [List.any_eq_true]
  constructor
  · rintro ⟨k, hk, hp⟩
    simp only [State.pausesAt, KeyDrive.pauses, Bool.and_eq_true, off] at hp
    obtain ⟨⟨hoff, rfl⟩, hn⟩ := hp
    obtain ⟨id, hid, hcond⟩ := (Option.any_eq_true _ _).1 hn
    refine ⟨mem_allKeys.1 hk, hoff, id, hid, ?_⟩
    rcases Bool.or_eq_true_iff.1 hcond with hs | hd
    · exact .inl ((sounding id).1 hs)
    · simp only [Bool.and_eq_true, Bool.not_eq_true'] at hd
      obtain ⟨⟨⟨driven, before⟩, left⟩, none⟩ := hd
      exact .inr ⟨driven, (gone id).1 left, (alone id hoff).1 ⟨before, none⟩⟩
  · rintro ⟨hk, hoff, id, hid, hcond⟩
    refine ⟨x.1.target, mem_allKeys.2 hk, ?_⟩
    simp only [State.pausesAt, KeyDrive.pauses, Bool.and_eq_true, off]
    refine ⟨⟨hoff, trivial⟩, (Option.any_eq_true _ _).2 ⟨id, hid, Bool.or_eq_true_iff.2 ?_⟩⟩
    rcases hcond with hs | ⟨driven, left, rest⟩
    · exact .inl ((sounding id).2 hs)
    · obtain ⟨before, none⟩ := (alone id hoff).2 rest
      simp only [Bool.and_eq_true, Bool.not_eq_true']
      exact .inr ⟨⟨⟨driven, before⟩, (gone id).2 left⟩, none⟩

/-- What the Pause leaves of one key. -/
theorem State.driveOf_pauseSchedule (s : State) {k : Nat} (hk : Keyed k) :
    s.pauseSchedule.driveOf k = { (s.driveOf k).offAsked s.earliest with
      notes := (s.driveOf k).notes.map (Note.paused s.earliest), state := s.pauseSchedule.stateBy126 k } := by
  obtain ⟨u, before, behind⟩ := foldl_at (SameKey.refl k) SameKey.trans (fun s j h => s.pauseKey_sameKey h)
    (mem_allKeys.2 hk) nodup_allKeys s
  unfold State.pauseSchedule
  rw [behind.drive, behind.state, u.driveOf_pauseKey hk, before.drive,
    State.earliest_congr (before.blocks.time rfl)]

theorem State.pauseSchedule_pedals (s : State) : s.pauseSchedule.sched.pedals = s.sched.pedals := by
  unfold State.pauseSchedule
  generalize allKeys = l
  induction l generalizing s with
  | nil => rfl
  | cons k l ih =>
    refine (ih (s.pauseKey k)).trans ?_
    have asked : ∀ u : State, (u.askOff k).sched.pedals = u.sched.pedals := by
      intro u
      rcases u.askOff_cases k with ⟨-, h⟩ | ⟨-, h⟩ <;> rw [h]
      rfl
    exact asked _

/-- The Pause reaching the schedule, and every window gone behind it, hold the take. -/
theorem State.pauseSchedule_held (s : State) : TakeHeld s s.pauseSchedule.clearWindows := by
  have entries := s.pauseKeys_entries allKeys s (fun _ => true) nodup_allKeys (by simp) (fun _ _ _ => rfl) (fun _ _ => rfl)
  have drive := fun k hk => s.driveOf_pauseSchedule (k := k) hk
  have pedals := s.pauseSchedule_pedals
  have touches := s.pauseSchedule_touches
  unfold State.pauseSchedule at *
  generalize allKeys.foldl State.pauseKey s = t at *
  refine ⟨fun k hk => ?silenced, fun k => nth_replicate none k, ⟨_, List.filter_sublist, ?kept, entries⟩, drive,
    pedals, (show t.duplex.yields = s.duplex.yields by rw [touches.duplex rfl]),
    (touches.mono rfl).seq ((State.clearWindows_touches t).mono rfl)⟩
  case silenced =>
    have : t.clearWindows.driveOf k = t.driveOf k := rfl
    rw [this, drive k hk]
    exact ⟨KeyDrive.offAsked_driven _ _, KeyDrive.offAsked_asked _ _⟩
  case kept =>
    intro x hx
    rw [List.mem_filter, ← s.pauseTakes_iff hx]
    simp [hx]

/-- What is handed before a Pause and behind it, and what is forgotten of the clock, leaves the take held as it is. -/
theorem TakeHeld.between {s s1 t1 t : State} (h : TakeHeld s1 t1) (before : Touches { time := true, port := true } s s1)
    (earliest : s1.earliest = s.earliest) (behind : Touches { port := true } t1 t) : TakeHeld s t := by
  have sched : s1.sched = s.sched := before.sched rfl
  have drive : ∀ k, s1.driveOf k = s.driveOf k := State.driveOf_congr (by rw [sched])
  have drive' : ∀ k, t.driveOf k = t1.driveOf k := State.driveOf_congr (by rw [behind.sched rfl])
  obtain ⟨silenced, windows, ⟨kept, sub, which, entries⟩, drives, pedals, yields, blocks⟩ := h
  refine ⟨fun k hk => ?_, fun k => ?_, ⟨kept, sched ▸ sub, fun x hx => ?_, ?_⟩, fun k hk => ?_, ?_, ?_,
    (before.mono rfl).seq (blocks.seq (behind.mono rfl))⟩
  · rw [drive', ← drive]; exact silenced k hk
  · exact (State.windowOf_congr (by rw [behind.duplex rfl]) k).trans (windows k)
  · rw [which x (sched ▸ hx)]
    unfold State.pauseTakes
    rw [sched]
    simp only [drive]
  · rw [behind.sched rfl]; exact entries
  · have state : t.stateBy126 k = t1.stateBy126 k :=
      State.stateBy126_congr (State.faulted_congr (by rw [behind.link rfl]) k)
        (State.waitingYield_congr (by rw [behind.duplex rfl]) k) (drive' k)
        (State.armed_congr (by rw [behind.sched rfl]) k) (State.now_congr (behind.time rfl))
    rw [drive', state, drives k hk, drive, earliest]
  · rw [behind.sched rfl, pedals, sched]
  · rw [behind.duplex rfl, yields, before.duplex rfl]

theorem State.pauseTake_time (s : State) :
    s.pauseTake.time = { s.time with transport := .paused, pauseStart := some s.startTick } := by
  unfold State.pauseTake
  rw [(State.clearWindows_touches _).time rfl, (State.pauseSchedule_touches _).time rfl]

/-- The Pause behaviour holds the take. -/
theorem State.pauseTake_held (s : State) : TakeHeld s s.pauseTake := by
  obtain ⟨p, hp⟩ : ∃ p, p = { s with time := { s.time with transport := .paused, pauseStart := some s.startTick } } :=
    ⟨_, rfl⟩
  have before : Touches { time := true, port := true } s p := by
    rw [hp]; exact (Touches.refl _ s).on_time rfl
  have held : s.pauseTake = p.pauseSchedule.clearWindows := by rw [hp, State.pauseTake]
  rw [held]
  exact p.pauseSchedule_held.between before (by rw [hp]; rfl) (.refl _ _)

/-- A request that no restore refuses is judged by its owner. -/
theorem State.unlessRestoring_of_not {s : State} (h : s.restoring = false) (tag : Byte) (code : Nat)
    (owner : State → State) : s.unlessRestoring tag code owner = owner s := by
  rw [State.unlessRestoring_eq, h]; rfl

theorem State.pauseTake_port (s : State) : s.pauseTake.port = s.port := s.pauseTake_touches.port rfl

/-- A Pause whose report is handed behind it: the take is held, and the port is as without the Pause. -/
theorem State.pauseReported (s s1 : State) (r : Report) (before : Touches { time := true, port := true } s s1)
    (cycle : s1.takeCycle = s.takeCycle) :
    TakeHeld s (s1.pauseTake.report r) ∧
      (s1.pauseTake.report r).time = { s1.time with transport := .paused, pauseStart := some s.startTick } ∧
      (s1.pauseTake.report r).port = (s1.report r).port := by
  have start : s1.startTick = s.startTick := by rw [State.startTick, cycle]; rfl
  refine ⟨s1.pauseTake_held.between before (by rw [State.earliest, cycle]; rfl) (State.report_touches _ _), ?_, ?_⟩
  · rw [(State.report_touches _ _).time rfl, s1.pauseTake_time, start]
  · exact State.report_port_congr r s1.pauseTake_port (s1.pauseTake_touches.intake rfl) (by rw [s1.pauseTake_time])

/-- A cue of a take whose take cycle has come is due (R12). -/
theorem State.cueDue_of (s : State) {cue : Nat} (hc : s.time.cue = some cue) (taking : s.time.transport ≠ .stopped)
    (come : cue / 20 ≤ s.takeCycle) : s.cueDue = some cue := by
  simp [State.cueDue, State.taking, taking, hc, Option.filter, come]

/-- Settles O13. -/
theorem pausesHoldTheTake : Obligations.PausesHoldTheTake := by
  refine ⟨fun tag s hr running mode => ?request, fun s => ⟨fun due running => ?left, fun due running => ?forgotten,
    fun due => ?notDue, fun cue hc running mode come => ?cue, fun cue hc taking come other => ?absent, fun later => ?none⟩⟩
  case request =>
    have replied := s.reply_touches tag 3 .done .nothing
    obtain ⟨held, time, port⟩ := s.pauseReported (s.reply tag 3 .done .nothing) (.paused s.startTick .request)
      (replied.mono rfl) (State.takeCycle_congr (replied.time rfl))
    have paused : s.transportPause tag =
        ((s.reply tag 3 .done .nothing).pauseTake).report (.paused s.startTick .request) := by
      rw [State.transportPause, State.unlessRestoring_of_not hr, if_pos ⟨running, mode⟩]
    refine ⟨_, rfl, ?_⟩
    rw [paused]
    exact ⟨by rw [time, replied.time rfl], held, port⟩
  case left =>
    have forgot : Touches { time := true, port := true } s (s.setTime { s.time with linkLeft := .none }) :=
      (s.setTime_touches _).mono rfl
    obtain ⟨held, time, port⟩ := s.pauseReported (s.setTime { s.time with linkLeft := .none })
      (.paused s.startTick .linkLeft) forgot rfl
    have paused : s.linkLeftPause =
        ((s.setTime { s.time with linkLeft := .none }).pauseTake).report (.paused s.startTick .linkLeft) := by
      unfold State.linkLeftPause
      rw [if_pos due]
      exact if_pos running
    refine ⟨_, rfl, ?_⟩
    rw [paused]
    exact ⟨time, held, port.trans (State.report_port_congr _ rfl rfl rfl)⟩
  case forgotten =>
    refine congrArg Host.Outcome.next ?_
    unfold State.linkLeftPause
    rw [if_pos due]
    exact if_neg running
  case notDue => exact congrArg _ (if_neg due)
  case cue =>
    have due : s.cueDue = some cue := s.cueDue_of hc (by rw [running]; decide) come
    have reached : Touches { time := true, port := true } s (s.setTime { s.time with cue := none }) :=
      (s.setTime_touches _).mono rfl
    obtain ⟨held, time, port⟩ := s.pauseReported (s.setTime { s.time with cue := none })
      (.cueReached cue s.startTick) reached rfl
    have paused : s.reachCue =
        ((s.setTime { s.time with cue := none }).pauseTake).report (.cueReached cue s.startTick) := by
      unfold State.reachCue
      rw [due]
      exact if_pos ⟨running, mode⟩
    refine ⟨_, rfl, ?_⟩
    rw [paused]
    exact ⟨time, held, port.trans (State.report_port_congr _ rfl rfl rfl)⟩
  case absent =>
    have due : s.cueDue = some cue := s.cueDue_of hc taking come
    refine congrArg Host.Outcome.next ?_
    unfold State.reachCue
    rw [due]
    refine if_neg (fun ⟨running, replays⟩ => ?_)
    rcases other with paused | ⟨h1, h2⟩
    · rw [show s.time.transport = .running from running] at paused; cases paused
    · exact replays.elim h1 h2
  case none =>
    refine congrArg Host.Outcome.next ?_
    have due : s.cueDue = none := by
      unfold State.cueDue
      cases hc : s.time.cue with
      | none => simp
      | some cue =>
        rcases later cue hc with h | h
        · simp [State.taking, h]
        · simp [Option.filter, h]
    unfold State.reachCue
    rw [due]

end Sys2Proof.Machine
end

section
/-! PROOFS. The start, the resume, the stops and the modes (R5, R9 to R12, R14, R82, R140), and what a flush hands. -/

namespace Sys2Proof.Machine

/-! ### Start and Resume -/

theorem State.takeCycle_at_base {s : State} (h : s.time.takeBase = some s.time.linkCycle) : s.takeCycle = 0 := by
  unfold State.takeCycle State.takeCycleOf
  rw [h]
  simp

theorem State.trackerOf_startTracker (s : State) (k : Nat) :
    s.startTracker.trackerOf k = { s.trackerOf k with sounded := false, lastStamp := none } :=
  nth_map (β := TrackerRecord) s.tracker.keys (fun r : TrackerRecord => { r with sounded := false, lastStamp := none }) k TrackerRecord.initial

theorem State.pedalOf_startTracker (s : State) (q : Nat) :
    s.startTracker.pedalOf q = { s.pedalOf q with lastEmitted := none } :=
  nth_map (β := PedalCapture) s.tracker.pedals (fun p : PedalCapture => { p with lastEmitted := none }) q PedalCapture.initial

theorem State.pedalDriveOf_startSchedule (s : State) (q : Nat) :
    s.startSchedule.pedalDriveOf q = { s.pedalDriveOf q with level := none } :=
  nth_map (β := PedalDrive) s.sched.pedals (fun p : PedalDrive => { p with level := none }) q PedalDrive.initial

/-- Settles O9. -/
theorem transportStartBeginsATake : Obligations.TransportStartBeginsATake := by
  intro tag preroll s hr stopped active driving
  set b : State := s.setTime { s.time with
    takeBase := some s.time.linkCycle, shift := 0, preroll := preroll, pauseStart := none, endTick := none,
    transport := .running } with hb
  set c : State := b.startTracker.startSchedule with hc
  set d : State := if c.captureMode then c.openTake else c with hd
  have may : s.mayStart = true := by
    have lacks : s.lacksDrive = false := by
      cases hm : s.time.mode
      case idle => exact absurd hm active
      case capture => simp [State.lacksDrive, hm, Mode.drives]
      all_goals simp [State.lacksDrive, driving (by rw [hm]; decide)]
    simp [State.mayStart, stopped, active, lacks]
  have begun : s.transportStart tag preroll = d.reply tag 2 .done (.started preroll s.time.linkCycle) := by
    rw [State.transportStart, State.unlessRestoring_of_not hr, if_pos may]
    rfl
  have mode : c.captureMode = s.captureMode := rfl
  have opened : Touches { capture := true } c d := .ite (fun _ => c.openTake_touches) (fun _ => .refl _ c)
  have replied := d.reply_touches tag 2 .done (.started preroll s.time.linkCycle)
  refine ⟨_, rfl, ?_⟩
  rw [begun]
  have time : (d.reply tag 2 .done (.started preroll s.time.linkCycle)).time = b.time := by
    rw [replied.time rfl, opened.time rfl]; rfl
  have tracker : (d.reply tag 2 .done (.started preroll s.time.linkCycle)).tracker = b.startTracker.tracker := by
    rw [replied.tracker rfl, opened.tracker rfl]; rfl
  have sched : (d.reply tag 2 .done (.started preroll s.time.linkCycle)).sched = s.startSchedule.sched := by
    rw [replied.sched rfl, opened.sched rfl]; rfl
  refine ⟨time, State.takeCycle_at_base (by rw [time]; rfl), fun k _ => ?_, fun q _ => ⟨?_, ?_⟩, by rw [sched]; rfl,
    by rw [sched]; rfl, ?_, ?_, ?_, ?_⟩
  · exact (State.trackerOf_congr (congrArg CaptureTracker.keys tracker) k).trans (b.trackerOf_startTracker k)
  · exact (State.pedalOf_congr (congrArg CaptureTracker.pedals tracker) q).trans (b.pedalOf_startTracker q)
  · exact (State.pedalDriveOf_congr (congrArg DriveSchedule.pedals sched) q).trans (s.pedalDriveOf_startSchedule q)
  · rw [replied.capture rfl, hd]; split <;> rfl
  · rw [replied.capture rfl, hd, mode]; split <;> rfl
  · exact State.reply_port_congr _ _ _ _ (by rw [opened.port rfl]; rfl) (by rw [opened.intake rfl]; rfl)
  · refine Touches.seq ?_ (replied.mono rfl)
    exact ((((s.setTime_touches _).mono rfl).seq ((b.startTracker_touches).mono rfl)).seq
      ((State.startSchedule_touches _).mono rfl)).seq (opened.mono rfl)

theorem State.driveOf_resumeSchedule (s : State) (delta k : Nat) :
    (s.resumeSchedule delta).driveOf k = { s.driveOf k with notes := (s.driveOf k).notes.map (Note.resumed delta) } :=
  nth_map (β := KeyDrive) s.sched.keys (fun d : KeyDrive => { d with notes := d.notes.map (Note.resumed delta) }) k KeyDrive.initial

/-- Settles O10. -/
theorem transportResumeMovesTheSchedule : Obligations.TransportResumeMovesTheSchedule := by
  intro tag p s hr paused start driving
  have lacks : s.lacksDrive = false := by
    cases hm : s.time.mode.drives
    · simp [State.lacksDrive, hm]
    · simp [State.lacksDrive, driving hm]
  have delta : s.pausedFor = s.startTick - p := by simp [State.pausedFor, start]
  set r : State := s.reply tag 4 .done .nothing with hr'
  have replied : Touches { port := true } s r := s.reply_touches tag 4 .done .nothing
  have later : r.pausedFor = s.startTick - p := by
    rw [← delta]
    simp only [State.pausedFor, State.startTick, State.takeCycle, State.takeCycleOf, replied.time rfl]
  have resumed : s.transportResume tag = (r.resumeTake).report (.resumed (s.startTick - p)
      (s.time.shift + (s.startTick - p))) := by
    rw [State.transportResume, State.unlessRestoring_of_not hr, if_pos ⟨paused, by rw [lacks]; rfl⟩, delta]
  have take : r.resumeTake = (r.resumeSchedule (s.startTick - p)).setTime { s.time with
      shift := s.time.shift + (s.startTick - p), pauseStart := none, transport := .running,
      endTick := s.time.endTick.map (· + (s.startTick - p)) } := by
    unfold State.resumeTake
    rw [later]
    simp only [(r.resumeSchedule_touches _).time rfl, replied.time rfl]
  have reported := (r.resumeTake).report_touches (.resumed (s.startTick - p) (s.time.shift + (s.startTick - p)))
  have sched : (r.resumeTake.report (.resumed (s.startTick - p) (s.time.shift + (s.startTick - p)))).sched =
      (s.resumeSchedule (s.startTick - p)).sched := by
    rw [reported.sched rfl, take]
    show (r.resumeSchedule _).sched = _
    simp only [State.resumeSchedule, replied.sched rfl]
  refine ⟨_, rfl, ?_⟩
  rw [resumed]
  refine ⟨by rw [reported.time rfl, take]; rfl, by rw [sched]; rfl, fun k _ => ?_, by rw [sched]; rfl, ?_, ?_⟩
  · exact (State.driveOf_congr (congrArg DriveSchedule.keys sched) k).trans (s.driveOf_resumeSchedule _ k)
  · refine State.report_port_congr _ (by rw [take]; rfl) (by rw [take]; rfl) ?_
    rw [take, replied.time rfl]; rfl
  · refine ((replied.mono rfl).seq ?_).seq (reported.mono rfl)
    exact (r.resumeTake_touches).mono rfl

/-- Settles O11. -/
theorem transportRequestsAndCuesAreJudged : Obligations.TransportRequestsAndCuesAreJudged := by
  refine ⟨fun tag preroll s => ⟨fun busy => ?busy, fun free => ⟨fun h => ?start, fun h => ?pause, fun h => ?resume,
    fun h => ?stop⟩⟩, fun tag tick s free => ⟨?remove, ?set⟩⟩
  case busy =>
    exact ⟨congrArg Host.Outcome.next (if_pos busy), congrArg Host.Outcome.next (if_pos busy),
      congrArg Host.Outcome.next (if_pos busy), congrArg Host.Outcome.next (if_pos busy)⟩
  case start =>
    refine congrArg Host.Outcome.next ?_
    rw [State.transportStart, State.unlessRestoring_of_not free]
    refine if_neg (fun may => ?_)
    simp only [State.mayStart, State.lacksDrive, Bool.and_eq_true, beq_iff_eq, bne_iff_ne, Bool.not_eq_true',
      Bool.and_eq_false_iff] at may
    obtain ⟨⟨stopped, active⟩, drives⟩ := may
    rcases h with h | h | ⟨hc, hl⟩
    · exact h stopped
    · exact active h
    · rcases drives with drives | drives
      · cases hm : s.time.mode <;> simp_all [Mode.drives]
      · exact hl (by simpa using drives)
  case pause =>
    refine congrArg Host.Outcome.next ?_
    rw [State.transportPause, State.unlessRestoring_of_not free]
    exact if_neg (fun ⟨running, mode⟩ => h.elim (fun n => n running) (fun c => mode c))
  case resume =>
    refine congrArg Host.Outcome.next ?_
    rw [State.transportResume, State.unlessRestoring_of_not free]
    refine if_neg (fun ⟨paused, lacks⟩ => ?_)
    rcases h with h | ⟨drives, hl⟩
    · exact h paused
    · simp [State.lacksDrive, drives, hl] at lacks
  case stop =>
    refine congrArg Host.Outcome.next ?_
    rw [State.transportStop, State.unlessRestoring_of_not free]
    exact if_neg (by simp [State.taking, h])
  case remove =>
    refine congrArg Host.Outcome.next ?_
    rw [State.takeCue, State.unlessRestoring_of_not free]
    rfl
  case set =>
    have taken : s.takeCue tag 1 tick = if s.cuePassed tick then s.reply tag 6 .range (.field 2)
        else (s.setTime { s.time with cue := some tick }).reply tag 6 .done .nothing := by
      rw [State.takeCue, State.unlessRestoring_of_not free]
      rfl
    have passed : s.cuePassed tick = true ↔ s.time.transport ≠ .stopped ∧ tick / 20 ≤ s.takeCycle := by
      simp [State.cuePassed, State.taking]
    have next : exec (.setCue tag 1 tick) s = .next (s.takeCue tag 1 tick) := rfl
    rw [next, taken]
    by_cases h : s.cuePassed tick = true
    · rw [if_pos h, if_pos (passed.1 h)]
    · rw [if_neg h, if_neg (fun c => h (passed.2 c))]
      rfl

end Sys2Proof.Machine
end

section
/-! PROOFS. The flush of a Stop (R82), what a Stop leaves of each key (R10, R140), the three Stops and the changes of mode
(R3, R10, R11, R14). -/

namespace Sys2Proof.Machine

/-! ### Frames of events (R77, R82) -/

/-- One frame of events: they leave from the head, each counted by R81, and the frame stands behind those queued. -/
theorem State.sendEvents_capture (s : State) (n : Nat) :
    (s.sendEvents n).capture = { events := s.capture.events.drop n,
                                 summary := (s.capture.events.take n).foldl TakeSummary.sent s.capture.summary } :=
  (State.hand_touches _ _).capture rfl

theorem State.sendEvents_queue (s : State) (n : Nat) :
    (s.sendEvents n).port.queue = s.port.queue ++ [.capture (s.capture.events.take n)] := State.hand_queue _ _

/-- The flush's frames: all events, in their order, in frames of 1 to 30. -/
theorem State.flushFrames_flushed (fuel : Nat) (s : State) (h : s.capture.events.length ≤ fuel) :
    ∃ frames, packed frames ∧ frames.flatten = s.capture.events ∧
      (State.flushFrames fuel s).capture =
        { events := [], summary := s.capture.events.foldl TakeSummary.sent s.capture.summary } ∧
      (State.flushFrames fuel s).port.queue = s.port.queue ++ frames.map Upstream.capture := by
  have none : ∀ u : State, u.capture.events = [] → ∃ frames, packed frames ∧ frames.flatten = u.capture.events ∧
      u.capture = { events := [], summary := u.capture.events.foldl TakeSummary.sent u.capture.summary } ∧
      u.port.queue = u.port.queue ++ frames.map Upstream.capture := fun u hu =>
    ⟨[], fun _ h => (nomatch h), by rw [hu]; rfl, by rw [hu]; cases hc : u.capture; simp_all, by simp⟩
  induction fuel generalizing s with
  | zero => exact none s (List.length_eq_zero_iff.1 (Nat.le_zero.1 h))
  | succ fuel ih =>
    unfold State.flushFrames
    split
    · next he => exact none s he
    · next he =>
      have pos : 1 ≤ s.capture.events.length := List.length_pos_iff.2 he
      obtain ⟨frames, pack, flat, capture, queue⟩ := ih (s.sendEvents 30) (by
        rw [s.sendEvents_capture, List.length_drop]; omega)
      rw [s.sendEvents_capture] at flat capture
      rw [s.sendEvents_queue] at queue
      refine ⟨s.capture.events.take 30 :: frames, fun l hl => ?_, ?_, ?_, ?_⟩
      · rcases List.mem_cons.1 hl with rfl | hl
        · rw [List.length_take]; omega
        · exact pack l hl
      · rw [List.flatten_cons, flat, List.take_append_drop]
      · rw [capture, ← List.foldl_append, List.take_append_drop]
      · rw [queue]; simp

/-- The flush: the queue's events in frames, the TakeSummary behind them, the take closed (R82). -/
theorem State.flush_flushed (s : State) (cause : StopCause) : Flushed s (s.flush cause) s.port.queue cause := by
  obtain ⟨frames, pack, flat, capture, queue⟩ := State.flushFrames_flushed s.capture.events.length s le_rfl
  have time := (State.flushFrames_touches s.capture.events.length s).time rfl
  unfold State.flush
  dsimp only
  generalize State.flushFrames s.capture.events.length s = t at *
  have handed := (t.hand_touches (.report t.time.linkCycle (.takeSummary t.capture.summary cause))).capture rfl
  refine ⟨frames, _, pack, flat, rfl, ?_, ?_, ?_⟩
  · rw [handed, capture]
  · rw [handed, capture]
  · rw [State.hand_queue, queue, time, capture]

/-- What is handed stays in the order it was handed in. -/
theorem State.offer_prefix (s : State) (f : Upstream) : s.port.queue <+: (s.offer f).port.queue := by
  rcases s.offer_cases f with ⟨-, h⟩ | ⟨-, h⟩ <;> rw [h]
  · rw [State.hand_queue]; exact List.prefix_append _ _
  · exact List.prefix_refl _

theorem State.abortJobs_prefix (s : State) (cause : AbortCause) : s.port.queue <+: (s.abortJobs cause).port.queue := by
  unfold State.abortJobs
  split
  · exact List.prefix_refl _
  · refine List.IsPrefix.trans ?_ (State.offer_prefix _ _)
    dsimp only
    split
    · exact List.prefix_refl _
    · rw [(State.endStrike_touches _ _).port rfl]

theorem Flushed.queue_grows {s t : State} {q : List Upstream} {cause : StopCause} (h : Flushed s t q cause) :
    q <+: t.port.queue := by
  obtain ⟨frames, sm, -, -, -, -, -, queue⟩ := h
  rw [queue, List.append_assoc]
  exact List.prefix_append _ _

/-! ### One key at a Stop (R140) -/

/-- What a Stop leaves of one key: nothing of a take, its immediate Off asked if it was driven (R138, R140). -/
structure KeyStopped (d d' : KeyDrive) : Prop where
  notes : d'.notes = []
  attackEnd : d'.attackEnd = none
  rearmBase : d'.rearmBase = none
  releaseEnd : d'.releaseEnd = none
  driven : d'.driven = false
  asked : d.driven = true → d'.immediateOff = true

theorem State.stopKey_sameKey (s : State) {j k : Nat} (h : j ≠ k) : SameKey k s (s.stopKey j) := by
  refine ⟨?_, by rw [s.stopKey_entries], s.stopKey_touches j⟩
  unfold State.stopKey
  dsimp only
  rw [State.driveOf_redecide_ne _ h.symm, State.driveOf_setDrive_ne _ _ h.symm, State.driveOf_askOff_ne _ h.symm]

/-- A key that is not driven, armed or releasing is Idle, unless it is faulted or waits (R126). -/
theorem State.stateBy126_of_quiet {s : State} {k : Nat} (entries : s.sched.entries = [])
    (driven : (s.driveOf k).driven = false) (release : (s.driveOf k).releaseEnd = none) :
    s.stateBy126 k = if s.faulted k then .faulted else if s.waitingYield k then .yielded else .idle := by
  simp [State.stateBy126, State.unfaultedState, driven, release, State.armed, entries]

theorem State.driveOf_stopKey (s : State) {k : Nat} (hk : Keyed k) :
    KeyStopped (s.driveOf k) ((s.stopKey k).driveOf k) ∧ ((s.stopKey k).driveOf k).state = (s.stopKey k).stateBy126 k := by
  unfold State.stopKey
  dsimp only
  rw [State.driveOf_redecide _ hk, State.driveOf_setDrive_self _ _ hk.1 hk.2]
  obtain ⟨driven, asked, -⟩ := s.driveOf_askOff_self hk.1 hk.2
  exact ⟨⟨rfl, rfl, rfl, rfl, driven, asked⟩, rfl⟩

theorem State.driveOf_stopSchedule (s : State) {k : Nat} (hk : Keyed k) :
    KeyStopped (s.driveOf k) (s.stopSchedule.driveOf k) ∧
      (s.stopSchedule.driveOf k).state =
        if s.faulted k then .faulted else if s.waitingYield k then .yielded else .idle := by
  obtain ⟨u, ⟨before, entries⟩, behind, entries'⟩ :=
    foldl_at (R := fun s t => SameKey k s t ∧ t.sched.entries = s.sched.entries) (fun s => ⟨.refl k s, rfl⟩)
      (fun h g => ⟨h.1.trans g.1, g.2.trans h.2⟩) (fun s j h => ⟨s.stopKey_sameKey h, s.stopKey_entries j⟩)
      (mem_allKeys.2 hk) nodup_allKeys (s.setEntries [])
  obtain ⟨stopped, state⟩ := u.driveOf_stopKey hk
  have none : (u.stopKey k).sched.entries = [] := by rw [u.stopKey_entries, entries]; rfl
  rw [State.stateBy126_of_quiet none stopped.driven stopped.releaseEnd] at state
  have blocks : Touches { sched := true } s (u.stopKey k) :=
    ((s.setEntries_touches _).seq before.blocks).seq (u.stopKey_touches k)
  unfold State.stopSchedule
  dsimp only
  generalize allKeys.foldl State.stopKey (s.setEntries []) = t at behind
  have drive : ∀ pedals, State.driveOf { t with sched := { t.sched with pedals := pedals } } k = (u.stopKey k).driveOf k :=
    fun _ => behind.drive
  rw [drive, state, State.faulted_congr (s := s) (t := u.stopKey k) (by rw [blocks.link rfl]),
    State.waitingYield_congr (s := s) (t := u.stopKey k) (by rw [blocks.duplex rfl])]
  rw [before.drive] at stopped
  exact ⟨stopped, rfl⟩

/-- What a Stop leaves of a pedal (R140). -/
def PedalDrive.stopped (p : PedalDrive) : PedalDrive :=
  { p with rest := p.rest || p.level.any (fun l => decide (0 < l)) }

theorem State.askOff_pedals (s : State) (k : Nat) : (s.askOff k).sched.pedals = s.sched.pedals := by
  rcases s.askOff_cases k with ⟨-, h⟩ | ⟨-, h⟩ <;> rw [h]
  rfl

theorem State.pedalDriveOf_stopSchedule (s : State) (q : Nat) :
    s.stopSchedule.pedalDriveOf q = (s.pedalDriveOf q).stopped := by
  have keys : ∀ (l : List Nat) (u : State), (l.foldl State.stopKey u).sched.pedals = u.sched.pedals := by
    intro l
    induction l with
    | nil => exact fun u => rfl
    | cons k l ih => exact fun u => (ih _).trans (u.askOff_pedals k)
  have pedals := keys allKeys (s.setEntries [])
  unfold State.stopSchedule
  dsimp only
  generalize allKeys.foldl State.stopKey (s.setEntries []) = t at pedals
  have mapped := nth_map (β := PedalDrive) t.sched.pedals PedalDrive.stopped q PedalDrive.initial
  rw [pedals] at mapped
  rw [pedals]
  exact mapped

/-! ### The Stop behaviour -/

/-- An abort removes at most a strike from the schedule: what is driven, and the pedals, stay (R164, R166). -/
theorem State.abortJobs_drive (s : State) (cause : AbortCause) :
    (∀ k, ((s.abortJobs cause).driveOf k).driven = (s.driveOf k).driven) ∧
      (s.abortJobs cause).sched.pedals = s.sched.pedals := by
  have removed : ∀ (u : State) (j k : Nat), ((u.removeStrike j).driveOf k).driven = (u.driveOf k).driven := by
    intro u j k
    unfold State.removeStrike
    dsimp only
    by_cases h : k = j
    · subst h
      by_cases hk : Keyed k
      · rw [State.driveOf_redecide_self _ hk.1 hk.2, State.driveOf_setDrive_self _ _ hk.1 hk.2]; rfl
      · rcases Nat.eq_zero_or_pos k with h0 | h0
        · subst h0; rfl
        · have above : 97 < k := by omega
          simp only [State.driveOf, nth_above _ _ above]
    · rw [State.driveOf_redecide_ne _ h, State.driveOf_setDrive_ne _ _ h]; rfl
  have ended : ∀ (u : State) (c : CurrentJob), (∀ k, ((u.endStrike c).driveOf k).driven = (u.driveOf k).driven) ∧
      (u.endStrike c).sched.pedals = u.sched.pedals := by
    intro u c
    unfold State.endStrike
    split
    · exact ⟨fun _ => rfl, rfl⟩
    · exact ⟨removed u _, rfl⟩
    · exact ⟨fun _ => rfl, rfl⟩
  unfold State.abortJobs
  split
  · exact ⟨fun _ => rfl, rfl⟩
  · dsimp only
    have reported := fun (u : State) r => (u.report_touches r).sched rfl
    refine ⟨fun k => ?_, ?_⟩
    · rw [State.driveOf_congr (congrArg DriveSchedule.keys (reported _ _))]
      split
      · rfl
      · exact (ended s _).1 k
    · rw [reported]
      split
      · rfl
      · exact (ended s _).2

/-- What stays of the replay side behind a Stop (R10, R123, R140, R147). -/
theorem State.stopDrive_ended (s : State) (drives : s.time.mode.drives = true) :
    s.stopDrive.takeCleared ∧ Silenced s s.stopDrive ∧
      ∀ q, s.stopDrive.pedalDriveOf q = (s.pedalDriveOf q).stopped := by
  obtain ⟨entries, windows, walk, intake⟩ := s.stopDrive_clears.1 drives
  obtain ⟨a, ha⟩ : ∃ a, a = if s.time.mode = .calibrate then s.abortJobs .stop else s := ⟨_, rfl⟩
  have aborted : (∀ k, (a.driveOf k).driven = (s.driveOf k).driven) ∧ a.sched.pedals = s.sched.pedals := by
    rw [ha]; split
    · exact s.abortJobs_drive _
    · exact ⟨fun _ => rfl, rfl⟩
  have stopped : s.stopDrive = (a.emptyIntake.stopSchedule).clearWindows := by
    unfold State.stopDrive
    rw [ha]
    exact if_pos drives
  have drive := fun k hk => a.emptyIntake.driveOf_stopSchedule (k := k) hk
  have pedal := a.emptyIntake.pedalDriveOf_stopSchedule
  have blocks := a.emptyIntake.stopSchedule_touches
  rw [stopped] at entries windows walk intake ⊢
  generalize a.emptyIntake.stopSchedule = t at *
  have keys : ∀ k, t.clearWindows.driveOf k = t.driveOf k := fun _ => rfl
  refine ⟨⟨intake, walk, entries, fun k => nth_replicate none k, fun k hk => ?_⟩, fun k hk => ?_, fun q => ?_⟩
  · obtain ⟨key, state⟩ := drive k hk
    rw [keys]
    refine ⟨key.notes, key.attackEnd, key.rearmBase, key.releaseEnd, state.trans ?_⟩
    rw [← State.faulted_congr (s := a.emptyIntake) (t := t.clearWindows) (congrArg ActionLink.faults (blocks.link rfl)),
      ← State.waitingYield_congr (s := a.emptyIntake) (t := t.clearWindows)
        (show t.duplex.yields = _ by rw [blocks.duplex rfl])]
  · obtain ⟨key, -⟩ := drive k hk
    rw [keys]
    exact ⟨key.driven, fun h => key.asked ((aborted.1 k).trans h)⟩
  · have same : a.emptyIntake.pedalDriveOf q = s.pedalDriveOf q := State.pedalDriveOf_congr aborted.2 q
    rw [← same]
    exact pedal q

/-- What `takeCleared` reads. -/
theorem State.takeCleared_congr {t u : State} (h : t.takeCleared) (intake : u.intake = t.intake) (voices : u.voices = t.voices)
    (sched : u.sched = t.sched) (duplex : u.duplex = t.duplex) (faults : u.link.faults = t.link.faults) : u.takeCleared := by
  obtain ⟨h1, h2, h3, h4, h5⟩ := h
  refine ⟨intake.trans h1, (congrArg VoiceUnit.walk voices).trans h2, (congrArg DriveSchedule.entries sched).trans h3,
    fun k => (State.windowOf_congr (by rw [duplex]) k).trans (h4 k), fun k hk => ?_⟩
  rw [State.driveOf_congr (congrArg DriveSchedule.keys sched), State.faulted_congr faults,
    State.waitingYield_congr (congrArg DuplexMonitor.yields duplex)]
  exact h5 k hk

/-- What `takeEnded` reads of the state before and of the state behind. -/
theorem State.takeEnded.congr {s s' t u : State} (h : s'.takeEnded t) (mode : s'.time.mode = s.time.mode)
    (before : (∀ k, (s'.driveOf k).driven = (s.driveOf k).driven) ∧ s'.sched.pedals = s.sched.pedals) (intake : u.intake = t.intake) (voices : u.voices = t.voices) (sched : u.sched = t.sched)
    (duplex : u.duplex = t.duplex) (faults : u.link.faults = t.link.faults) (capture : u.capture = t.capture)
    (calib : u.calib = t.calib) : s.takeEnded u := by
  obtain ⟨drives, captures, jobs⟩ := h
  rw [mode] at drives jobs
  refine ⟨fun hd => ?_, fun hc => ?_, fun hj => ?_⟩
  · obtain ⟨cleared, silenced, pedals⟩ := drives hd
    refine ⟨State.takeCleared_congr cleared intake voices sched duplex faults, fun k hk => ?_, fun q h1 h3 => ?_⟩
    · rw [State.driveOf_congr (congrArg DriveSchedule.keys sched), ← before.1 k]
      exact silenced k hk
    · rw [State.pedalDriveOf_congr (congrArg DriveSchedule.pedals sched), ← State.pedalDriveOf_congr before.2]
      exact pedals q h1 h3
  · rw [capture]
    exact captures (by unfold State.captureMode at hc ⊢; rw [mode]; exact hc)
  · rw [calib]; exact jobs hj

theorem sameDrive {s t : State} (h : t.sched = s.sched) :
    (∀ k, (t.driveOf k).driven = (s.driveOf k).driven) ∧ t.sched.pedals = s.sched.pedals :=
  ⟨fun k => by rw [State.driveOf_congr (congrArg DriveSchedule.keys h)], congrArg DriveSchedule.pedals h⟩

theorem State.stopDrive_captureMode (s : State) : s.stopDrive.captureMode = s.captureMode := by
  unfold State.captureMode; rw [s.stopDrive_time]

/-- A Stop in Capture and Duplex flushes; in the other modes it does not. -/
theorem State.stopTake_of_capture {s : State} (h : s.captureMode = true) (cause : StopCause) :
    ∃ x, s.stopTake cause = (s.stopDrive.flush cause).setTime x := by
  unfold State.stopTake
  dsimp only
  rw [s.stopDrive_captureMode, h]
  exact ⟨_, rfl⟩

theorem State.stopTake_of_not_capture {s : State} (h : s.captureMode = false) (cause : StopCause) :
    ∃ x, s.stopTake cause = s.stopDrive.setTime x := by
  unfold State.stopTake
  dsimp only
  rw [s.stopDrive_captureMode, h]
  exact ⟨_, rfl⟩

/-- What a Stop has handed before any flush: the report of an abort (R166). -/
theorem State.stopDrive_port (s : State) :
    s.stopDrive.port = (if s.time.mode = .calibrate then s.abortJobs .stop else s).port := by
  unfold State.stopDrive
  dsimp only
  split
  · rw [(State.clearWindows_touches _).port rfl, (State.stopSchedule_touches _).port rfl]; rfl
  · rfl

theorem State.stopDrive_port_of_ne {s : State} (h : s.time.mode ≠ .calibrate) : s.stopDrive.port = s.port := by
  rw [s.stopDrive_port, if_neg h]

theorem State.captureMode_ne_calibrate {s : State} (h : s.captureMode = true) : s.time.mode ≠ .calibrate :=
  fun e => by simp [State.captureMode, e] at h

/-- The Stop behaviour ends the take (R10). -/
theorem State.stopTake_ended (s : State) (cause : StopCause) : s.takeEnded (s.stopTake cause) := by
  have flushed := s.stopDrive.stopFlush_touches cause
  refine ⟨fun drives => ?_, fun captures => ?_, fun calibrate => ?_⟩
  · obtain ⟨cleared, silenced, pedals⟩ := s.stopDrive_ended drives
    refine ⟨State.takeCleared_congr cleared (flushed.intake rfl) (flushed.voices rfl) (flushed.sched rfl)
      (flushed.duplex rfl) (congrArg ActionLink.faults (flushed.link rfl)), fun k hk => ?_, fun q _ _ => ?_⟩
    · rw [State.driveOf_congr (t := s.stopTake cause) (congrArg DriveSchedule.keys (flushed.sched rfl))]
      exact silenced k hk
    · rw [State.pedalDriveOf_congr (t := s.stopTake cause) (congrArg DriveSchedule.pedals (flushed.sched rfl))]
      exact pedals q
  · obtain ⟨frames, sm, -, -, -, events, summary, -⟩ := s.stopDrive.flush_flushed cause
    obtain ⟨x, stop⟩ := State.stopTake_of_capture captures cause
    have capture : (s.stopTake cause).capture = (s.stopDrive.flush cause).capture := by rw [stop]; rfl
    rw [capture, summary]
    exact ⟨events, rfl⟩
  · have queue : s.stopDrive.calib.queue = [] ∧ s.stopDrive.calib.current = none := by
      have drives : s.time.mode.drives = true := by rw [calibrate]; rfl
      unfold State.stopDrive
      simp only [drives, if_true, if_pos calibrate]
      rw [(State.clearWindows_touches _).calib rfl, (State.stopSchedule_touches _).calib rfl,
        (State.emptyIntake_touches _).calib rfl]
      rcases s.abortJobs_cases .stop with ⟨h1, h2, e⟩ | h
      · rw [e]; exact ⟨h2, h1⟩
      · exact h
    have calib : (s.stopTake cause).calib = s.stopDrive.calib := flushed.calib rfl
    rw [calib]; exact queue

theorem State.stopDrive_capture (s : State) : s.stopDrive.capture = s.capture := s.stopDrive_touches.capture rfl

theorem Flushed.congr {s s' t u : State} {q : List Upstream} {cause : StopCause} (h : Flushed s' t q cause)
    (before : s'.capture = s.capture) (cycle : s'.time.linkCycle = s.time.linkCycle) (capture : u.capture = t.capture)
    (queue : u.port.queue = t.port.queue) : Flushed s u q cause := by
  unfold Flushed at h ⊢
  rw [capture, queue, ← before, ← cycle]
  exact h

/-- A Stop in Capture or Duplex flushes the Capture Queue behind what is queued (R82). -/
theorem State.stopTake_flushed (s : State) (cause : StopCause) (h : s.captureMode = true) :
    Flushed s (s.stopTake cause) s.port.queue cause := by
  obtain ⟨x, stopped⟩ := State.stopTake_of_capture h cause
  have flushed := s.stopDrive.flush_flushed cause
  rw [State.stopDrive_port_of_ne (State.captureMode_ne_calibrate h)] at flushed
  refine flushed.congr s.stopDrive_capture (by rw [s.stopDrive_time]) ?_ ?_ <;> rw [stopped] <;> rfl

theorem State.stopTake_prefix (s : State) (cause : StopCause) : s.port.queue <+: (s.stopTake cause).port.queue := by
  cases h : s.captureMode with
  | true => exact (s.stopTake_flushed cause h).queue_grows
  | false =>
    obtain ⟨x, stopped⟩ := State.stopTake_of_not_capture h cause
    have port : (s.stopTake cause).port = s.stopDrive.port := by rw [stopped]; rfl
    rw [port, s.stopDrive_port]
    split
    · exact s.abortJobs_prefix _
    · exact List.prefix_refl _

/-- In Replay a Stop hands nothing. -/
theorem State.stopTake_port_replay (s : State) (cause : StopCause) (h : s.time.mode = .replay) :
    (s.stopTake cause).port = s.port := by
  obtain ⟨x, stopped⟩ := State.stopTake_of_not_capture (s := s) (by simp [State.captureMode, h]) cause
  rw [stopped]
  exact State.stopDrive_port_of_ne (by rw [h]; decide)

/-! ### The three Stops -/

theorem State.now_of_stopped {s : State} (h : s.time.takeBase = none) : s.now = 0 := by
  unfold State.now; rw [h]

/-- Settles O14. -/
theorem stopsEndTheTake : Obligations.StopsEndTheTake := by
  refine ⟨fun tag r s hr taking hrep => ?request, fun s => ⟨fun e he running come => ?ended, fun later => ?notEnded,
    fun taking come => ?clock, fun later => ?notClock⟩⟩
  case request =>
    have replied : Touches { port := true } s r := by rw [hrep]; exact s.reply_touches ..
    have stop : s.transportStop tag = (r.stopTake .request).stopGap := by
      rw [State.transportStop, State.unlessRestoring_of_not hr, ← hrep]
      exact if_pos (by simp [State.taking, taking])
    have touches : Touches (footprint (.transportStop tag)) s (s.transportStop tag) := (s.transportStop_touches tag).mono rfl
    refine ⟨_, rfl, ?_⟩
    rw [stop] at touches ⊢
    have blocks := r.stopTake_touches .request
    have ended := r.stopTake_ended .request
    have time := r.stopTake_time .request
    have port : r.time.mode = .replay → (r.stopTake .request).port = r.port := r.stopTake_port_replay _
    have flushed := r.stopTake_flushed .request
    have pre := r.stopTake_prefix .request
    generalize r.stopTake .request = t at *
    rw [replied.time rfl] at time port
    refine ⟨time, State.now_of_stopped (s := t.stopGap) (by rw [show t.stopGap.time = t.time from rfl, time]; rfl),
      ended.congr (by rw [replied.time rfl]) (sameDrive (replied.sched rfl)) rfl rfl rfl rfl rfl rfl rfl, ?_, pre, port, fun hc => ?_,
      touches⟩
    · unfold State.stopGap
      rw [blocks.link rfl, replied.link rfl]
    · refine (flushed ?_).congr (replied.capture rfl) (by rw [replied.time rfl]) rfl rfl
      unfold State.captureMode at hc ⊢
      rw [replied.time rfl]; exact hc
  case ended =>
    have reported : Touches { port := true } s (s.report (.replayComplete e)) := s.report_touches _
    have stop : s.reachEnd = (s.report (.replayComplete e)).stopTake .endReached := by
      unfold State.reachEnd
      rw [he]
      exact if_pos ⟨running, come⟩
    refine ⟨_, rfl, ?_⟩
    rw [stop]
    generalize s.report (.replayComplete e) = r at *
    refine ⟨(r.stopTake_time _).trans (by rw [reported.time rfl]),
      (r.stopTake_ended _).congr (by rw [reported.time rfl]) (sameDrive (reported.sched rfl)) rfl rfl rfl rfl rfl rfl rfl,
      r.stopTake_prefix _, fun hc => ?_⟩
    refine (r.stopTake_flushed .endReached ?_).congr (reported.capture rfl) (by rw [reported.time rfl]) rfl rfl
    unfold State.captureMode at hc ⊢
    rw [reported.time rfl]; exact hc
  case notEnded =>
    refine congrArg Host.Outcome.next ?_
    unfold State.reachEnd
    split
    · rfl
    · next e he =>
      refine if_neg (fun ⟨running, come⟩ => ?_)
      rcases later e he with h | h
      · exact h running
      · omega
  case clock =>
    have stop : s.reachClockEnd = s.stopTake .clockEnd := if_pos (by
      simp only [State.taking, Bool.and_eq_true, bne_iff_ne, decide_eq_true_eq]
      exact ⟨taking, come⟩)
    refine ⟨_, rfl, ?_⟩
    rw [stop]
    exact ⟨s.stopTake_time _, s.stopTake_ended _, s.stopTake_flushed _⟩
  case notClock =>
    refine congrArg Host.Outcome.next (if_neg (fun h => ?_))
    simp only [State.taking, Bool.and_eq_true, bne_iff_ne, decide_eq_true_eq] at h
    obtain ⟨taking, come⟩ := h
    rcases later with stopped | early
    · exact taking stopped
    · exact absurd (Nat.lt_of_lt_of_le early come) (Nat.lt_irrefl _)

/-! ### Changes of mode (R14) -/

/-- A change to Idle, stage by stage: the jobs' abort, the Stop, the intake emptied, then the mode, the timer and the gap. -/
theorem State.enterIdle_eq (s : State) : ∃ s1 s2 s3,
    s1 = (if s.time.mode = .calibrate then s.abortJobs .modeIdle else s) ∧
      s2 = (if s1.taking then s1.stopTake .modeIdle else s1) ∧
      s3 = (if s.time.mode = .replay ∨ s.time.mode = .duplex then s2.emptyIntake else s2) ∧
      s.enterIdle =
        State.stopGap { s3.setTime { s3.time with mode := .idle } with port := { s3.port with timer := none } } :=
  ⟨_, _, _, rfl, rfl, rfl, rfl⟩

theorem State.abortJobs_options (s : State) (cause : AbortCause) : (s.abortJobs cause).port.options = s.port.options := by
  unfold State.abortJobs
  split
  · rfl
  · refine (State.offer_options _ _).trans ?_
    dsimp only
    split
    · rfl
    · rw [(State.endStrike_touches _ _).port rfl]

theorem State.flushFrames_options (fuel : Nat) (s : State) : (State.flushFrames fuel s).port.options = s.port.options := by
  induction fuel generalizing s with
  | zero => rfl
  | succ fuel ih =>
    unfold State.flushFrames
    split
    · rfl
    · exact (ih _).trans (State.beginSending_options _)

theorem State.flush_options (s : State) (cause : StopCause) : (s.flush cause).port.options = s.port.options :=
  (State.beginSending_options _).trans (State.flushFrames_options _ _)

theorem State.stopTake_options (s : State) (cause : StopCause) : (s.stopTake cause).port.options = s.port.options := by
  have drive : s.stopDrive.port.options = s.port.options := by
    rw [s.stopDrive_port]; split
    · exact s.abortJobs_options _
    · rfl
  cases h : s.captureMode with
  | true =>
    obtain ⟨x, stop⟩ := State.stopTake_of_capture h cause
    rw [stop]
    exact (s.stopDrive.flush_options cause).trans drive
  | false =>
    obtain ⟨x, stop⟩ := State.stopTake_of_not_capture h cause
    rw [stop]
    exact drive

/-- What a change to Idle leaves, up to its Reply (R14). -/
theorem State.enterIdle_left (s : State) :
    s.enterIdle.time = { (if s.time.transport = .stopped then s.time else s.time.stopped) with mode := .idle } ∧
      s.enterIdle.port.timer = none ∧ (s.time.transport ≠ .stopped → s.takeEnded s.enterIdle) ∧
      (s.time.mode = .replay ∨ s.time.mode = .duplex → s.enterIdle.intake = [] ∧ s.enterIdle.voices.walk = none) ∧
      (s.time.mode = .calibrate → s.enterIdle.calib.queue = [] ∧ s.enterIdle.calib.current = none) ∧
      s.enterIdle.link = { s.link with gap := s.link.gap.map (fun g => { g with stopped := true }) } ∧
      s.enterIdle.port.options = s.port.options ∧ s.enterIdle.port.profile = s.port.profile ∧
      s.port.queue <+: s.enterIdle.port.queue ∧
      (s.time.transport ≠ .stopped → s.captureMode = true → Flushed s s.enterIdle s.port.queue .modeIdle) := by
  obtain ⟨s1, s2, s3, h1, h2, h3, left⟩ := s.enterIdle_eq
  have aborted : Touches { sched := true, duplex := true, calib := true, port := true } s s1 ∧
      ((∀ k, (s1.driveOf k).driven = (s.driveOf k).driven) ∧ s1.sched.pedals = s.sched.pedals) ∧
      s.port.queue <+: s1.port.queue := by
    rw [h1]; split
    · exact ⟨s.abortJobs_touches _, s.abortJobs_drive _, s.abortJobs_prefix _⟩
    · exact ⟨.refl _ s, sameDrive rfl, List.prefix_refl _⟩
  obtain ⟨touches, drive, pre1⟩ := aborted
  have taking : s1.taking = true ↔ s.time.transport ≠ .stopped := by
    rw [State.taking, touches.time rfl]; simp
  have stop : s.time.transport ≠ .stopped → s2 = s1.stopTake .modeIdle := fun h => h2.trans (if_pos (taking.2 h))
  have time : s2.time = if s.time.transport = .stopped then s.time else s.time.stopped := by
    split
    · next h => rw [h2, if_neg (fun t => taking.1 t h), touches.time rfl]
    · next h => rw [stop h, s1.stopTake_time, touches.time rfl]
  have stopped : Touches
      { time := true, capture := true, voices := true, intake := true, sched := true, duplex := true, calib := true,
        port := true } s1 s2 := by
    rw [h2]; exact .ite (fun _ => s1.stopTake_touches _) (fun _ => .refl _ s1)
  have pre2 : s1.port.queue <+: s2.port.queue := by
    rw [h2]; split
    · exact s1.stopTake_prefix _
    · exact List.prefix_refl _
  have options : s2.port.options = s.port.options := by
    have first : s1.port.options = s.port.options := by
      rw [h1]; split
      · exact s.abortJobs_options _
      · rfl
    rw [h2]; split
    · exact (s1.stopTake_options _).trans first
    · exact first
  have emptied : Touches { voices := true, intake := true } s2 s3 := by
    rw [h3]; exact .ite (fun _ => s2.emptyIntake_touches) (fun _ => .refl _ s2)
  have jobs : s.time.mode = .calibrate → s2.calib.queue = [] ∧ s2.calib.current = none := by
    intro hm
    have none : s1.calib.queue = [] ∧ s1.calib.current = none := by
      rw [h1, if_pos hm]
      rcases s.abortJobs_cases .modeIdle with ⟨c, q, e⟩ | h
      · rw [e]; exact ⟨q, c⟩
      · exact h
    rw [h2]; split
    · exact (s1.stopTake_ended .modeIdle).2.2 (by rw [touches.time rfl]; exact hm)
    · exact none
  have profile : s2.port.profile = s.port.profile := by
    have first : s1.port.profile = s.port.profile := by
      rw [h1]; split
      · exact (s.abortJobs_quiet _).profile
      · rfl
    rw [h2]; split
    · exact (s1.stopTake_sameCycle _).profile.trans first
    · exact first
  rw [left]
  refine ⟨by rw [← time, ← emptied.time rfl]; rfl, rfl, fun ht => ?ended, fun hm => ?intake, fun hm => ?calib, ?link,
    by rw [← options, ← emptied.port rfl]; rfl, by rw [← profile, ← emptied.port rfl]; rfl, ?queue, fun ht hc => ?flushed⟩
  case ended =>
    have ended := s1.stopTake_ended .modeIdle
    rw [← stop ht] at ended
    by_cases hm : s.time.mode = .replay ∨ s.time.mode = .duplex
    · have e3 : s3 = s2.emptyIntake := h3.trans (if_pos hm)
      obtain ⟨drives, captures, jobs'⟩ := ended
      have cleared : s1.time.mode.drives = true → s2.emptyIntake.takeCleared ∧ Silenced s1 s2.emptyIntake ∧
          ∀ q, 1 ≤ q → q ≤ 3 → s2.emptyIntake.pedalDriveOf q =
            { s1.pedalDriveOf q with
              rest := (s1.pedalDriveOf q).rest || (s1.pedalDriveOf q).level.any (fun l => decide (0 < l)) } := by
        intro hd
        obtain ⟨⟨-, -, entries, windows, keys⟩, silenced, pedals⟩ := drives hd
        exact ⟨⟨rfl, rfl, entries, windows, keys⟩, silenced, pedals⟩
      rw [e3]
      exact State.takeEnded.congr (s' := s1) (t := s2.emptyIntake) ⟨cleared, captures, jobs'⟩ (by rw [touches.time rfl])
        drive rfl rfl rfl rfl rfl rfl rfl
    · have e3 : s3 = s2 := h3.trans (if_neg hm)
      rw [e3]
      exact ended.congr (by rw [touches.time rfl]) drive rfl rfl rfl rfl rfl rfl rfl
  case intake =>
    rw [h3, if_pos hm]
    exact ⟨rfl, rfl⟩
  case calib =>
    show s3.calib.queue = [] ∧ s3.calib.current = none
    rw [emptied.calib rfl]; exact jobs hm
  case link =>
    have kept : s3.link = s.link := by rw [emptied.link rfl, stopped.link rfl, touches.link rfl]
    unfold State.stopGap
    rw [← kept]
    rfl
  case queue =>
    show s.port.queue <+: s3.port.queue
    rw [emptied.port rfl]
    exact pre1.trans pre2
  case flushed =>
    have same : s1 = s := h1.trans (if_neg (State.captureMode_ne_calibrate hc))
    have flushed := s.stopTake_flushed .modeIdle hc
    rw [← same, ← stop ht, same] at flushed
    exact flushed.congr rfl rfl (emptied.capture rfl) (by rw [← emptied.port rfl]; rfl)

theorem modeOf_code (m : Mode) : modeOf m.code = some m := by cases m <;> rfl

theorem Mode.code_inj {m n : Mode} (h : m.code = n.code) : m = n := by
  have := congrArg modeOf h
  rw [modeOf_code, modeOf_code] at this
  exact Option.some.inj this

/-- Settles O12. -/
theorem setModeEntersAndLeaves : Obligations.SetModeEntersAndLeaves := by
  refine ⟨fun tag m s free quiet active => ⟨fun idle => ?enter, fun busy other => ?refused, ?held⟩,
    fun tag s free active => ?leave⟩
  case enter =>
    refine congrArg Host.Outcome.next ?_
    have other : m.code ≠ s.time.mode.code := fun e => active ((Mode.code_inj e).trans idle)
    have notIdle : m.code ≠ 1 := fun e => active ((modeCode_one_iff m).1 e)
    rw [State.takeMode, State.unlessRestoring_of_not free, quiet, Bool.false_and, if_neg (by decide), if_neg other,
      if_neg notIdle, if_neg (not_not.2 idle), modeOf_code]
    rfl
  case refused =>
    refine congrArg Host.Outcome.next ?_
    have other' : m.code ≠ s.time.mode.code := fun e => other (Mode.code_inj e).symm
    have notIdle : m.code ≠ 1 := fun e => active ((modeCode_one_iff m).1 e)
    rw [State.takeMode, State.unlessRestoring_of_not free, quiet, Bool.false_and, if_neg (by decide), if_neg other',
      if_neg notIdle, if_pos busy]
  case held =>
    refine congrArg Host.Outcome.next ?_
    rw [State.takeMode, State.unlessRestoring_of_not free, quiet, Bool.false_and, if_neg (by decide), if_pos rfl]
  case leave =>
    have other : (1 : Nat) ≠ s.time.mode.code := fun e => active ((modeCode_one_iff _).1 e.symm)
    have taken : s.takeMode tag 1 = s.enterIdle.reply tag 1 .done .nothing := by
      rw [State.takeMode, State.unlessRestoring_of_not free, if_neg (by simp), if_neg other, if_pos rfl]
    obtain ⟨time, timer, ended, intake, jobs, link, options, profile, queue, flushed⟩ := s.enterIdle_left
    have replied := s.enterIdle.reply_touches tag 1 .done .nothing
    refine ⟨_, rfl, ?_⟩
    rw [taken]
    refine ⟨by rw [replied.time rfl, time], (State.offer_timer _ _).trans timer, fun h => ?_, fun h => ?_, fun h => ?_,
      by rw [replied.link rfl, link], (State.offer_options _ _).trans options, (State.offer_profile _ _).trans profile,
      s.enterIdle, rfl, queue, flushed⟩
    · exact (ended h).congr rfl (sameDrive rfl) (replied.intake rfl) (replied.voices rfl) (replied.sched rfl)
        (replied.duplex rfl) (congrArg ActionLink.faults (replied.link rfl)) (replied.capture rfl) (replied.calib rfl)
    · rw [replied.intake rfl, replied.voices rfl]; exact intake h
    · rw [replied.calib rfl]; exact jobs h

end Sys2Proof.Machine
end

section
/-! PROOFS. The Strike Calculator: the interpolation and the curve (R109, R117), and the ranges of what is computed (R108,
R110, R111, R113). -/

namespace Sys2Proof.Machine

/-! ### The interpolation (R109) -/

/-- The interpolation is the quotient of the weighted sum by the span, rounded half up. -/
theorem interp_bounds (x y d : Nat) {span : Nat} (h : 1 ≤ span) :
    2 * (interp x y span d * span) ≤ 2 * (x * (span - d) + y * d) + span ∧
      2 * (x * (span - d) + y * d) < 2 * (interp x y span d * span) + span := by
  unfold interp
  generalize 2 * (x * (span - d) + y * d) = n
  have divided := Nat.div_add_mod (n + span) (2 * span)
  have rest := Nat.mod_lt (n + span) (show 0 < 2 * span by omega)
  have assoc : 2 * span * ((n + span) / (2 * span)) = 2 * ((n + span) / (2 * span) * span) := by ring
  omega

/-- The weights of an interpolation add up to the span. -/
theorem weighted_const (m : Nat) {span d : Nat} (hd : d ≤ span) : m * (span - d) + m * d = m * span := by
  rw [← Nat.mul_add, Nat.sub_add_cancel hd]

theorem interp_between (x y : Nat) {span d : Nat} (h : 1 ≤ span) (hd : d ≤ span) :
    min x y ≤ interp x y span d ∧ interp x y span d ≤ max x y := by
  obtain ⟨upper, lower⟩ := interp_bounds x y d h
  have least : min x y * span ≤ x * (span - d) + y * d := by
    rw [← weighted_const _ hd]
    exact Nat.add_le_add (Nat.mul_le_mul_right _ (Nat.min_le_left x y)) (Nat.mul_le_mul_right _ (Nat.min_le_right x y))
  have greatest : x * (span - d) + y * d ≤ max x y * span := by
    rw [← weighted_const _ hd]
    exact Nat.add_le_add (Nat.mul_le_mul_right _ (Nat.le_max_left x y)) (Nat.mul_le_mul_right _ (Nat.le_max_right x y))
  generalize interp x y span d = q at *
  constructor
  · by_contra below
    have := Nat.mul_le_mul_right span (show q + 1 ≤ min x y by omega)
    rw [Nat.add_mul] at this
    omega
  · by_contra above
    have := Nat.mul_le_mul_right span (show max x y + 1 ≤ q by omega)
    rw [Nat.add_mul] at this
    omega

/-- Between equal ends the interpolation is exact. -/
theorem interp_start (x y : Nat) {span : Nat} (h : 1 ≤ span) : interp x y span 0 = x := by
  unfold interp
  rw [show 2 * (x * (span - 0) + y * 0) + span = span + 2 * span * x by simp; ring,
    Nat.add_mul_div_left _ _ (by omega), Nat.div_eq_of_lt (by omega), Nat.zero_add]

theorem interp_end (x y : Nat) {span : Nat} (h : 1 ≤ span) : interp x y span span = y := by
  unfold interp
  rw [show 2 * (x * (span - span) + y * span) + span = span + 2 * span * y by simp; ring,
    Nat.add_mul_div_left _ _ (by omega), Nat.div_eq_of_lt (by omega), Nat.zero_add]

/-! ### The curve (R109, R117) -/

/-- The segment found is that of the greatest index whose input is not above the value and which is not the last. -/
theorem segment_eq {points : List Breakpoint} {i v : Nat} {a b : Breakpoint}
    (rising : points.Pairwise (fun p q => p.input < q.input)) (ha : points[i]? = some a) (hb : points[i + 1]? = some b)
    (low : a.input ≤ v) (greatest : ∀ j q, points[j]? = some q → q.input ≤ v → j + 2 ≤ points.length → j ≤ i) :
    segment points v = some (a, b) := by
  induction points generalizing i with
  | nil => simp at ha
  | cons p rest ih =>
    obtain ⟨above, rising⟩ := List.pairwise_cons.mp rising
    rcases rest with _ | ⟨p2, _ | ⟨p3, tail⟩⟩
    · simp at hb
    · obtain rfl : i = 0 := by
        have := (List.getElem?_eq_some_iff.mp hb).1
        simp at this; omega
      simp at ha hb
      rw [ha, hb]; rfl
    · unfold segment
      by_cases below : v < p2.input
      · obtain rfl : i = 0 := by
          cases i with
          | zero => rfl
          | succ i =>
            exfalso
            have mem := List.mem_of_getElem? (show (p2 :: p3 :: tail)[i]? = some a from ha)
            rcases List.mem_cons.mp mem with rfl | mem
            · omega
            · have := (List.pairwise_cons.mp rising).1 a mem
              omega
        simp at ha hb
        subst ha hb
        exact if_pos below
      · have first : 1 ≤ i := greatest 1 p2 rfl (by omega) (by simp)
        obtain ⟨i, rfl⟩ : ∃ j, i = j + 1 := ⟨i - 1, by omega⟩
        dsimp only
        rw [if_neg below]
        refine ih rising ha hb fun j q hj hq hl => ?_
        have := greatest (j + 1) q hj hq (by simpa using hl)
        omega

/-- Settles O53: the weighted mean rounded half up, and the segment of the greatest index. -/
theorem interpolationStaysBetweenItsEnds : Obligations.InterpolationStaysBetweenItsEnds := by
  refine ⟨fun x y span d h hd => ?_, fun points i v a b rising ha hb low greatest => ?_⟩
  · obtain ⟨least, most⟩ := interp_between x y h hd
    obtain ⟨upper, lower⟩ := interp_bounds x y d h
    exact ⟨least, most, interp_start x y h, interp_end x y h, upper, lower⟩
  · rw [readCurve, segment_eq rising ha hb low greatest]

/-! ### The ranges of a computation (R108, R110, R111, R113) -/

/-- A breakpoint that follows another without failure has the greater input (R91). -/
theorem input_lt_of_breakpointFailure {l : PageLimits} {flights : Bool} {b p : Breakpoint}
    (h : breakpointFailure l flights (some b) p = none) : b.input < p.input := by
  have first := (ite_some_eq_none.mp h).1
  simp at first
  omega

/-- Breakpoints that pass their tests rise in their inputs (R91). -/
theorem rising_of_pointsFailure {l : PageLimits} {flights : Bool} {before : Option Breakpoint} {i : Nat}
    {points : List Breakpoint} (h : pointsFailure l flights before i points = none) :
    points.Pairwise (fun p q => p.input < q.input) ∧ ∀ b, before = some b → ∀ p ∈ points, b.input < p.input := by
  induction points generalizing before i with
  | nil => exact ⟨.nil, fun _ _ _ hp => absurd hp List.not_mem_nil⟩
  | cons p ps ih =>
    unfold pointsFailure at h
    cases hp : breakpointFailure l flights before p with
    | some place => rw [hp] at h; cases h
    | none =>
      rw [hp] at h
      obtain ⟨rising, above⟩ := ih h
      refine ⟨List.pairwise_cons.mpr ⟨above p rfl, rising⟩, fun b hb q hq => ?_⟩
      subst hb
      have first := input_lt_of_breakpointFailure hp
      rcases List.mem_cons.mp hq with rfl | hq
      · exact first
      · exact first.trans (above p rfl q hq)

/-- The ends of a rising curve stand in order. -/
theorem curveEnds_le {points : List Breakpoint} (rising : points.Pairwise (fun p q => p.input < q.input)) :
    (curveEnds points).1 ≤ (curveEnds points).2 := by
  cases points with
  | nil => exact Nat.le_refl 0
  | cons p ps =>
    rcases List.eq_nil_or_concat ps with rfl | ⟨init, last, rfl⟩
    · exact Nat.le_refl _
    · have : p.input < last.input := (List.pairwise_cons.mp rising).1 last (by simp)
      have ends : curveEnds (p :: init.concat last) = (p.input, last.input) := by
        rw [List.concat_eq_append, ← List.cons_append, curveEnds, List.getLast?_concat]; rfl
      rw [ends]
      exact this.le

/-- The breakpoints of a valid Strike page rise in their velocities (R91). -/
theorem rising_of_pageValid {points : List Breakpoint} {sc : Scalars} (h : pageValid (.strike points sc) = true) :
    points.Pairwise (fun p q => p.input < q.input) := by
  have none : pageFailure (.strike points sc) = none := Option.isNone_iff_eq_none.mp h
  have points := (ite_some_eq_none.mp none).2
  exact (rising_of_pointsFailure (Option.or_eq_none_iff.mp points).1).1

/-- A trimmed level, derated, lies in 1..1023, and in 1..768 while the station is hot (R110, R111). -/
theorem derate_trimStrike_bounds (d trim : Nat) (f : Feed) :
    1 ≤ (derate (trimStrike d trim) f).1 ∧ (derate (trimStrike d trim) f).1 ≤ (if f.hot then 768 else 1023) := by
  obtain ⟨most, least⟩ := derate_bounds (trimStrike d trim) f
  have : 1 ≤ trimStrike d trim := Nat.le_max_left _ _
  exact ⟨by omega, most⟩

/-- Settles O54: each level is a trimmed one derated, the onset stage 9's, the velocity limited to the page's. -/
theorem computedStrikesAreInRange : Obligations.ComputedStrikesAreInRange := by
  intro points sc trim value f c valid _ _
  obtain ⟨level_low, level_high⟩ := derate_trimStrike_bounds (readCurve points (limitTo points (scaleVelocity value c.scale)).1).1
    trim f
  obtain ⟨hold_low, hold_high⟩ := derate_trimStrike_bounds sc.hold trim f
  exact ⟨level_low, level_high, hold_low, hold_high, hold_low, hold_high, earliest_le_lateness _ _ _,
    limitTo_bounds points _ (curveEnds_le (rising_of_pageValid valid))⟩

end Sys2Proof.Machine
end

section
/-! PROOFS. The transmit side (R171 to R173, R177): what an offer, the end of a sending and a status period leave. -/

namespace Sys2Proof.Machine

/-- A frame offered below 64 frames is handed (R171). -/
theorem State.offer_of_room {s : State} (f : Upstream) (h : s.port.queue.length < 64) : s.offer f = s.hand f := by
  rcases s.offer_cases f with ⟨-, e⟩ | ⟨full, -⟩
  · exact e
  · exact absurd h (Nat.not_lt.mpr full)

/-- A frame offered at 64 frames is discarded and counted (R172). -/
theorem State.offer_of_full {s : State} (f : Upstream) (h : 64 ≤ s.port.queue.length) :
    s.offer f = s.bump .transmitDrops := by
  rcases s.offer_cases f with ⟨room, -⟩ | ⟨-, e⟩
  · exact absurd h (Nat.not_le.mpr room)
  · exact e

/-- A frame other than a Restart's Done Reply (R179). -/
theorem Upstream.answersRestart_iff (f : Upstream) :
    f.answersRestart = true ↔ ∃ tag data, f = .reply tag 26 .done data := by
  cases f <;> simp [Upstream.answersRestart]

/-- The end of a sending, with the restart state it leaves (R171, R179). -/
theorem State.transmitDone_of_sending {s : State} {f : Upstream} {rest : List Upstream} {n : Nat}
    (hq : s.port.queue = f :: rest) (hl : s.port.line = some n) :
    s.transmitDone = State.beginSending { s with port := { s.port with
      queue := rest, line := none,
      restart := if s.port.restart = .replying ∧ f.answersRestart = true then .due else s.port.restart } } := by
  unfold State.transmitDone
  rw [hl, hq]

/-- A free line begins the sending of the queue's head, where no reset is due (R171, R179). -/
theorem State.beginSending_of_free {s : State} (hl : s.port.line = none) :
    s.beginSending = { s with port := { s.port with
      line := if s.port.restart ≠ .due ∧ s.port.queue ≠ [] then some (64 - s.intake.length) else s.port.line } } := by
  unfold State.beginSending
  by_cases begins : s.port.restart ≠ .due ∧ s.port.queue ≠ []
  · obtain ⟨f, rest, hq⟩ := List.exists_cons_of_ne_nil begins.2
    rw [if_pos begins, hl, hq]
    exact if_neg begins.1
  · rw [if_neg begins]
    split
    · next hq =>
      have due : s.port.restart = .due := by
        by_contra not_due
        exact begins ⟨not_due, by rw [hq]; exact List.cons_ne_nil _ _⟩
      exact if_pos due
    · rfl

/-- Settles O52: the cases of an offer, of the end of a sending and of a status period. -/
theorem theTransmitSideSendsInOrder : Obligations.TheTransmitSideSendsInOrder := by
  refine ⟨fun f s => ⟨fun room => ?room, fun full => ⟨?drops, fun c hc => ?others, ?frame⟩⟩, fun s r => rfl,
    fun s tag code result data => rfl, fun s tag h => exec_of_heard (fun s => s.readStatus tag 0) h rfl,
    fun f rest n s hq => ⟨fun going hl => ?sent, fun tag data hr hl hf => ?restart, fun hl => ?free⟩,
    fun s => ⟨fun p ht hr => ?expiry, fun ht => ?off⟩⟩
  case room => rw [State.offer_of_room f room, State.hand_eq]; rfl
  case drops => rw [State.offer_of_full f full, State.count_bump_self]; rfl
  case others => rw [State.offer_of_full f full, State.count_bump_ne s hc]
  case frame => rw [State.offer_of_full f full]; rfl
  case sent =>
    refine congrArg Host.Outcome.next ?_
    have stays : (if s.port.restart = .replying ∧ f.answersRestart = true then .due else s.port.restart) = s.port.restart := by
      refine if_neg fun ⟨replying, answers⟩ => ?_
      obtain ⟨tag, data, hf⟩ := f.answersRestart_iff.mp answers
      rcases going with idle | ⟨-, other⟩
      · rw [idle] at replying; cases replying
      · exact other tag data hf
    have not_due : s.port.restart ≠ .due := by
      rcases going with h | ⟨h, -⟩ <;> rw [h] <;> nofun
    rw [State.transmitDone_of_sending hq hl, stays, State.beginSending_of_free rfl]
    by_cases last : rest = [] <;> simp [last, not_due]
  case restart =>
    refine congrArg Host.Outcome.next ?_
    rw [State.transmitDone_of_sending hq hl, if_pos ⟨hr, f.answersRestart_iff.mpr ⟨tag, data, hf⟩⟩,
      State.beginSending_of_free rfl]
    rfl
  case free =>
    refine congrArg Host.Outcome.next ?_
    unfold State.transmitDone
    rw [hl]
  case expiry =>
    refine congrArg Host.Outcome.next ?_
    rw [State.statusExpiry, ht, Option.isSome_some, if_pos rfl]
    by_cases room : s.port.queue.length < 56
    · rw [if_pos (show s.queued < 56 from room), State.hand_eq]
      simp only [State.startTimer, State.intakeSpace, room, hr, ne_eq, not_false_eq_true, and_true, if_true]
    · rw [if_neg (show ¬s.queued < 56 from room)]
      simp only [State.startTimer, room, and_false, if_false]
  case off =>
    refine congrArg Host.Outcome.next ?_
    rw [State.statusExpiry, ht]
    rfl

end Sys2Proof.Machine
end

section
/-! PROOFS. The writes of Table Memory (R54, R87, R92): the judgement of each as a choice of places, what a good one replaces and
what a bad one names. -/

namespace Sys2Proof.Machine

/-! ### The commands as their owners' operations -/

theorem State.unlessStoring_of_busy {s : State} {tag : Byte} {code : Nat} {owner : State → State} (h : s.storeBusy = true) :
    s.unlessStoring tag code owner = s.reply tag code .busy .nothing := if_pos h

theorem State.unlessStoring_of_idle {s : State} {tag : Byte} {code : Nat} {owner : State → State}
    (h : s.storeBusy = false) : s.unlessStoring tag code owner = owner s := by
  rw [State.unlessStoring, h]; rfl

section
variable {s : State} (h : s.port.restart = .none) (tag : Byte)
include h

theorem exec_writeKeySense (type number a b c : Nat) :
    exec (.writeKeySense tag type number a b c) s = .next (s.writeKeySense tag type number a b c) :=
  exec_of_heard (fun s => s.writeKeySense tag type number a b c) h rfl

theorem exec_writeDescriptor (set voice : Nat) (f : RawDescriptor) :
    exec (.writeDescriptor tag set voice f) s = .next (s.writeDescriptor tag set voice f) :=
  exec_of_heard (fun s => s.writeDescriptor tag set voice f) h rfl

theorem exec_writePage (slot : Nat) (p : RawPage) :
    exec (.writePage tag slot p) s = .next (s.writePage tag slot p) :=
  exec_of_heard (fun s => s.writePage tag slot p) h rfl

end

/-! ### What a write that is judged good replaces -/

section
variable {s : State} {tag : Byte} (idle : s.storeBusy = false)
include idle

theorem State.writeKeySense_of_good {type number a b c : Nat} (h : keySenseWriteFailure type number a b c = none) :
    s.writeKeySense tag type number a b c =
      State.reply { s with mem := s.mem.setSense type number a b c } tag 12 .done .nothing := by
  rw [State.writeKeySense, State.unlessStoring_of_idle idle, h, State.judged_none]

theorem State.writeDescriptor_of_good {set voice : Nat} {f : RawDescriptor} (h : descriptorFailure set voice f = none) :
    s.writeDescriptor tag set voice f =
      State.reply { s with mem := s.mem.setDescriptor set voice (RawDescriptor.descriptor f) } tag 14 .done .nothing := by
  rw [State.writeDescriptor, State.unlessStoring_of_idle idle, h, State.judged_none]

theorem State.writePage_of_good {slot : Nat} {raw : RawPage} {content : Option Page} (h : pageWrite slot raw = .inl content) :
    s.writePage tag slot raw = State.reply { s with mem := s.mem.setPage slot content } tag 16 .done .nothing := by
  rw [State.writePage, State.unlessStoring_of_idle idle, h]

theorem State.writeKeySense_of_bad {type number a b c p : Nat} (h : keySenseWriteFailure type number a b c = some p) :
    s.writeKeySense tag type number a b c = s.reply tag 12 .range (.field p) := by
  rw [State.writeKeySense, State.unlessStoring_of_idle idle, h, State.judged_some]

theorem State.writeDescriptor_of_bad {set voice p : Nat} {f : RawDescriptor} (h : descriptorFailure set voice f = some p) :
    s.writeDescriptor tag set voice f = s.reply tag 14 .range (.field p) := by
  rw [State.writeDescriptor, State.unlessStoring_of_idle idle, h, State.judged_some]

theorem State.writePage_of_bad {slot : Nat} {raw : RawPage} {f : PageFailure} (h : pageWrite slot raw = .inr f) :
    s.writePage tag slot raw = s.reply tag 16 .range (.pageField f.1 f.2) := by
  rw [State.writePage, State.unlessStoring_of_idle idle, h]

end

/-- A reply on a state whose Table Memory alone differs is the same frame on the same line. -/
theorem State.setMem_reply_port (s : State) (m : TableMemory) (tag : Byte) (code : Nat) (result : Result) (data : ReplyData) :
    (State.reply { s with mem := m } tag code result data).port = (s.reply tag code result data).port :=
  State.offer_port_congr (s := s) _ rfl rfl

theorem State.setMem_reply_mem (s : State) (m : TableMemory) (tag : Byte) (code : Nat) (result : Result) (data : ReplyData) :
    (State.reply { s with mem := m } tag code result data).mem = m :=
  (State.reply_touches { s with mem := m } tag code result data).mem rfl

theorem State.setMem_reply_touches (s : State) (m : TableMemory) (tag : Byte) (code : Nat) (result : Result)
    (data : ReplyData) : Touches { mem := true, port := true } s (State.reply { s with mem := m } tag code result data) :=
  (State.reply_touches _ tag code result data).via ((Touches.refl _ s).on_mem rfl) rfl

/-! ### The judgement of each write -/

theorem or_ite_some {α : Type} (p : Prop) [Decidable p] (a : α) (x y : Option α) :
    (if p then some a else x).or y = if p then some a else x.or y := by split <;> rfl

/-- A key entry's number, then its fields in the order of their table (R54). -/
theorem keySenseWriteFailure_key (number a b c : Nat) :
    keySenseWriteFailure 1 number a b c =
      if number = 0 ∨ 97 < number then some 2
      else if a < 1000 ∨ 5000 < a then some 3
      else if b < 500 ∨ 5000 < b then some 4
      else if c < 10 ∨ 500 < c then some 5
      else none := by
  simp only [keySenseWriteFailure, senseEntryFailure, keySenseFailure, if_true, or_ite_some, Option.none_or,
    Bool.or_eq_true, decide_eq_true_eq]

/-- A pedal entry's number, then its fields, the pair of raw ends last (R54; log 24, log 62). -/
theorem keySenseWriteFailure_pedal (number a b c : Nat) :
    keySenseWriteFailure 2 number a b c =
      if number = 0 ∨ 3 < number then some 2
      else if 4095 < a then some 3
      else if 4095 < b then some 4
      else if c < 1 ∨ 16 < c then some 5
      else if b ≤ a then some 3
      else none := by
  simp only [keySenseWriteFailure, senseEntryFailure, pedalSenseFailure, if_true, or_ite_some, Option.none_or,
    Bool.or_eq_true, decide_eq_true_eq, show (2 : Nat) ≠ 1 by decide, if_false]

theorem voiceKindOf_eq (kind : Nat) :
    voiceKindOf kind =
      if kind = 1 then some .key else if kind = 2 then some .pedal else if kind = 3 then some .invertedPedal else none := by
  match kind with
  | 0 | 1 | 2 | 3 => rfl
  | n + 4 => simp [voiceKindOf]

/-- A descriptor's set and voice, its fields in the order of R87, then the codes of its flags (log 62). -/
theorem descriptorFailure_eq (set voice : Nat) (f : RawDescriptor) :
    descriptorFailure set voice f =
      if 3 < set then some 1
      else if 127 < voice then some 2
      else if f.kind = 0 ∨ 3 < f.kind then some 4
      else if f.target = 0 ∨ (if f.kind = 1 then 97 else 3) < f.target then some 5
      else if 511 < f.page then some 6
      else if f.trim < 500 ∨ 1500 < f.trim then some 7
      else if 1 < f.present then some 3
      else if 1 < f.accessed then some 8
      else if 1 < f.played then some 9
      else none := by
  simp only [descriptorFailure, voiceFailure, flagFailure, or_ite_some, Option.none_or, voiceKindOf_eq]
  congr 2
  by_cases outside : f.kind = 0 ∨ 3 < f.kind
  · rw [if_pos outside, if_neg (by omega), if_neg (by omega), if_neg (by omega)]
  · rw [if_neg outside]
    by_cases key : f.kind = 1
    · simp only [key, if_true]
    · by_cases pedal : f.kind = 2
      · simp [pedal]
      · rw [if_neg key, if_neg pedal, if_pos (show f.kind = 3 by omega)]
        simp [key]

/-- A page as a WritePage supplies it. -/
def suppliedPage : Page → RawPage
  | .strike points sc => .strike points sc
  | .pedal points => .pedal points

theorem pageWrite_supplied {slot : Nat} (h : slot ≤ 511) (p : Page) :
    pageWrite slot (suppliedPage p) = match pageFailure p with | some f => .inr f | none => .inl (some p) := by
  have low : ¬511 < slot := by omega
  cases p <;> exact if_neg low

theorem pageWrite_of_failure {slot : Nat} (h : slot ≤ 511) {p : Page} {f : PageFailure} (hf : pageFailure p = some f) :
    pageWrite slot (suppliedPage p) = .inr f := by rw [pageWrite_supplied h, hf]

theorem pageWrite_of_valid {slot : Nat} (h : slot ≤ 511) {p : Page} (hp : pageValid p = true) :
    pageWrite slot (suppliedPage p) = .inl (some p) := by
  rw [pageWrite_supplied h, Option.isNone_iff_eq_none.mp hp]

/-! ### Good writes -/

theorem TableMemory.setSense_key (m : TableMemory) (number a b c : Nat) :
    m.setSense 1 number a b c =
      { m with sense := { m.sense with
        keys := setNth m.sense.keys number { gap := a, residual := b, minVelocity := c } } } := rfl

theorem TableMemory.setSense_pedal (m : TableMemory) (number a b c : Nat) :
    m.setSense 2 number a b c =
      { m with sense := { m.sense with
        pedals := setNth m.sense.pedals number { rawMin := a, rawMax := b, deadband := c } } } := rfl

/-- What a WritePage judged good leaves. -/
theorem writePage_replaces {s : State} (h : s.port.restart = .none) (idle : s.storeBusy = false) {slot : Nat}
    (hs : slot ≤ 511) {raw : RawPage} {content : Option Page} (good : pageWrite slot raw = .inl content) (tag : Byte) :
    ∃ t, exec (.writePage tag slot raw) s = .next t ∧ t.mem.page slot = content ∧
      (∀ n, n ≠ slot → t.mem.page n = s.mem.page n) ∧ t.mem.sets = s.mem.sets ∧ t.mem.sense = s.mem.sense ∧
      t.voices = s.voices ∧ t.port = (s.reply tag 16 .done .nothing).port ∧ Touches { mem := true, port := true } s t := by
  refine ⟨_, exec_writePage h tag slot raw, ?_⟩
  rw [State.writePage_of_good idle good]
  simp only [State.setMem_reply_mem, TableMemory.setPage_sets, TableMemory.setPage_sense]
  exact ⟨s.mem.page_setPage_self _ hs, fun n hn => s.mem.page_setPage_ne _ hn, trivial, trivial,
    (s.setMem_reply_touches _ tag 16 .done .nothing).voices rfl, s.setMem_reply_port _ tag 16 .done .nothing,
    s.setMem_reply_touches _ tag 16 .done .nothing⟩

/-- Settles O30: each write judged good is a write of the one entry behind which the Done Reply is handed. -/
theorem tableWritesReplaceOneEntry : Obligations.TableWritesReplaceOneEntry := by
  refine fun tag set voice slot number a b c f p s h => ⟨fun busy => ⟨fun type => ?busySense, ?busyDescriptor, fun raw => ?busyPage⟩,
    fun idle => ⟨fun low high a1 a2 b1 b2 c1 c2 => ?key, fun low high ab b2 c1 c2 => ?pedal, fun hs hv hf => ?descriptor,
      fun hs hp => ?page, fun hs => ?empty⟩⟩
  case busySense => rw [exec_writeKeySense h, State.writeKeySense, State.unlessStoring_of_busy busy]
  case busyDescriptor => rw [exec_writeDescriptor h, State.writeDescriptor, State.unlessStoring_of_busy busy]
  case busyPage => rw [exec_writePage h, State.writePage, State.unlessStoring_of_busy busy]
  case key =>
    have good : keySenseWriteFailure 1 number a b c = none := by
      rw [keySenseWriteFailure_key, if_neg (by omega), if_neg (by omega), if_neg (by omega), if_neg (by omega)]
    refine ⟨_, exec_writeKeySense h tag 1 number a b c, ?_⟩
    rw [State.writeKeySense_of_good idle good, TableMemory.setSense_key]
    simp only [State.keySense, State.setMem_reply_mem]
    exact ⟨nth_setNth_self _ _ _ low high, fun j hj => nth_setNth_ne _ _ _ hj, trivial, trivial, trivial,
      s.setMem_reply_port _ tag 12 .done .nothing, s.setMem_reply_touches _ tag 12 .done .nothing⟩
  case pedal =>
    have good : keySenseWriteFailure 2 number a b c = none := by
      rw [keySenseWriteFailure_pedal, if_neg (by omega), if_neg (by omega), if_neg (by omega), if_neg (by omega),
        if_neg (by omega)]
    refine ⟨_, exec_writeKeySense h tag 2 number a b c, ?_⟩
    rw [State.writeKeySense_of_good idle good, TableMemory.setSense_pedal]
    simp only [State.pedalSense, State.setMem_reply_mem]
    exact ⟨nth_setNth_self _ _ _ low high, fun j hj => nth_setNth_ne _ _ _ hj, trivial, trivial, trivial,
      s.setMem_reply_port _ tag 12 .done .nothing, s.setMem_reply_touches _ tag 12 .done .nothing⟩
  case descriptor =>
    refine ⟨_, exec_writeDescriptor h tag set voice f, ?_⟩
    rw [State.writeDescriptor_of_good idle hf]
    simp only [State.setMem_reply_mem, TableMemory.setDescriptor_pages, TableMemory.setDescriptor_sense]
    exact ⟨s.mem.descriptor_setDescriptor_self _ hs hv, fun n v hn => s.mem.descriptor_setDescriptor_ne _ hn, trivial, trivial,
      (s.setMem_reply_touches _ tag 14 .done .nothing).voices rfl, s.setMem_reply_port _ tag 14 .done .nothing,
      s.setMem_reply_touches _ tag 14 .done .nothing⟩
  case page =>
    refine writePage_replaces h idle hs ?_ tag
    rw [← pageWrite_of_valid hs hp]
    cases p <;> rfl
  case empty =>
    have good : pageWrite slot .empty = .inl none := if_neg (by omega)
    exact writePage_replaces h idle hs good tag

/-! ### The first failure of a page's breakpoints (R91, R92) -/

/-- Place `f` of breakpoint `q` fails by the limits, or against the breakpoint before it (R91). -/
def PlaceFails (l : PageLimits) (flights : Bool) (before : Option Breakpoint) (q : Breakpoint) (f : Nat) : Prop :=
  (f = 4 ∧ (q.input < l.inputLow ∨ l.inputHigh < q.input ∨ ∃ a, before = some a ∧ q.input ≤ a.input)) ∨
    (f = 5 ∧ (q.drive < l.driveLow ∨ 1023 < q.drive ∨ ∃ a, before = some a ∧ q.drive < a.drive)) ∨
    (f = 6 ∧ (q.time < l.timeLow ∨ 60000 < q.time ∨ flights = true ∧ ∃ a, before = some a ∧ a.time < q.time))

/-- The first place that fails is the one a breakpoint's judgement names, and it names none where none fails. -/
theorem breakpointFailure_cases (l : PageLimits) (flights : Bool) (before : Option Breakpoint) (q : Breakpoint) :
    (breakpointFailure l flights before q = none ∧ ∀ f, ¬PlaceFails l flights before q f) ∨
      ∃ f, breakpointFailure l flights before q = some f ∧ PlaceFails l flights before q f ∧
        ∀ g, PlaceFails l flights before q g → f ≤ g := by
  have tested : ∀ (p : Breakpoint → Prop) [DecidablePred p],
      before.any (fun b => decide (p b)) = true ↔ ∃ a, before = some a ∧ p a := by
    intro p _
    rw [Option.any_eq_true]
    simp only [decide_eq_true_eq]
  unfold breakpointFailure
  simp only [Bool.or_eq_true, Bool.and_eq_true, decide_eq_true_eq, tested, or_assoc]
  split
  · next h => exact .inr ⟨4, rfl, .inl ⟨rfl, h⟩, fun g hg => by unfold PlaceFails at hg; omega⟩
  · next h4 =>
    split
    · next h => exact .inr ⟨5, rfl, .inr (.inl ⟨rfl, h⟩), fun g hg => by unfold PlaceFails at hg; grind⟩
    · next h5 =>
      split
      · next h => exact .inr ⟨6, rfl, .inr (.inr ⟨rfl, h⟩), fun g hg => by unfold PlaceFails at hg; grind⟩
      · next h6 => exact .inl ⟨rfl, fun f hf => by unfold PlaceFails at hf; grind⟩

/-- The breakpoint before the one of index `i`. -/
def prior (before : Option Breakpoint) (points : List Breakpoint) : Nat → Option Breakpoint
  | 0 => before
  | j + 1 => points[j]?

theorem prior_cons (before : Option Breakpoint) (p : Breakpoint) (points : List Breakpoint) (i : Nat) :
    prior before (p :: points) (i + 1) = prior (some p) points i := by cases i <;> rfl

theorem prior_none_iff (points : List Breakpoint) (i : Nat) (a : Breakpoint) :
    prior none points i = some a ↔ ∃ j, i = j + 1 ∧ points[j]? = some a := by
  cases i <;> simp [prior]

theorem exists_prior_iff (points : List Breakpoint) (i : Nat) (p : Breakpoint → Prop) :
    (∃ a, prior none points i = some a ∧ p a) ↔ ∃ j a, i = j + 1 ∧ points[j]? = some a ∧ p a := by
  simp only [prior_none_iff]
  exact ⟨fun ⟨a, ⟨j, hi, hj⟩, ha⟩ => ⟨j, a, hi, hj, ha⟩, fun ⟨j, a, hi, hj, ha⟩ => ⟨a, ⟨j, hi, hj⟩, ha⟩⟩

/-- Place `f` of the breakpoint of index `i` fails. -/
def FailsAt (l : PageLimits) (flights : Bool) (before : Option Breakpoint) (points : List Breakpoint) (i f : Nat) : Prop :=
  ∃ q, points[i]? = some q ∧ PlaceFails l flights (prior before points i) q f

theorem failsAt_cons_succ {l : PageLimits} {flights : Bool} {before : Option Breakpoint} {p : Breakpoint}
    {points : List Breakpoint} {i f : Nat} :
    FailsAt l flights before (p :: points) (i + 1) f ↔ FailsAt l flights (some p) points i f := by
  unfold FailsAt
  rw [prior_cons, List.getElem?_cons_succ]

theorem failsAt_cons_zero {l : PageLimits} {flights : Bool} {before : Option Breakpoint} {p : Breakpoint}
    {points : List Breakpoint} {f : Nat} :
    FailsAt l flights before (p :: points) 0 f ↔ PlaceFails l flights before p f := by
  simp [FailsAt, prior]

/-- The failure named is the first, by index and then by place. -/
theorem pointsFailure_of_first {l : PageLimits} {flights : Bool} {before : Option Breakpoint} {points : List Breakpoint}
    {i f : Nat} (k : Nat) (h : FailsAt l flights before points i f)
    (first : ∀ j g, FailsAt l flights before points j g → i < j ∨ (i = j ∧ f ≤ g)) :
    pointsFailure l flights before k points = some (f, k + i) := by
  induction points generalizing before i k with
  | nil => obtain ⟨q, hq, -⟩ := h; simp at hq
  | cons p rest ih =>
    unfold pointsFailure
    rcases breakpointFailure_cases l flights before p with ⟨none, passes⟩ | ⟨g, some, fails, least⟩
    · rw [none]
      cases i with
      | zero => exact absurd (failsAt_cons_zero.mp h) (passes f)
      | succ i =>
        have := ih (k + 1) (failsAt_cons_succ.mp h) fun j g hj => by
          have := first (j + 1) g (failsAt_cons_succ.mpr hj)
          omega
        rw [show k + (i + 1) = k + 1 + i by omega]
        exact this
    · have := first 0 g (failsAt_cons_zero.mpr fails)
      obtain rfl : i = 0 := by omega
      have := least f (failsAt_cons_zero.mp h)
      obtain rfl : f = g := by omega
      rw [some]; rfl

/-- Breakpoints of which none fails pass. -/
theorem pointsFailure_none_of {l : PageLimits} {flights : Bool} {before : Option Breakpoint} {points : List Breakpoint}
    (k : Nat) (h : ∀ i f, ¬FailsAt l flights before points i f) : pointsFailure l flights before k points = none := by
  induction points generalizing before k with
  | nil => rfl
  | cons p rest ih =>
    unfold pointsFailure
    rcases breakpointFailure_cases l flights before p with ⟨none, -⟩ | ⟨g, -, fails, -⟩
    · rw [none]
      exact ih (k + 1) fun i f hf => h (i + 1) f (failsAt_cons_succ.mpr hf)
    · exact absurd (failsAt_cons_zero.mpr fails) (h 0 g)

/-- A page whose count is good is judged by its breakpoints, a Strike page then by its scalars. -/
theorem pageFailure_strike {points : List Breakpoint} (sc : Scalars) (h2 : 2 ≤ points.length) (h16 : points.length ≤ 16) :
    pageFailure (.strike points sc) = (pointsFailure strikeLimits true none 0 points).or (scalarsFailure sc) := by
  have good : ¬(points.length < 2 ∨ 16 < points.length) := by omega
  simp only [pageFailure, Bool.or_eq_true, decide_eq_true_eq]
  exact if_neg good

theorem pageFailure_pedal {points : List Breakpoint} (h2 : 2 ≤ points.length) (h16 : points.length ≤ 16) :
    pageFailure (.pedal points) = pointsFailure pedalLimits false none 0 points := by
  have good : ¬(points.length < 2 ∨ 16 < points.length) := by omega
  simp only [pageFailure, Bool.or_eq_true, decide_eq_true_eq]
  exact if_neg good

theorem scalarsFailure_eq (sc : Scalars) :
    scalarsFailure sc =
      if sc.attack < 2000 ∨ 40000 < sc.attack then some (7, 255)
      else if sc.hold = 0 ∨ 1023 < sc.hold then some (8, 255)
      else if sc.rearm < 10000 ∨ 200000 < sc.rearm then some (9, 255)
      else if 60000 < sc.silentLead then some (10, 255)
      else none := by
  simp only [scalarsFailure, Bool.or_eq_true, decide_eq_true_eq, Nat.lt_one_iff]

/-- Settles O31: the judgement of each write is a choice of places in the order of its table; of a page's breakpoints the first
failure is named. -/
theorem tableWritesRefuseBadFields : Obligations.TableWritesRefuseBadFields := by
  refine ⟨fun tag type number a b c s h idle refused hr => ?sense, fun tag set voice f s h idle refused top hr ht => ?descriptor,
    fun tag set voice s h restoring hs _ => ?read, fun tag slot raw p s h idle refused hr => ?page⟩
  case sense =>
    have named : ∀ {p}, keySenseWriteFailure type number a b c = some p → refused p := fun hp => (hr _).mpr <| by
      rw [exec_writeKeySense h, State.writeKeySense_of_bad idle hp]
    refine ⟨fun h1 h2 => named ?_, fun ht out => named ?_, fun ht out => named ?_, fun ht low high => ⟨fun bad => named ?_,
      fun a1 a2 => ⟨fun bad => named ?_, fun b1 b2 bad => named ?_⟩⟩, fun ht low high => ⟨fun bad => named ?_,
      fun a2 => ⟨fun bad => named ?_, fun b2 => ⟨fun bad => named ?_, fun c1 c2 bad => named ?_⟩⟩⟩⟩
    · rw [keySenseWriteFailure, senseEntryFailure_other h1 h2]; rfl
    · rw [ht, keySenseWriteFailure_key, if_pos out]
    · rw [ht, keySenseWriteFailure_pedal, if_pos out]
    · rw [ht, keySenseWriteFailure_key, if_neg (by omega), if_pos bad]
    · rw [ht, keySenseWriteFailure_key, if_neg (by omega), if_neg (by omega), if_pos bad]
    · rw [ht, keySenseWriteFailure_key, if_neg (by omega), if_neg (by omega), if_neg (by omega), if_pos bad]
    · rw [ht, keySenseWriteFailure_pedal, if_neg (by omega), if_pos bad]
    · rw [ht, keySenseWriteFailure_pedal, if_neg (by omega), if_neg (by omega), if_pos bad]
    · rw [ht, keySenseWriteFailure_pedal, if_neg (by omega), if_neg (by omega), if_neg (by omega), if_pos (by omega)]
    · rw [ht, keySenseWriteFailure_pedal, if_neg (by omega), if_neg (by omega), if_neg (by omega), if_neg (by omega),
        if_pos bad]
  case descriptor =>
    subst ht
    have named : ∀ {p}, descriptorFailure set voice f = some p → refused p := fun hp => (hr _).mpr <| by
      rw [exec_writeDescriptor h, State.writeDescriptor_of_bad idle hp]
    rw [descriptorFailure_eq] at named
    refine ⟨fun bad => named ?_, fun h1 => ⟨fun bad => named ?_, fun h2 => ⟨fun bad => named ?_, fun k1 k2 =>
      ⟨fun bad => named ?_, fun t1 t2 => ⟨fun bad => named ?_, fun hp => ⟨fun bad => named ?_, fun r1 r2 =>
        ⟨fun bad => named ?_, fun p1 => ⟨fun bad => named ?_, fun a1 bad => named ?_⟩⟩⟩⟩⟩⟩⟩⟩
    · rw [if_pos bad]
    · rw [if_neg (by omega), if_pos bad]
    · rw [if_neg (by omega), if_neg (by omega), if_pos bad]
    · rw [if_neg (by omega), if_neg (by omega), if_neg (by omega), if_pos bad]
    · rw [if_neg (by omega), if_neg (by omega), if_neg (by omega), if_neg (by omega), if_pos bad]
    · rw [if_neg (by omega), if_neg (by omega), if_neg (by omega), if_neg (by omega), if_neg (by omega), if_pos bad]
    · rw [if_neg (by omega), if_neg (by omega), if_neg (by omega), if_neg (by omega), if_neg (by omega), if_neg (by omega),
        if_pos bad]
    · rw [if_neg (by omega), if_neg (by omega), if_neg (by omega), if_neg (by omega), if_neg (by omega), if_neg (by omega),
        if_neg (by omega), if_pos bad]
    · rw [if_neg (by omega), if_neg (by omega), if_neg (by omega), if_neg (by omega), if_neg (by omega), if_neg (by omega),
        if_neg (by omega), if_neg (by omega), if_pos bad]
  case read => rw [exec_readDescriptor h, State.readDescriptor_eq, restoring, if_neg nofun, if_pos hs]
  case page =>
    have named : ∀ {f i}, pageWrite slot raw = .inr (f, i) → refused f i := fun hp => (hr _ _).mpr <| by
      rw [exec_writePage h, State.writePage_of_bad idle hp]
    refine ⟨fun hs => named (if_pos hs), fun hs => ⟨fun code hraw => named ?_, fun hraw => ?_⟩⟩
    · rw [hraw]; exact if_neg (by omega)
    · obtain rfl : raw = suppliedPage p := by rw [hraw]; cases p <;> rfl
      have fails : ∀ {f i}, pageFailure p = some (f, i) → refused f i := fun hp => named (pageWrite_of_failure hs hp)
      refine ⟨fun f i => fails, fun l x hp count => fails ?_, fun l hp count => fails ?_,
        fun l least most failsAt h2 h16 kind hf => ?_⟩
      · rw [hp]
        simp only [pageFailure, Bool.or_eq_true, decide_eq_true_eq]
        exact if_pos count
      · rw [hp]
        simp only [pageFailure, Bool.or_eq_true, decide_eq_true_eq]
        exact if_pos count
      · obtain ⟨⟨x, rfl⟩, rfl, rfl⟩ | ⟨rfl, rfl, rfl⟩ := kind
        · have same : ∀ i f, failsAt i f ↔ FailsAt strikeLimits true none l i f := fun i f => by
            rw [hf, FailsAt]
            simp only [PlaceFails, exists_prior_iff, strikeLimits, true_and, Page.strike.injEq, exists_and_left,
              exists_eq_left']
          have judged := pageFailure_strike x h2 h16
          refine ⟨fun i f at_fails first => fails ?_, fun passes => ⟨nofun, fun y hy => ?_⟩⟩
          · rw [judged, pointsFailure_of_first 0 ((same i f).mp at_fails) fun j g hg => first j g ((same j g).mpr hg),
              Nat.zero_add]
            rfl
          · cases hy
            rw [pointsFailure_none_of 0 fun i f hif => passes i f ((same i f).mpr hif), Option.none_or, scalarsFailure_eq]
              at judged
            refine ⟨fun bad => fails ?_, fun a1 a2 => ⟨fun bad => fails ?_, fun o1 o2 => ⟨fun bad => fails ?_, fun r1 r2 =>
              ⟨fun bad => fails ?_, fun hl => ?_⟩⟩⟩⟩
            · rw [judged, if_pos bad]
            · rw [judged, if_neg (by omega), if_pos bad]
            · rw [judged, if_neg (by omega), if_neg (by omega), if_pos bad]
            · rw [judged, if_neg (by omega), if_neg (by omega), if_neg (by omega), if_pos bad]
            · rw [pageValid, judged, if_neg (by omega), if_neg (by omega), if_neg (by omega), if_neg (by omega)]; rfl
        · have same : ∀ i f, failsAt i f ↔ FailsAt pedalLimits false none l i f := fun i f => by
            rw [hf, FailsAt]
            simp [PlaceFails, exists_prior_iff, pedalLimits]
          have judged := pageFailure_pedal h2 h16
          refine ⟨fun i f at_fails first => fails ?_, fun passes => ⟨fun _ => ?_, nofun⟩⟩
          · rw [judged, pointsFailure_of_first 0 ((same i f).mp at_fails) fun j g hg => first j g ((same j g).mpr hg),
              Nat.zero_add]
          · rw [pageValid, judged, pointsFailure_none_of 0 fun i f hif => passes i f ((same i f).mpr hif)]; rfl

end Sys2Proof.Machine
end

section
/-! PROOFS. The Score Port Controller's own requests (R175 to R177, R179) and the requests of the Calibration Store (R183 to
R185). -/

namespace Sys2Proof.Machine

/-! ### The commands as their owners' operations -/

section
variable {s : State} (h : s.port.restart = .none) (tag : Byte)
include h

theorem exec_setProfile (f : RawProfile) : exec (.setProfile tag f) s = .next (s.setProfile tag f) :=
  exec_of_heard (fun s => s.setProfile tag f) h rfl

theorem exec_setOptions (values : List (OptionName × Nat)) :
    exec (.setOptions tag values) s = .next (s.setOptions tag values) :=
  exec_of_heard (fun s => s.setOptions tag values) h rfl

theorem exec_readStatus (clear : Nat) : exec (.readStatus tag clear) s = .next (s.readStatus tag clear) :=
  exec_of_heard (fun s => s.readStatus tag clear) h rfl

theorem exec_restart : exec (.restart tag) s = .next (s.takeRestart tag) :=
  exec_of_heard (fun s => s.takeRestart tag) h rfl

theorem exec_storeSave (first last : Nat) : exec (.storeSave tag first last) s = .next (s.storeSave tag first last) :=
  exec_of_heard (fun s => s.storeSave tag first last) h rfl

theorem exec_storeRestore : exec (.storeRestore tag) s = .next (s.storeRestore tag) :=
  exec_of_heard (fun s => s.storeRestore tag) h rfl

end

/-! ### The profile (R175) -/

theorem profileFailure_eq (f : RawProfile) :
    profileFailure f =
      if f.keyCount ≠ 88 ∧ f.keyCount ≠ 97 then some 1
      else if f.stations = 0 ∨ 8 < f.stations then some 2
      else if 37 < f.boundary then some 3
      else if 1 < f.autoPermit then some 4
      else none := rfl

/-- Where no store operation is in flight and no profile is written the fields are judged (R175). -/
theorem State.setProfile_of_free {s : State} {tag : Byte} {f : RawProfile} (idle : s.storeBusy = false)
    (free : s.port.profile = none) :
    s.setProfile tag f = s.judged tag 23 (profileFailure f) (fun s =>
      State.reply { s with port := { s.port with profile := some (RawProfile.profile f) } } tag 23 .done .nothing) := by
  rw [State.setProfile, State.unlessStoring_of_idle idle, free]

/-! ### The options (R176) -/

theorem optionFails_iff (x : OptionName × Nat) :
    optionFails x = true ↔ x.2 < (optionRange x.1).1 ∨ (optionRange x.1).2 < x.2 := by
  simp [optionFails]

theorem mem_allOptions (o : OptionName) : o ∈ allOptions := by cases o <;> decide

theorem allOptions_ascend : allOptions.Pairwise (fun a b => optionPlace a < optionPlace b) := by decide

/-- Where every value lies in its range nothing is named. -/
theorem optionsFailure_none {values : List (OptionName × Nat)}
    (h : ∀ x ∈ values, (optionRange x.1).1 ≤ x.2 ∧ x.2 ≤ (optionRange x.1).2) : optionsFailure values = none := by
  rw [optionsFailure, Option.map_eq_none_iff, List.find?_eq_none]
  intro o _ found
  obtain ⟨x, hx, same⟩ := List.any_eq_true.mp found
  have := (optionFails_iff x).mp (Bool.and_eq_true_iff.mp same).2
  have := h x hx
  omega

/-- The first option outside its range, in the order of the table, is named (R176). -/
theorem optionsFailure_of_first {values : List (OptionName × Nat)} {x : OptionName × Nat} (hx : x ∈ values)
    (fails : optionFails x = true) (first : ∀ y ∈ values, optionFails y = true → optionPlace x.1 ≤ optionPlace y.1) :
    optionsFailure values = some (optionPlace x.1) := by
  have found : values.any (fun y => y.1 == x.1 && optionFails y) = true :=
    List.any_eq_true.mpr ⟨x, hx, by simp [fails]⟩
  obtain ⟨o, ho⟩ : ∃ o, allOptions.find? (fun o => values.any (fun x => x.1 == o && optionFails x)) = some o :=
    Option.isSome_iff_exists.mp (List.find?_isSome.mpr ⟨x.1, mem_allOptions x.1, found⟩)
  obtain ⟨holds, before, after, split, none_before⟩ := List.find?_eq_some_iff_append.mp ho
  obtain ⟨y, hy, same⟩ := List.any_eq_true.mp holds
  obtain ⟨rfl, y_fails⟩ : y.1 = o ∧ optionFails y = true := by simpa using same
  have least := first y hy y_fails
  have place : x.1 ∈ before ++ y.1 :: after := split ▸ mem_allOptions x.1
  rw [optionsFailure, ho]
  rcases List.mem_append.mp place with mem | mem
  · have := none_before x.1 mem
    rw [found] at this
    cases this
  · rcases List.mem_cons.mp mem with same | mem
    · rw [same]; rfl
    · have ascend := allOptions_ascend
      rw [split, List.pairwise_append] at ascend
      have := (List.pairwise_cons.mp ascend.2.1).1 x.1 mem
      omega

theorem State.setOptions_of_good {s : State} {tag : Byte} {values : List (OptionName × Nat)} (free : s.restoring = false)
    (h : optionsFailure values = none) :
    s.setOptions tag values = (s.putOptions values).reply tag 24 .done (.options (s.putOptions values).port.options) := by
  rw [State.setOptions, State.unlessRestoring_of_not free, h]

/-- The options put, with the status timer as they leave it (R176, R177). -/
theorem State.putOptions_eq (s : State) (values : List (OptionName × Nat)) :
    s.putOptions values = { s with port := { s.port with
      options := values.foldl Options.set s.port.options,
      timer := if (values.foldl Options.set s.port.options).statusPeriod ≠ s.port.options.statusPeriod ∧ s.port.timer ≠ none
        then some (values.foldl Options.set s.port.options).statusPeriod else s.port.timer } } := by
  unfold State.putOptions State.startTimer
  simp only [ne_eq, Option.isSome_iff_ne_none]
  split <;> rfl

/-- What the transmit queue holds behind an offer (R171, R172). -/
theorem State.offer_queue (s : State) (f : Upstream) :
    (s.offer f).port.queue = if s.port.queue.length < 64 then s.port.queue ++ [f] else s.port.queue := by
  by_cases room : s.port.queue.length < 64
  · rw [State.offer_of_room f room, State.hand_queue, if_pos room]
  · rw [State.offer_of_full f (Nat.not_lt.mp room), if_neg room]; rfl

/-! ### The status and the Restart (R177, R179) -/

theorem State.readStatus_clear (s : State) (tag : Byte) :
    s.readStatus tag 1 = State.offer { s with port := { s.port with counters := Vector.replicate 22 0 } }
      (.status tag (s.statusRecord true)) := rfl

/-- Settles O34. -/
theorem portRequests : Obligations.PortRequests := by
  refine ⟨fun tag f s h => ⟨fun busy => ?busy, fun p idle locked => ?locked, fun idle free k s1 s8 b a => ?written,
      fun idle free k1 k2 => ?keys, fun idle free k => ⟨fun bad => ?stations, fun s1 s8 => ⟨fun bad => ?boundary,
        fun b bad => ?permit⟩⟩⟩,
    fun tag values s h free => ⟨fun good => ?options, fun x hx bad first => ?option⟩,
    fun tag s h => ⟨exec_readStatus h tag 0, fun clear bad => ?clearCode, fun room => ?cleared, fun busy => ?restartBusy,
      fun idle room => ?restart, fun idle full => ?reset⟩⟩
  case busy => rw [exec_setProfile h, State.setProfile, State.unlessStoring_of_busy busy]
  case locked => rw [exec_setProfile h, State.setProfile, State.unlessStoring_of_idle idle, locked]
  case written =>
    rw [exec_setProfile h, State.setProfile_of_free idle free, profileFailure_eq, if_neg (by omega), if_neg (by omega),
      if_neg (by omega), if_neg (by omega), State.judged_none]
    rfl
  case keys =>
    rw [exec_setProfile h, State.setProfile_of_free idle free, profileFailure_eq, if_pos ⟨k1, k2⟩, State.judged_some]
  case stations =>
    rw [exec_setProfile h, State.setProfile_of_free idle free, profileFailure_eq, if_neg (by omega), if_pos bad,
      State.judged_some]
  case boundary =>
    rw [exec_setProfile h, State.setProfile_of_free idle free, profileFailure_eq, if_neg (by omega), if_neg (by omega),
      if_pos bad, State.judged_some]
  case permit =>
    rw [exec_setProfile h, State.setProfile_of_free idle free, profileFailure_eq, if_neg (by omega), if_neg (by omega),
      if_neg (by omega), if_pos bad, State.judged_some]
  case options =>
    refine ⟨_, exec_setOptions h tag values, ?_⟩
    rw [State.setOptions_of_good free (optionsFailure_none good), State.putOptions_eq]
    simp only [State.reply, State.offer_options, State.offer_profile, State.offer_timer, State.offer_queue]
    exact ⟨trivial, trivial, trivial, trivial⟩
  case option =>
    rw [exec_setOptions h, State.setOptions, State.unlessRestoring_of_not free,
      optionsFailure_of_first hx ((optionFails_iff x).mpr bad) fun y hy fails => first y hy ((optionFails_iff y).mp fails)]
  case clearCode => rw [exec_readStatus h, State.readStatus, if_pos bad]
  case cleared =>
    refine ⟨_, exec_readStatus h tag 1, ?_⟩
    rw [State.readStatus_clear,
      State.offer_of_room (s := { s with port := { s.port with counters := Vector.replicate 22 0 } }) _ room]
    refine ⟨fun c => ?_, State.hand_queue _ _, ?_⟩
    · rw [State.count, State.hand_counters]
      simp [Counter.index_lt c]
    · rw [State.hand_eq]
      exact ((Touches.refl _ s).on_port rfl)
  case restartBusy => rw [exec_restart h, State.takeRestart, State.unlessStoring_of_busy busy]
  case restart => rw [exec_restart h, State.takeRestart, State.unlessStoring_of_idle idle, if_pos room]
  case reset =>
    refine ⟨_, exec_restart h tag, ?_⟩
    rw [State.takeRestart, State.unlessStoring_of_idle idle, if_neg (Nat.not_lt.mpr full)]
    exact ⟨State.fresh_atReset .., rfl, rfl, rfl⟩

/-! ### The store's requests (R183 to R185) -/

/-- The save at a protected block passes over every block left and ends (R182, R183). -/
theorem State.saveFrom_guarded (s : State) (op : SaveOp) (h : op.boundary ≤ op.block) :
    State.saveFrom (op.last + 1 - op.block) s op = (s.setOp .idle).report
      (.saveDone op.first op.last (op.results ++ List.replicate (op.last + 1 - op.block) .guarded)) := by
  generalize hn : op.last + 1 - op.block = n
  induction n generalizing op with
  | zero => rw [List.replicate_zero, List.append_nil]; rfl
  | succ n ih =>
    unfold State.saveFrom
    rw [if_neg (by omega), if_pos h,
      ih { op with block := op.block + 1, results := op.results ++ [.guarded] } (Nat.le_succ_of_le h)
        (show op.last + 1 - (op.block + 1) = n by omega)]
    rw [List.replicate_succ, List.append_assoc]
    rfl

/-- The save at an unprotected block of its range begins its erase (R183). -/
theorem State.saveFrom_open (s : State) (op : SaveOp) (h : op.block < op.boundary) (range : op.block ≤ op.last) :
    State.saveFrom (op.last + 1 - op.block) s op = s.setOp (.save { op with stage := .erasing }) := by
  rw [show op.last + 1 - op.block = op.last - op.block + 1 by omega]
  unfold State.saveFrom
  rw [if_neg (by omega), if_neg (by omega)]

theorem saveFailure_of_range {first last : Nat} (h : first ≤ last) (top : last ≤ 36) : saveFailure first last = none := by
  rw [saveFailure, if_neg (by omega), if_neg (by omega), if_neg (by omega)]

/-- In Idle with no store operation a save's range is judged, and a good one begun (R183). -/
theorem State.storeSave_of_idle {s : State} {tag : Byte} {first last : Nat} (free : s.storeBusy = false)
    (idle : s.time.mode = .idle) :
    s.storeSave tag first last =
      s.judged tag 27 (saveFailure first last) (fun s => (s.reply tag 27 .done .nothing).beginSave first last) := by
  rw [State.storeSave, State.unlessStoring_of_idle free, if_neg (not_not.mpr idle)]

/-- A request that a restore refuses, and what a save refuses, is answered BUSY (R185). -/
theorem exec_rowOf_of_restoring {s : State} (h : s.port.restart = .none) (restoring : s.restoring = true) (tag : Byte)
    (r : Request) (other : ∀ clear, r ≠ .readStatus clear) :
    exec (rowOf tag r) s = .next (s.reply tag (Request.code r) .busy .nothing) := by
  have busy : s.storeBusy = true := by rw [State.storeBusy, restoring]; rfl
  cases r with
  | setMode | transportStart | transportPause | transportResume | transportStop | setCue =>
    exact congrArg Host.Outcome.next (if_pos restoring)
  | linkStart | linkStop | drivePermit | readRoster | clearKeyFault | readKeySense | readDescriptor | readPage | selectVoicing
  | invalidateVoice | invalidateAll | calibrateQueue | calibrateAbort | setOptions =>
    exact (congrArg Host.Outcome.next (if_pos h)).trans (congrArg Host.Outcome.next (if_pos restoring))
  | writeKeySense | writeDescriptor | writePage | setProfile | restart | storeSave | storeRestore =>
    exact (congrArg Host.Outcome.next (if_pos h)).trans (congrArg Host.Outcome.next (if_pos busy))
  | readStatus clear => exact absurd rfl (other clear)

theorem exec_rowOf_of_saving {s : State} (h : s.port.restart = .none) (saving : s.saving = true) (tag : Byte) (r : Request)
    (refused : refusedWhileSaving r = true) : exec (rowOf tag r) s = .next (s.reply tag (Request.code r) .busy .nothing) := by
  have busy : s.storeBusy = true := by rw [State.storeBusy, saving, Bool.or_true]
  cases r with
  | setMode code =>
    obtain ⟨low, -⟩ : 2 ≤ code ∧ code ≤ 5 := by simpa [refusedWhileSaving] using refused
    have free : s.restoring = false := by
      unfold State.saving at saving
      unfold State.restoring
      cases hop : s.store.op <;> simp_all
    have other : (s.saving && code != 1) = true := by
      rw [saving, Bool.true_and]
      exact bne_iff_ne.mpr (by omega)
    refine congrArg Host.Outcome.next ?_
    rw [State.takeMode, State.unlessRestoring_of_not free, if_pos other]
    rfl
  | writeKeySense | writeDescriptor | writePage | setProfile | restart | storeSave | storeRestore =>
    exact (congrArg Host.Outcome.next (if_pos h)).trans (congrArg Host.Outcome.next (if_pos busy))
  | transportStart | transportPause | transportResume | transportStop | setCue | linkStart | linkStop | drivePermit
  | readRoster | clearKeyFault | readKeySense | readDescriptor | readPage | selectVoicing | invalidateVoice | invalidateAll
  | calibrateQueue | calibrateAbort | setOptions | readStatus => cases refused

/-- Settles O35. -/
theorem storeRequests : Obligations.StoreRequests := by
  refine ⟨fun tag first last s h => ⟨fun busy => ⟨?saveBusy, ?restoreBusy⟩, fun free other => ⟨?saveState, ?restoreState⟩,
      fun free idle => ⟨fun bad => ?first, fun ok bad => ?last, fun ok bad => ?order⟩,
      fun free idle range top opened => ?save, fun free idle range top guarded => ?guarded, fun free idle => ?restore⟩,
    fun tag r s h => ⟨fun restoring other => exec_rowOf_of_restoring h restoring tag r other,
      fun saving refused => exec_rowOf_of_saving h saving tag r refused⟩⟩
  case saveBusy => rw [exec_storeSave h, State.storeSave, State.unlessStoring_of_busy busy]
  case restoreBusy => rw [exec_storeRestore h, State.storeRestore, State.unlessStoring_of_busy busy]
  case saveState => rw [exec_storeSave h, State.storeSave, State.unlessStoring_of_idle free, if_pos other]
  case restoreState => rw [exec_storeRestore h, State.storeRestore, State.unlessStoring_of_idle free, if_pos other]
  case first => rw [exec_storeSave h, State.storeSave_of_idle free idle, saveFailure, if_pos bad, State.judged_some]
  case last =>
    rw [exec_storeSave h, State.storeSave_of_idle free idle, saveFailure, if_neg (by omega), if_pos bad, State.judged_some]
  case order =>
    rw [exec_storeSave h, State.storeSave_of_idle free idle, saveFailure, if_neg (by omega), if_neg (by omega), if_pos bad,
      State.judged_some]
  case save =>
    refine ⟨_, { stage := .erasing, block := first, first := first, last := last, boundary := s.boundary,
                 written := .erased, results := [] }, exec_storeSave h tag first last, ?_⟩
    have replied := s.reply_touches tag 27 .done .nothing
    rw [State.storeSave_of_idle free idle, saveFailure_of_range range top, State.judged_none, State.beginSave,
      State.boundary_congr (s := s) (t := s.reply tag 27 .done .nothing) (State.offer_profile s _)]
    generalize s.reply tag 27 .done .nothing = t at *
    have opening := t.saveFrom_open
      { stage := .erasing, block := first, first := first, last := last, boundary := s.boundary, written := .erased,
        results := [] } opened range
    dsimp only at opening
    rw [opening]
    exact ⟨by rw [← replied.store rfl]; rfl, rfl, rfl, rfl, rfl, rfl, rfl, rfl,
      replied.mem rfl⟩
  case guarded =>
    refine ⟨_, exec_storeSave h tag first last, ?_⟩
    have replied := s.reply_touches tag 27 .done .nothing
    rw [State.storeSave_of_idle free idle, saveFailure_of_range range top, State.judged_none, State.beginSave,
      State.boundary_congr (s := s) (t := s.reply tag 27 .done .nothing) (State.offer_profile s _)]
    generalize s.reply tag 27 .done .nothing = t at *
    have ending := t.saveFrom_guarded
      { stage := .erasing, block := first, first := first, last := last, boundary := s.boundary, written := .erased,
        results := [] } guarded
    dsimp only [List.nil_append] at ending
    rw [ending]
    refine ⟨?_, State.report_port_congr _ rfl rfl rfl⟩
    rw [(State.report_touches _ _).store rfl, ← replied.store rfl]
    rfl
  case restore =>
    refine ⟨_, exec_storeRestore h tag, ?_⟩
    have replied := s.reply_touches tag 28 .done .nothing
    rw [State.storeRestore, State.unlessStoring_of_idle free, if_neg (not_not.mpr idle), State.beginRestore]
    generalize s.reply tag 28 .done .nothing = t at *
    exact ⟨by rw [← replied.store rfl]; rfl, by rw [← replied.voices rfl]; rfl, replied.mem rfl⟩

end Sys2Proof.Machine
end

section
/-! PROOFS. The requests of the Calibration Sequencer (R156, R166) and the stages of a save and a restore (R181 to R184). -/

namespace Sys2Proof.Machine

/-! ### CalibrateQueue and CalibrateAbort -/

theorem State.calibrateQueue_eq (s : State) (tag : Byte) (j : Job) :
    s.calibrateQueue tag j = if s.restoring then s.reply tag 21 .busy .nothing
      else if s.time.mode = .idle ∨ s.time.mode = .calibrate then
        if j.key = 0 ∨ s.keyCount < j.key then s.reply tag 21 .range (.field 1)
        else if 511 < j.slot then s.reply tag 21 .range (.field 2)
        else if j.levels < 4 ∨ 16 < j.levels then s.reply tag 21 .range (.field 3)
        else if j.minDrive = 0 ∨ 1023 < j.minDrive ∨ j.maxDrive ≤ j.minDrive then s.reply tag 21 .range (.field 4)
        else if 1023 < j.maxDrive then s.reply tag 21 .range (.field 5)
        else if j.repeats = 0 ∨ 4 < j.repeats then s.reply tag 21 .range (.field 6)
        else if j.spacing < 250 ∨ 2000 < j.spacing then s.reply tag 21 .range (.field 7)
        else if 16 ≤ s.calib.queue.length then s.reply tag 21 .busy .nothing
        else State.reply { s with calib := { s.calib with queue := s.calib.queue ++ [j] } } tag 21 .done
          (.jobs (s.calib.queue.length + 1))
      else s.reply tag 21 .state .nothing := by
  rw [State.calibrateQueue, State.unlessRestoring_eq, jobFailure]
  simp only [State.judged_ite, State.judged_none]

/-- The ids of the notes whose calibration Attack the schedule holds (R134). -/
theorem mem_strikeIds {s : State} {k id : Nat} :
    id ∈ (s.sched.entries.filter (fun e => e.calibrationAttack k)).filterMap Entry.note ↔
      ∃ a ∈ s.sched.entries, a.calibrationAttack k = true ∧ a.note = some id := by
  simp [List.mem_filterMap, and_assoc]

/-- What the removal of a strike takes from the schedule: its Attack, and its Off also where it is detached (R164). -/
theorem State.mem_removeStrike_entries {s : State} {k : Nat} {e : Entry} :
    e ∈ (s.removeStrike k).sched.entries ↔ e ∈ s.sched.entries ∧ e.calibrationAttack k = false ∧
      (e.offOf k = true → e.note ≠ none ∧ ∀ a ∈ s.sched.entries, a.calibrationAttack k = true → a.note ≠ e.note) := by
  have entries : (s.removeStrike k).sched.entries = s.sched.entries.filter (fun e => !(e.calibrationAttack k ||
      (e.offOf k && e.note.all
        ((s.sched.entries.filter (fun e => e.calibrationAttack k)).filterMap Entry.note).contains))) := rfl
  rw [entries, List.mem_filter, Bool.not_eq_true', Bool.or_eq_false_iff, Bool.and_eq_false_iff]
  refine and_congr_right fun _ => and_congr_right fun _ => ?_
  cases hoff : e.offOf k with
  | false => simp
  | true =>
    cases hn : e.note with
    | none => simp
    | some id =>
      have contained : ((s.sched.entries.filter (fun e => e.calibrationAttack k)).filterMap Entry.note).contains id = false ↔
          ∀ a ∈ s.sched.entries, a.calibrationAttack k = true → a.note ≠ some id := by
        rw [← Bool.not_eq_true, List.contains_iff_mem, mem_strikeIds]
        exact ⟨fun h a ha attack same => h ⟨a, ha, attack, same⟩, fun h ⟨a, ha, attack, same⟩ => h a ha attack same⟩
      exact ⟨fun h _ => ⟨nofun, contained.mp (h.resolve_left nofun)⟩, fun h => .inr (contained.mpr (h rfl).2)⟩

/-- What it takes from the key's Note List: the strike's note (R164). -/
theorem State.mem_removeStrike_notes {s : State} {k : Nat} (hk : Keyed k) {n : Note} :
    n ∈ ((s.removeStrike k).driveOf k).notes ↔ n ∈ (s.driveOf k).notes ∧
      ∀ a ∈ s.sched.entries, a.calibrationAttack k = true → a.note ≠ some n.id := by
  unfold State.removeStrike
  dsimp only
  rw [State.driveOf_redecide_self _ hk.1 hk.2, State.driveOf_setDrive_self _ _ hk.1 hk.2, List.mem_filter]
  refine and_congr_right fun _ => ?_
  rw [Bool.not_eq_true', ← Bool.not_eq_true, List.contains_iff_mem, mem_strikeIds]
  exact ⟨fun h a ha attack same => h ⟨a, ha, attack, same⟩, fun h ⟨a, ha, attack, same⟩ => h a ha attack same⟩

theorem State.driveOf_removeStrike_ne (s : State) {j k : Nat} (h : j ≠ k) :
    (s.removeStrike k).driveOf j = s.driveOf j := by
  unfold State.removeStrike
  dsimp only
  rw [State.driveOf_redecide_ne _ h, State.driveOf_setDrive_ne _ _ h]
  rfl

theorem State.removeStrike_duplex (s : State) (k : Nat) : (s.removeStrike k).duplex = s.duplex := rfl

theorem State.windowOf_setWindow_none (s : State) (k : Nat) : (s.setWindow k none).windowOf k = none := by
  rcases Nat.eq_zero_or_pos k with rfl | low
  · exact nth_zero _ _
  · by_cases high : k ≤ 97
    · exact s.windowOf_setWindow_self none low high
    · exact nth_above _ _ (Nat.lt_of_not_le high)

theorem State.abortJobs_of_current {s : State} {c : CurrentJob} (h : s.calib.current = some c) (cause : AbortCause) :
    Touches { calib := true, port := true } (s.endStrike c) (s.abortJobs cause) := by
  unfold State.abortJobs
  rw [h]
  exact (State.report_touches _ _).via ((Touches.refl _ (s.endStrike c)).on_calib rfl) rfl

/-- Settles O33. -/
theorem calibrationRequests : Obligations.CalibrationRequests := by
  refine ⟨fun tag j s h => ?queue, fun tag s h free => ⟨?abort, fun idle empty => ?nothing⟩⟩
  case queue =>
    rw [exec_of_heard (fun s => s.calibrateQueue tag j) h rfl, State.calibrateQueue_eq]
    simp only [← not_or, ite_not, or_comm (a := s.keyCount < j.key), not_and_or, Nat.not_le, Nat.not_lt, Nat.lt_one_iff]
  case abort =>
    refine ⟨_, exec_of_heard (fun s => s.calibrateAbort tag) h rfl, ?_⟩
    rw [State.calibrateAbort, State.unlessRestoring_of_not free]
    have replied := s.reply_touches tag 22 .done (.aborted s.calib.current.isSome s.queuedJobs)
    generalize s.reply tag 22 .done (.aborted s.calib.current.isSome s.queuedJobs) = t at *
    have emptied : (t.abortJobs .request).calib.queue = [] ∧ (t.abortJobs .request).calib.current = none := by
      rcases t.abortJobs_cases .request with ⟨none, nil, same⟩ | emptied
      · rw [same]; exact ⟨nil, none⟩
      · exact emptied
    refine ⟨emptied.1, emptied.2, fun c k hc admitted hk keyed => ?_, fun c hc measuring => ?_,
      (t.abortJobs_touches .request).via (replied.mono rfl) rfl⟩
    · have ended := State.abortJobs_of_current (s := t) (by rw [replied.calib rfl]; exact hc) .request
      rw [show t.endStrike c = t.removeStrike c.job.key by unfold State.endStrike; rw [admitted], hk] at ended
      simp only [State.driveOf_congr (s := t.removeStrike k) (congrArg DriveSchedule.keys (ended.sched rfl)),
        congrArg DriveSchedule.entries (ended.sched rfl), State.mem_removeStrike_entries, State.mem_removeStrike_notes keyed,
        ended.duplex rfl, State.removeStrike_duplex, replied.sched rfl, replied.duplex rfl,
        State.driveOf_congr (s := s) (t := t) (congrArg DriveSchedule.keys (replied.sched rfl))]
      refine ⟨fun _ => trivial, fun _ => trivial, fun j hj => ?_, trivial⟩
      rw [t.driveOf_removeStrike_ne hj, State.driveOf_congr (s := s) (t := t) (congrArg DriveSchedule.keys (replied.sched rfl))]
    · have ended := State.abortJobs_of_current (s := t) (by rw [replied.calib rfl]; exact hc) .request
      rw [show t.endStrike c = t.setWindow c.job.key none by unfold State.endStrike; rw [measuring]] at ended
      rw [State.windowOf_congr (s := t.setWindow c.job.key none) (congrArg DuplexMonitor.windows (ended.duplex rfl)), ended.sched rfl]
      exact ⟨t.windowOf_setWindow_none _, by rw [← replied.sched rfl]; rfl⟩
  case nothing =>
    rw [exec_of_heard (fun s => s.calibrateAbort tag) h rfl, State.calibrateAbort, State.unlessRestoring_of_not free, idle,
      State.queuedJobs, idle, empty]
    have replied := s.reply_touches tag 22 .done (.aborted false 0)
    show Host.Outcome.next ((s.reply tag 22 .done (.aborted false 0)).abortJobs .request) = _
    generalize s.reply tag 22 .done (.aborted false 0) = t at *
    rw [State.abortJobs, replied.calib rfl, idle, empty]
    rfl

/-! ### The save (R183) -/

theorem State.eraseDone_of {s : State} {op : SaveOp} (h : s.store.op = .save op) :
    s.eraseDone = if op.stage = .erasing then
      (s.setStoreBlock op.block .erased).setOp (.save { op with
        stage := .programming,
        written := match s.mem.block op.block with | none => .erased | some c => sealBlock c })
      else s := by
  unfold State.eraseDone
  rw [h] <;> rfl

theorem State.programDone_of {s : State} {op : SaveOp} (h : s.store.op = .save op) (medium : Option StoreBlock) :
    s.programDone medium = if op.stage = .programming then
      (s.setStoreBlock op.block (medium.getD op.written)).setOp (.save { op with stage := .verifying }) else s := by
  unfold State.programDone
  rw [h]

theorem State.verifyDone_of {s : State} {op : SaveOp} (h : s.store.op = .save op) :
    s.verifyDone = if op.stage = .verifying then
      State.saveFrom (op.last - op.block) s { op with
        block := op.block + 1,
        results := op.results ++ [if s.storeBlock op.block = op.written then SaveResult.saved else .failed] }
      else s := by
  unfold State.verifyDone
  rw [h]

/-- Settles O36. -/
theorem theStagesOfASave : Obligations.TheStagesOfASave := by
  refine fun op medium s hop top => ⟨fun stage => ?erase, fun stage => ?program, fun stage last => ?ends, fun stage more opened => ?next,
    fun stage more guarded => ?guarded, fun other => ?notErasing, fun other => ?notProgramming, fun other => ?notVerifying⟩
  case erase =>
    refine ⟨s.eraseDone, match s.mem.block op.block with | none => .erased | some c => sealBlock c, rfl, ?_⟩
    rw [State.eraseDone_of hop, if_pos stage]
    exact ⟨s.storeBlock_setStoreBlock_self _ top, rfl, fun c hc => by rw [hc]; rfl,
      fun b hb => s.storeBlock_setStoreBlock_ne _ hb⟩
  case program =>
    refine ⟨s.programDone medium, rfl, ?_⟩
    rw [State.programDone_of hop, if_pos stage]
    exact ⟨s.storeBlock_setStoreBlock_self _ top, rfl, fun b hb => s.storeBlock_setStoreBlock_ne _ hb⟩
  case ends =>
    refine ⟨s.verifyDone, rfl, ?_⟩
    rw [State.verifyDone_of hop, if_pos stage, last, Nat.sub_self]
    refine ⟨(State.report_touches _ _).store rfl, State.report_port_congr _ rfl rfl rfl⟩
  case next =>
    refine congrArg Host.Outcome.next ?_
    rw [State.verifyDone_of hop, if_pos stage, show op.last - op.block = op.last + 1 - (op.block + 1) by omega]
    exact s.saveFrom_open { op with block := op.block + 1, results := op.results ++ [_] } opened more
  case guarded =>
    refine ⟨s.verifyDone, rfl, ?_⟩
    have ending := s.saveFrom_guarded
      { op with
        block := op.block + 1,
        results := op.results ++ [if s.storeBlock op.block = op.written then SaveResult.saved else .failed] } guarded
    dsimp only at ending
    rw [show op.last + 1 - (op.block + 1) = op.last - op.block by omega] at ending
    rw [State.verifyDone_of hop, if_pos stage, ending]
    exact ⟨(State.report_touches _ _).store rfl, State.report_port_congr _ rfl rfl rfl⟩
  case notErasing => exact congrArg Host.Outcome.next ((State.eraseDone_of hop).trans (if_neg other))
  case notProgramming => exact congrArg Host.Outcome.next ((State.programDone_of hop medium).trans (if_neg other))
  case notVerifying => exact congrArg Host.Outcome.next ((State.verifyDone_of hop).trans (if_neg other))

/-! ### The restore (R181, R184) -/

/-- What a block's read loads passes the tests of its block: its content where it is good, else its treatment. -/
theorem contentValid_loaded (x : StoreBlock) {b : Nat} (h : b ≤ 36) :
    contentValid b ((goodContent b x).getD (badContent b)) = true := by
  cases hg : goodContent b x with
  | none => exact contentValid_badContent h
  | some c => exact goodContent_some hg

theorem State.readDone_of {s : State} {op : RestoreOp} (h : s.store.op = .restore op) :
    s.readDone =
      if op.block < 36 then
        State.setOp { s with mem := s.mem.load op.block ((goodContent op.block (s.storeBlock op.block)).getD (badContent op.block)) }
          (.restore { op with
            block := op.block + 1,
            results := op.results ++ [if (goodContent op.block (s.storeBlock op.block)).isSome then .loaded else .bad] })
      else State.report (State.setOp
          { s with mem := s.mem.load op.block ((goodContent op.block (s.storeBlock op.block)).getD (badContent op.block)) } .idle)
        (.restoreDone op.cause
          (op.results ++ [if (goodContent op.block (s.storeBlock op.block)).isSome then .loaded else .bad])) := by
  unfold State.readDone
  rw [h]

/-- Settles O37. -/
theorem aRestoreLoadsBlockByBlock : Obligations.ARestoreLoadsBlockByBlock := by
  refine ⟨fun op s hop top => ⟨s.readDone, rfl, ?_⟩, fun s free => congrArg Host.Outcome.next ?_⟩
  · have valid := contentValid_loaded (s.storeBlock op.block) top
    have loaded : s.readDone.mem =
        s.mem.load op.block ((goodContent op.block (s.storeBlock op.block)).getD (badContent op.block)) := by
      rw [State.readDone_of hop]
      split
      · rfl
      · exact (State.report_touches _ _).mem rfl
    have self := s.mem.block_load_self top valid
    rw [loaded]
    refine ⟨?_, fun c hc => by rw [hc] at self ⊢; exact self, fun hc => by rw [hc] at self ⊢; exact self,
      fun b hb => s.mem.block_load_ne valid hb, ?_, ?_⟩
    · rw [State.readDone_of hop]
      split
      · rfl
      · rw [(State.report_touches _ _).store rfl]; rfl
    · rw [State.readDone_of hop]
      split
      · rfl
      · rw [(State.report_touches _ _).store rfl]; rfl
    · rw [State.readDone_of hop]
      split
      · rfl
      · exact State.report_port_congr _ rfl rfl rfl
  · unfold State.readDone
    split
    · next op hop =>
      unfold State.restoring at free
      rw [hop] at free
      cases free
    · rfl

end Sys2Proof.Machine
end

section
/-! PROOFS. The start of a job (R157, R158), the ends of a release and of a yield wait (R126, R153), and the withdrawals of a
key (R141, R152, R44). -/

namespace Sys2Proof.Machine

/-! ### A test of R157 that starts no job -/

theorem State.jobTestDue_of {s : State} (due : s.calib.testDue = true) (tick : s.time.tick = 0) : s.jobTestDue = true := by
  rw [State.jobTestDue, due, tick]; rfl

theorem State.jobsRun_iff (s : State) :
    s.jobsRun = true ↔ s.time.mode = .calibrate ∧ s.link.state = .driving ∧ s.time.transport = .running := by
  simp [State.jobsRun, and_assoc]

/-- A key with no open note and no rearm base needs no spacing (R128, R129). -/
theorem State.spaceNote_of_fresh {s : State} {k : Nat} (notes : (s.driveOf k).notes = []) (base : (s.driveOf k).rearmBase = none)
    (onset rearm : Nat) : s.spaceNote k onset rearm = (s, 0) := by
  have openNote : (s.driveOf k).openNote = none := by rw [KeyDrive.openNote, notes]; rfl
  rw [State.spaceNote, openNote, base]

/-- A job started where its strike can be admitted at once is asked of the schedule there (R157). -/
theorem State.startJob_of {s : State} {j : Job} {rest : List Job} (due : s.jobTestDue = true) (runs : s.jobsRun = true)
    (free : s.calib.current = none) (hq : s.calib.queue = j :: rest) :
    ∃ c, c.job = j ∧ c.state = .pending ∧ c.level = 0 ∧ c.strike = 1 ∧ c.samples = [] ∧ c.planned = s.earliest ∧
      c.scalars = s.jobScalars j.slot ∧ c.attack = ticksUp (s.jobScalars j.slot).attack ∧
      s.startJob = State.askStrike { s with calib := { s.calib with current := some c, testDue := false } } c := by
  refine ⟨{ job := j, scalars := s.jobScalars j.slot, attack := ticksUp (s.jobScalars j.slot).attack,
            rearm := ticksUp (s.jobScalars j.slot).rearm, level := 0, strike := 1, state := .pending, planned := s.earliest,
            onset := none, measured := 0, sumVelocity := 0, sumFlight := 0, samples := [] },
    rfl, rfl, rfl, rfl, rfl, rfl, rfl, rfl, ?_⟩
  rw [State.startJob, due, runs, free, hq]
  rfl

/-! ### A strike left Pending by the frame of its cycle start (R158) -/

/-- The dispatch hands the sequencer nothing while no strike is admitted (R134, R159). -/
theorem State.calibrationDispatched_of_not_admitted {s : State} (h : ∀ c, s.calib.current = some c → c.state ≠ .admitted)
    (k onset : Nat) : s.calibrationDispatched k onset = s := by
  unfold State.calibrationDispatched
  split
  · rfl
  · next c hc => exact if_neg fun both => h c hc both.2

theorem State.sent_calib {s : State} (h : ∀ c, s.calib.current = some c → c.state ≠ .admitted) (e : Entry) :
    (s.sent e).calib = s.calib := by
  have strike : (s.strikeSent e).calib = s.calib := (s.strikeSent_touches e).calib rfl
  unfold State.sent
  split
  · dsimp only
    split
    · rw [(State.openMonitor_touches _ _ _ _ _).calib rfl, strike]
    · rw [State.calibrationDispatched_of_not_admitted (by rw [strike]; exact h), strike]
  · exact strike
  · exact (s.offSent_touches e).calib rfl
  · exact (State.markPlayed_touches _ _).calib rfl
  · exact (s.report_touches _).calib rfl
  · rfl

theorem State.sentAll_calib (l : List Entry) {s : State} (h : ∀ c, s.calib.current = some c → c.state ≠ .admitted) :
    (l.foldl State.sent s).calib = s.calib := by
  induction l generalizing s with
  | nil => rfl
  | cons e l ih =>
    have same := State.sent_calib h e
    rw [List.foldl_cons, ih (by rw [same]; exact h), same]

theorem State.itemsSent_calib (l : List Item) (s : State) : (l.foldl State.itemSent s).calib = s.calib := by
  induction l generalizing s with
  | nil => rfl
  | cons i l ih =>
    rw [List.foldl_cons, ih]
    cases i <;> rfl

theorem State.fillSections_calib {s : State} (h : ∀ c, s.calib.current = some c → c.state ≠ .admitted) (left : List Entry)
    (window : List (Entry × Nat)) : (s.fillSections left window).1.calib = s.calib := by
  obtain ⟨u, hu⟩ : ∃ u, u = s.cleared (commandsIn window) := ⟨_, rfl⟩
  have same : ((u.itemsFor (commandsIn window)).flatten.foldl State.itemSent (u.postpones left (commandsIn window))).calib =
      s.calib := by
    rw [State.itemsSent_calib, (u.postpones_touches _ _).calib rfl, hu, (s.cleared_touches _).calib rfl]
  rw [s.fillSections_eq left window hu]
  dsimp only
  rw [State.sentAll_calib _ (by rw [same]; exact h), same]

theorem State.buildFrame_calib {s : State} (h : ∀ c, s.calib.current = some c → c.state ≠ .admitted) :
    s.buildFrame.calib = s.calib := by
  have taken : s.takeCommands.1.calib = s.calib := by
    unfold State.takeCommands
    split
    · rfl
    · rfl
    · rfl
    · exact State.fillSections_calib h _ _
    · exact State.fillSections_calib h _ _
    · split
      · have same : s.catchUp.calib = s.calib := s.catchUp_touches.calib rfl
        exact (State.fillSections_calib (by rw [same]; exact h) _ _).trans same
      · exact State.fillSections_calib h _ _
  unfold State.buildFrame
  split
  · rfl
  · exact taken

/-- A cycle start that tests for a job, where no strike waited: the test, the frame and the release (R158; log 7). -/
theorem State.cycleStart_jobStart {s : State} (idle : s.calib.current = none) (hl : s.time.linkLeft = .none)
    (hw : s.time.waiting = []) : s.cycleStart [.jobStart] = s.advanceCycle.startJob.buildFrame.captureRelease := by
  have rests : s.strikeWaits = false := by rw [State.strikeWaits, idle]; rfl
  have started : s.advanceCycle.startJob.time = s.advanceCycle.time := s.advanceCycle.startJob_touches.time rfl
  have acts : (s.startActs [.jobStart]).foldl State.startAction s.advanceCycle =
      s.advanceCycle.startJob.buildFrame.captureRelease := by
    have order : s.startActs [.jobStart] = [.jobStart, .frame, .release] := by rw [State.startActs, rests]; rfl
    rw [order]
    show s.advanceCycle.startJob.linkLeftPause.buildFrame.captureRelease = _
    rw [State.linkLeftPause_of_none (by rw [started]; exact State.advanceCycle_linkLeft hl)]
  obtain ⟨u, hu⟩ : ∃ u, u = s.advanceCycle.startJob.buildFrame.captureRelease := ⟨_, rfl⟩
  have waiting : u.time.waiting = [] := by
    obtain ⟨x, hx⟩ := s.advanceCycle.startJob.buildFrame_time
    rw [hu, (State.captureRelease_touches _).time rfl, hx, started]
    exact hw
  have held : u.setTime { u.time with waiting := [] } = u := by rw [← waiting]; rfl
  rw [State.cycleStart, acts, ← hu, held, waiting, List.foldl_nil]

/-- Settles O15. -/
theorem aJobStartsWithItsFirstStrike : Obligations.AJobStartsWithItsFirstStrike := by
  refine ⟨fun j rest s hk hq free due tick mode link transport cool willing room notes base => ?starts,
    fun s => ⟨fun due tick failing => ?ended, fun none => ?undue⟩, fun c s free hl hw hc pending => ?waits⟩
  case starts =>
    obtain ⟨c, job, state, level, strike, samples, planned, scalars, attack, started⟩ :=
      State.startJob_of (s.jobTestDue_of due tick) (s.jobsRun_iff.mpr ⟨mode, link, transport⟩) free hq
    obtain ⟨u, hu⟩ : ∃ u, u = { s with calib := { s.calib with current := some c, testDue := false } } := ⟨_, rfl⟩
    rw [← hu] at started
    have cold : u.strikeTooHot c = false := by
      rw [State.strikeTooHot, job, hu]
      exact Bool.and_eq_false_iff.mpr (.inl cool)
    have admitted : ∃ t, s.startJob = t.setJob { c with state := .admitted } ∧
        t = u.makeNote j.key (calibrationNote s.earliest 0 j.minDrive c.scalars.hold c.attack c.rearm) := by
      rw [started]
      have spaced : u.spaceNote c.job.key (max c.planned u.earliest) c.rearm = (u, 0) := by
        rw [job, hu]
        exact State.spaceNote_of_fresh (s := { s with calib := { s.calib with current := some c, testDue := false } }) notes
          base _ _
      have onset : max c.planned u.earliest = s.earliest := by rw [planned, hu]; exact Nat.max_self _
      have least : jobLevel c.job c.level = j.minDrive := by rw [job, level]; simp [jobLevel]
      rcases u.askStrike_cases c with ⟨hot, -⟩ | ⟨-, ⟨counter, refused, -⟩ | ⟨-, full, -⟩ | ⟨spaced', hs, -, -, e⟩⟩
      · rw [cold] at hot; cases hot
      · rw [job, hu] at refused
        exact absurd (willing.symm.trans refused) nofun
      · rw [hu] at full
        exact absurd full (Nat.not_lt.mpr room)
      · rw [e, hs, spaced, onset, least, job]
        exact ⟨_, rfl, rfl⟩
    obtain ⟨t, ht, made⟩ := admitted
    have touched := u.makeNote_touches j.key (calibrationNote s.earliest 0 j.minDrive c.scalars.hold c.attack c.rearm)
    obtain ⟨a, o, kind, onset, target, lvl, via, -, okind, oonset, otarget, -, entries⟩ :=
      u.makeNote_entries j.key (calibrationNote s.earliest 0 j.minDrive c.scalars.hold c.attack c.rearm)
    rw [← made] at touched entries
    refine ⟨_, { c with state := .admitted }, congrArg Host.Outcome.next ht, ?_, job, rfl, level, strike, samples, planned, scalars,
      ⟨a, ?_, kind, target, onset, lvl, via⟩, ⟨o, ?_, okind, otarget, ?_⟩, ?_, ?_⟩
    · unfold State.setJob
      dsimp only
      rw [touched.calib rfl, hu, ← hq]
    · show a ∈ t.sched.entries
      rw [entries]
      exact mem_insertEntry.mpr (.inr (mem_insertEntry.mpr (.inl rfl)))
    · show o ∈ t.sched.entries
      rw [entries]
      exact mem_insertEntry.mpr (.inl rfl)
    · rw [oonset, ← attack]
      rfl
    · show t.duplex = _
      rw [touched.duplex rfl, hu]
    · show t.port = _
      rw [touched.port rfl, hu]
  case ended =>
    refine congrArg Host.Outcome.next ?_
    rcases s.startJob_cases with ⟨undue, -⟩ | ⟨-, e⟩ | ⟨j, rest, c, -, runs, free, hq, -⟩
    · rw [State.jobTestDue_of due tick] at undue; cases undue
    · exact e
    · obtain ⟨mode, link, transport⟩ := s.jobsRun_iff.mp runs
      rcases failing with h | h | h | h | h
      · exact absurd free h
      · rw [h] at hq; cases hq
      · exact absurd mode h
      · exact absurd link h
      · exact absurd transport h
  case undue =>
    refine congrArg Host.Outcome.next (if_pos ?_)
    rcases none with h | h <;> simp [State.jobTestDue, h]
  case waits =>
    refine ⟨_, rfl, ?_⟩
    have spared : ∀ d, s.advanceCycle.startJob.calib.current = some d → d.state ≠ .admitted := by
      intro d hd
      rw [hc] at hd
      cases hd
      rw [pending]
      nofun
    rw [State.cycleStart_jobStart free hl hw, (State.captureRelease_touches _).calib rfl, State.buildFrame_calib spared, hc]

/-! ### The ends of a release and of a yield wait -/

/-- Within a take now is the tick in progress of the take cycle (R2). -/
theorem State.now_of_taking {s : State} (h : s.time.takeBase ≠ none) : s.now = s.startTick + s.time.tick := by
  unfold State.now
  cases hb : s.time.takeBase with
  | none => exact absurd hb h
  | some b => rfl

theorem State.endYield_keys (s : State) {k : Nat} (hk : Keyed k) :
    (s.endYield k).yieldOf k = { requirement := none, rest := 0, level := (s.yieldOf k).level } ∧
      ((s.endYield k).driveOf k).state ≠ .yielded ∧
      ∀ j, j ≠ k → (s.endYield k).yieldOf j = s.yieldOf j ∧ (s.endYield k).driveOf j = s.driveOf j := by
  obtain ⟨u, hu⟩ : ∃ u, u = s.setYield k { s.yieldOf k with requirement := none, rest := 0 } := ⟨_, rfl⟩
  have ended : u.yieldOf k = { requirement := none, rest := 0, level := (s.yieldOf k).level } := by
    rw [hu]; exact s.yieldOf_setYield_self _ hk.1 hk.2
  have redecided : s.endYield k = u.redecide k := by rw [hu]; rfl
  rw [redecided]
  refine ⟨ended, ?_, fun j hj => ⟨?_, ?_⟩⟩
  · have free : (u.redecide k).waitingYield k = false := by
      show (u.yieldOf k).requirement.isSome = false
      rw [ended]; rfl
    rw [u.driveOf_redecide hk]
    show (u.redecide k).stateBy126 k ≠ .yielded
    unfold State.stateBy126 State.unfaultedState
    simp only [free, Bool.false_eq_true, if_false]
    split_ifs <;> nofun
  · show u.yieldOf j = _
    rw [hu, State.yieldOf_setYield_ne _ _ hj]
  · rw [State.driveOf_redecide_ne _ hj, hu]
    rfl

/-- Settles O16. -/
theorem releaseAndYieldEnds : Obligations.ReleaseAndYieldEnds := by
  refine ⟨fun k r s hk hr => ⟨fun releasing base due clear free off unarmed => ?ends, fun other => ?keeps⟩,
    fun k y s hk hy => ⟨fun served => ?served, fun short => ?short⟩⟩
  case ends =>
    refine congrArg Host.Outcome.next ?_
    obtain ⟨u, hu⟩ : ∃ u, u = s.setTime { s.time with tick := max s.time.tick (r - s.startTick) } := ⟨_, rfl⟩
    have now : r ≤ u.now := by
      have ticks : u.now = s.startTick + max s.time.tick (r - s.startTick) := by
        rw [State.now_of_taking (by rw [hu]; exact base), hu]
        rfl
      omega
    have idle : u.decideDrive k = .idle := by
      have none : (u.driveOf k).releaseEnd.any (fun t => decide (u.now < t)) = false := by
        have same : u.driveOf k = s.driveOf k := by rw [hu]; rfl
        rw [same, hr]
        simpa using now
      have cleared : u.faulted k = false := by rw [hu]; exact clear
      have unwaiting : u.waitingYield k = false := by rw [hu]; exact free
      have undriven : (u.driveOf k).driven = false := by rw [hu]; exact off
      have unstruck : u.armed k = false := by rw [hu]; exact unarmed
      simp only [State.decideDrive, cleared, unwaiting, undriven, unstruck, none, if_false, Bool.false_eq_true]
    rw [State.releaseExpiry, hr]
    dsimp only
    rw [if_pos ⟨releasing, due⟩, ← hu, State.redecide, idle, hu]
    rfl
  case keeps =>
    refine congrArg Host.Outcome.next ?_
    rw [State.releaseExpiry, hr]
    refine if_neg fun both => ?_
    rcases other with h | h
    · exact h both.1
    · exact Nat.not_lt.mpr both.2 h
  case served =>
    have due : s.yieldDue k = true := by rw [State.yieldDue, hy]; exact decide_eq_true served
    refine ⟨_, congrArg Host.Outcome.next (if_pos due), ?_⟩
    obtain ⟨yields, state, others⟩ := s.endYield_keys hk
    exact ⟨yields, state, others, rfl, rfl, s.endYield_touches k⟩
  case short =>
    refine congrArg Host.Outcome.next (if_neg ?_)
    rw [State.yieldDue, hy]
    simpa using short

/-! ### Withdrawals (R141, R152, R44) -/

/-- A key withdrawn has the drive state R126 gives it. -/
theorem State.withdraw_state (s : State) {k : Nat} (hk : Keyed k) :
    ((s.withdraw k).driveOf k).state = (s.withdraw k).stateBy126 k := by
  obtain ⟨u, hu⟩ : ∃ u : State, s.withdraw k = u.redecide k := ⟨_, rfl⟩
  rw [hu, u.driveOf_redecide hk]

theorem State.stateBy126_of_faulted {s : State} {k : Nat} (h : s.faulted k = true) : s.stateBy126 k = .faulted := if_pos h

theorem State.stateBy126_of_waiting {s : State} {k : Nat} (clear : s.faulted k = false) (h : s.waitingYield k = true) :
    s.stateBy126 k = .yielded := by
  rw [State.stateBy126, clear, State.unfaultedState, h]
  rfl

theorem setNth_nth {α : Type} {n : Nat} (v : Vector α n) {k : Nat} (d : α) (low : 1 ≤ k) (high : k ≤ n) :
    setNth v k (nth v k d) = v := by
  ext i hi
  by_cases h : k = i + 1
  · subst h
    have same := nth_setNth_self v (nth v (i + 1) d) d low high
    rw [nth_eq_getElem (setNth v (i + 1) (nth v (i + 1) d)) d low high] at same
    exact same.trans (nth_eq_getElem v d low high)
  · have same := nth_setNth_ne v (j := i + 1) (nth v k d) d (Ne.symm h)
    rw [nth_eq_getElem (setNth v k (nth v k d)) d (by omega) (by omega)] at same
    exact same.trans (nth_eq_getElem v d (by omega) (by omega))

theorem State.setDrive_driveOf (s : State) {k : Nat} (hk : Keyed k) : s.setDrive k (s.driveOf k) = s := by
  unfold State.setDrive State.driveOf
  rw [setNth_nth _ _ hk.1 hk.2]

theorem State.setWindow_of_none (s : State) {k : Nat} (hk : Keyed k) (h : s.windowOf k = none) :
    s.setWindow k none = s := by
  unfold State.setWindow
  rw [← h, State.windowOf, setNth_nth _ _ hk.1 hk.2]

/-- A key that holds nothing: no entry, no note, no window, and the state R126 gives it. -/
structure KeyEmpty (s : State) (k : Nat) : Prop where
  entries : ∀ e ∈ s.sched.entries, e.ofKey k = false
  notes : (s.driveOf k).notes = []
  window : s.windowOf k = none
  state : (s.driveOf k).state = s.stateBy126 k

/-- The end of a calibration strike takes nothing from a key that holds nothing (R164). -/
theorem KeyEmpty.endStrike {s : State} {k : Nat} (h : KeyEmpty s k) (hk : Keyed k) {c : CurrentJob} (key : c.job.key = k) :
    s.endStrike c = s := by
  unfold State.endStrike
  rw [key]
  split
  · rfl
  · have kept : ∀ ids : List Nat, s.sched.entries.filter
        (fun e => !(e.calibrationAttack k || (e.offOf k && e.note.all ids.contains))) = s.sched.entries := by
      intro ids
      refine List.filter_eq_self.mpr fun e he => ?_
      have other := h.entries e he
      simp only [Entry.ofKey, Entry.strikes, Entry.offOf, Bool.or_eq_false_iff] at other
      simp only [Entry.calibrationAttack, Entry.offOf, other.2, Bool.false_and, Bool.or_false, Bool.not_eq_true']
      cases ht : e.target == k
      · simp
      · have := other.1
        rw [ht, Bool.and_true, Bool.or_eq_false_iff] at this
        rw [this.1]; rfl
    unfold State.removeStrike
    dsimp only
    rw [kept, show s.setEntries s.sched.entries = s from rfl, h.notes, List.filter_nil, ← h.notes, s.setDrive_driveOf hk,
      State.redecide, State.decideDrive_eq, ← h.state, s.setDrive_driveOf hk]
  · exact s.setWindow_of_none hk h.window

/-- So a job on such a key fails without touching it (R165). -/
theorem KeyEmpty.failJobIf {s : State} {k : Nat} (h : KeyEmpty s k) (hk : Keyed k) (reason : JobReason) :
    Touches { calib := true, port := true } s (s.failJobIf (fun c => c.job.key == k) reason) := by
  rcases s.failJobIf_cases (fun c => c.job.key == k) reason with ⟨-, e⟩ | ⟨c, -, -, e⟩ | ⟨c, -, key, e⟩
  · rw [e]; exact .refl _ s
  · rw [e]; exact .refl _ s
  · rw [e, State.failJob, h.endStrike hk (by simpa using key)]
    exact (State.report_touches _ _).via (s.leaveJob_touches.mono rfl) rfl

/-- What a withdrawal leaves of its key, its window gone (R141). -/
theorem State.withdraw_empty (s : State) {k : Nat} (hk : Keyed k) : KeyEmpty ((s.withdraw k).setWindow k none) k where
  entries := s.withdraw_no_entry k
  notes := (s.driveOf_withdraw_self hk.1 hk.2).1
  window := State.windowOf_setWindow_none _ k
  state := s.withdraw_state hk

/-- Contention as a withdrawal (R152). -/
theorem State.contend_eq (s : State) (k : Nat) :
    s.contend k = (((s.bump .contention).setWindow k none).setYield k
      { requirement := some (s.port.options.yieldBase * 2 ^ (s.yieldOf k).level), rest := 0,
        level := min ((s.yieldOf k).level + 1) 2 }).withdraw k := rfl

/-- A coil fault as a withdrawal (R44, R154). -/
theorem State.coilFault_eq {s : State} {k : Nat} (h : s.faulted k = false) :
    s.coilFault k = (((((s.setFault k true).setYield k { s.yieldOf k with requirement := none, rest := 0 }).withdraw k).setWindow
      k none).failJobIf (fun c => c.job.key == k) .keyFault, .applied) := by
  rw [State.coilFault, h]
  rfl

/-- Settles O17. -/
theorem withdrawalsEmptyTheKey : Obligations.WithdrawalsEmptyTheKey := by
  refine ⟨fun k s hk clear => ?contention, fun k s hk => ⟨fun clear => ?coil, fun faulted => if_pos faulted⟩⟩
  case contention =>
    obtain ⟨u, hu⟩ : ∃ u, u = ((s.bump .contention).setWindow k none).setYield k
      { requirement := some (s.port.options.yieldBase * 2 ^ (s.yieldOf k).level), rest := 0,
        level := min ((s.yieldOf k).level + 1) 2 } := ⟨_, rfl⟩
    rw [s.contend_eq, ← hu]
    have touched := u.withdraw_touches k
    have sched : u.sched = s.sched := by rw [hu]; rfl
    have drives : ∀ j, u.driveOf j = s.driveOf j := State.driveOf_congr (congrArg DriveSchedule.keys sched)
    have duplex : (u.withdraw k).duplex = u.duplex := touched.duplex rfl
    have faults : ∀ j, (u.withdraw k).faulted j = s.faulted j := fun j =>
      State.faulted_congr (by rw [touched.link rfl, hu]; rfl) j
    have yielded : (u.withdraw k).yieldOf k =
        { requirement := some (s.port.options.yieldBase * 2 ^ (s.yieldOf k).level), rest := 0,
          level := min ((s.yieldOf k).level + 1) 2 } := by
      rw [State.yieldOf_congr (s := u) (congrArg DuplexMonitor.yields duplex), hu]
      exact State.yieldOf_setYield_self _ _ hk.1 hk.2
    obtain ⟨notes, driven, asked⟩ := u.driveOf_withdraw_self hk.1 hk.2
    refine ⟨?_, yielded, ?_, notes, ?_, driven, fun d => asked (by rw [drives]; exact d), ?_, fun j hj => ⟨?_, ?_, ?_, faults j⟩⟩
    · rw [State.windowOf_congr (s := u) (congrArg DuplexMonitor.windows duplex), hu]
      exact State.windowOf_setWindow_none _ k
    · rw [u.withdraw_entries, sched]
    · rw [u.withdraw_state hk, State.stateBy126_of_waiting ((faults k).trans clear)]
      rw [State.waitingYield, yielded]; rfl
    · rw [State.count_congr (s := s.bump .contention) (by rw [touched.port rfl, hu]; rfl), State.count_bump_self]
    · rw [u.driveOf_withdraw_ne hj, drives]
    · rw [State.yieldOf_congr (s := u) (congrArg DuplexMonitor.yields duplex), hu, State.yieldOf_setYield_ne _ _ hj]
      rfl
    · rw [State.windowOf_congr (s := u) (congrArg DuplexMonitor.windows duplex), hu]
      exact State.windowOf_setWindow_ne _ _ hj
  case coil =>
    obtain ⟨u, hu⟩ : ∃ u, u = (s.setFault k true).setYield k { s.yieldOf k with requirement := none, rest := 0 } := ⟨_, rfl⟩
    obtain ⟨v, hv⟩ : ∃ v, v = (u.withdraw k).setWindow k none := ⟨_, rfl⟩
    have empty : KeyEmpty v k := by rw [hv]; exact u.withdraw_empty hk
    have failed := empty.failJobIf hk .keyFault
    rw [State.coilFault_eq clear, ← hu, ← hv]
    dsimp only
    generalize v.failJobIf (fun c => c.job.key == k) .keyFault = t at *
    have touched := u.withdraw_touches k
    have sched : u.sched = s.sched := by rw [hu]; rfl
    have drives : ∀ j, u.driveOf j = s.driveOf j := State.driveOf_congr (congrArg DriveSchedule.keys sched)
    have sched' : t.sched = (u.withdraw k).sched := by rw [failed.sched rfl, hv]; rfl
    have drives' : ∀ j, t.driveOf j = (u.withdraw k).driveOf j := State.driveOf_congr (congrArg DriveSchedule.keys sched')
    have faults : ∀ j, t.faulted j = u.faulted j := fun j =>
      State.faulted_congr (by rw [failed.link rfl, hv]; exact congrArg ActionLink.faults (touched.link rfl)) j
    have yields : ∀ j, t.yieldOf j = u.yieldOf j := fun j =>
      State.yieldOf_congr (by rw [failed.duplex rfl, hv, ← touched.duplex rfl]; rfl) j
    have windows : ∀ j, t.windowOf j = v.windowOf j := State.windowOf_congr (by rw [failed.duplex rfl])
    have faulted : t.faulted k = true := by
      rw [faults, hu]
      exact State.faulted_setFault_self s true hk.1 hk.2
    obtain ⟨notes, driven, asked⟩ := u.driveOf_withdraw_self hk.1 hk.2
    refine ⟨rfl, faulted, ?_, by rw [drives']; exact notes, by rw [drives']; exact driven,
      fun d => by rw [drives']; exact asked (by rw [drives]; exact d), ?_, ?_, ?_, fun j hj => ⟨?_, ?_, ?_, ?_⟩⟩
    · rw [drives', u.withdraw_state hk, State.stateBy126_of_faulted]
      rw [State.faulted_congr (s := u) (congrArg ActionLink.faults (touched.link rfl)), ← faults, faulted]
    · rw [sched', u.withdraw_entries, sched]
    · rw [windows]; exact empty.window
    · rw [yields, hu]; exact State.yieldOf_setYield_self _ _ hk.1 hk.2
    · rw [faults, hu]; exact State.faulted_setFault_ne s true hj
    · rw [yields, hu]; exact State.yieldOf_setYield_ne _ _ hj
    · rw [drives', u.driveOf_withdraw_ne hj, drives]
    · rw [windows, hv, State.windowOf_setWindow_ne _ _ hj,
        State.windowOf_congr (s := u) (congrArg DuplexMonitor.windows (touched.duplex rfl)), hu]
      rfl

end Sys2Proof.Machine
end

section
/-! PROOFS. Changes of link state: what is left behind (R36, R37, R72), what is entered (R24 to R30), the requests of the link
(R24, R28) and its loss (R29). -/

namespace Sys2Proof.Machine

/-! ### A key's record in the tracker -/

/-- What one step for a key establishes, and every step keeps, holds behind all of them. -/
theorem foldl_establishes {α : Type} {f : State → α → State} {p : State → Prop} {a : α} (made : ∀ s, p (f s a))
    (kept : ∀ s b, p s → p (f s b)) {l : List α} (mem : a ∈ l) (s : State) : p (l.foldl f s) := by
  have keeps : ∀ (l : List α) (s : State), p s → p (l.foldl f s) := by
    intro l
    induction l with
    | nil => exact fun _ h => h
    | cons b l ih => exact fun s h => ih _ (kept s b h)
  obtain ⟨before, after, rfl⟩ := List.append_of_mem mem
  rw [List.foldl_append, List.foldl_cons]
  exact keeps after _ (made _)

theorem State.trackerOf_takeEvent (s : State) (e : CaptureEvent) (j : Nat) : (s.takeEvent e).trackerOf j = s.trackerOf j :=
  State.trackerOf_congr (congrArg CaptureTracker.keys ((s.takeEvent_touches e).tracker rfl)) j

theorem State.trackerOf_handKeyEvent_ne (s : State) {j k : Nat} (kind : CaptureKind) (value raw : Nat) (h : j ≠ k) :
    (s.handKeyEvent k kind value raw).trackerOf j = s.trackerOf j := by
  unfold State.handKeyEvent
  dsimp only
  rw [State.trackerOf_takeEvent, State.trackerOf_setTracker_ne _ _ h]

/-- An event handed over moves its key's last stamp and whether the depression sounded (R68). -/
theorem State.trackerOf_handKeyEvent_self (s : State) {k : Nat} (hk : Keyed k) (kind : CaptureKind) (value raw : Nat) :
    ∃ stamp, (s.handKeyEvent k kind value raw).trackerOf k =
      { s.trackerOf k with lastStamp := some stamp, sounded := kind != .release } := by
  unfold State.handKeyEvent
  dsimp only
  rw [State.trackerOf_takeEvent, State.trackerOf_setTracker_self _ _ hk.1 hk.2]
  exact ⟨_, rfl⟩

theorem State.trackerOf_releaseKey_ne (s : State) {j k : Nat} (raw : Nat) (h : j ≠ k) :
    (s.releaseKey k raw).trackerOf j = s.trackerOf j := by
  unfold State.releaseKey
  split
  · dsimp only
    rw [State.trackerOf_setTracker_ne _ _ h]
    split
    · exact s.trackerOf_handKeyEvent_ne _ _ _ h
    · rfl
  · rfl

/-- A release ends the depression's sounding, and moves the last stamp where it is handed over (R64). -/
theorem State.trackerOf_releaseKey_self (s : State) {k : Nat} (hk : Keyed k) (raw : Nat) :
    ∃ stamp, (s.releaseKey k raw).trackerOf k = { s.trackerOf k with lastStamp := stamp, sounded := false } := by
  unfold State.releaseKey
  cases sounded : (s.trackerOf k).sounded with
  | false => exact ⟨(s.trackerOf k).lastStamp, by rw [if_neg nofun, ← sounded]⟩
  | true =>
    rw [if_pos rfl]
    dsimp only
    rw [State.trackerOf_setTracker_self _ _ hk.1 hk.2]
    split
    · obtain ⟨stamp, e⟩ := s.trackerOf_handKeyEvent_self hk .release 0 raw
      exact ⟨some stamp, by rw [e]⟩
    · exact ⟨_, rfl⟩

theorem State.trackerOf_closeKey_ne (s : State) {j k : Nat} (into : TrackState) (h : j ≠ k) :
    (s.closeKey into k).trackerOf j = s.trackerOf j := by
  unfold State.closeKey
  split
  · exact State.trackerOf_setTracker_ne _ _ h
  · dsimp only
    rw [State.trackerOf_setTracker_ne _ _ h, State.trackerOf_releaseKey_ne _ _ h]

theorem State.trackerOf_closeKey_self (s : State) {k : Nat} (hk : Keyed k) (into : TrackState) :
    ((s.closeKey into k).trackerOf k).state = into := by
  unfold State.closeKey
  split
  · rw [State.trackerOf_setTracker_self _ _ hk.1 hk.2]
  · dsimp only
    rw [State.trackerOf_setTracker_self _ _ hk.1 hk.2]

/-- The record of key k is closed: AtRest, or Blind. -/
def State.closed (s : State) (k : Nat) : Prop := (s.trackerOf k).state = .atRest ∨ (s.trackerOf k).state = .blind

theorem State.closed_congr {s t : State} {k : Nat} (h : t.tracker = s.tracker) (closed : s.closed k) : t.closed k := by
  unfold State.closed at *
  rwa [State.trackerOf_congr (congrArg CaptureTracker.keys h)]

/-- Closing some keys closes each of them (R72). -/
theorem State.closeKeys_closed (s : State) {keys : List Nat} {k : Nat} (hk : Keyed k) (mem : k ∈ keys) :
    (s.closeKeys keys).closed k := by
  refine foldl_establishes (p := fun s => s.closed k) (fun s => ?_) (fun s j closed => ?_) mem s
  · split
    · next blind => exact .inr blind
    · exact .inl (s.trackerOf_closeKey_self hk .atRest)
  · split
    · exact closed
    · by_cases same : k = j
      · subst same; exact .inl (s.trackerOf_closeKey_self hk .atRest)
      · unfold State.closed
        rw [s.trackerOf_closeKey_ne .atRest same]
        exact closed

/-! ### Leaving READY and DRIVING (R36, R37, R72) -/

/-- The gap a departure leaves: the one open, else one opened at a cycle. -/
def openedGap (g : Option Gap) (firstMissing : Nat) : Option Gap :=
  some (g.getD { firstMissing := firstMissing, stopped := false })

theorem State.openGap_eq (s : State) (firstMissing : Nat) :
    s.openGap firstMissing = { s with link := { s.link with gap := openedGap s.link.gap firstMissing } } := by
  unfold State.openGap openedGap
  cases hg : s.link.gap with
  | none => rfl
  | some g =>
    have : s.link = { s.link with gap := some g } := by rw [← hg]
    exact congrArg (fun l => { s with link := l }) this

/-- What leaving READY or DRIVING for a state other than these two leaves (R8, R36, R37, R72). -/
structure LinkDeparted (s t : State) (into : LinkState) : Prop where
  link : t.link =
    { s.link with
      gap := if s.linkUp then openedGap s.link.gap (if into = .lost then s.link.firstMissing else s.time.linkCycle)
        else s.link.gap }
  windows : s.link.state = .driving → t.noWindows
  jobs : s.link.state = .driving → t.calib.queue = [] ∧ t.calib.current = none
  records : s.linkUp = true → ∀ k, Keyed k → t.closed k
  time : t.time = if s.link.state = .driving ∧ s.time.transport = .running then { s.time with linkLeft := .armed } else s.time

theorem State.clearWindows_noWindows (s : State) : s.clearWindows.noWindows := fun k => nth_replicate none k

theorem State.abortJobs_none (s : State) (cause : AbortCause) :
    (s.abortJobs cause).calib.queue = [] ∧ (s.abortJobs cause).calib.current = none := by
  rcases s.abortJobs_cases cause with ⟨none, nil, same⟩ | emptied
  · rw [same]; exact ⟨nil, none⟩
  · exact emptied

theorem State.armPause_time (s : State) :
    s.armPause.time = if s.time.transport = .running then { s.time with linkLeft := .armed } else s.time := by
  unfold State.armPause
  split <;> rfl

theorem State.leaveLink_left (s : State) {into : LinkState} (h : ¬(into = .driving ∨ into = .ready)) :
    LinkDeparted s (s.leaveLink into) into := by
  obtain ⟨u, hu⟩ : ∃ u, u = if s.linkUp
    then (s.openGap (if into = .lost then s.link.firstMissing else s.time.linkCycle)).closeKeys allKeys else s := ⟨_, rfl⟩
  have link : u.link =
      { s.link with
        gap := if s.linkUp then openedGap s.link.gap (if into = .lost then s.link.firstMissing else s.time.linkCycle)
          else s.link.gap } := by
    rw [hu]
    split
    · rw [(State.closeKeys_touches _ allKeys).link rfl, s.openGap_eq]
    · rfl
  have time : u.time = s.time := by
    rw [hu]
    split
    · rw [(State.closeKeys_touches _ allKeys).time rfl, s.openGap_eq]
    · rfl
  have records : s.linkUp = true → ∀ k, Keyed k → u.closed k := fun up k hk => by
    rw [hu, if_pos up]
    exact State.closeKeys_closed _ hk (mem_allKeys.mpr hk)
  have left : s.leaveLink into =
      if s.link.state = .driving then ((u.abortJobs .linkLeft).clearWindows).armPause else u := by
    rw [State.leaveLink, if_neg h, hu]
  clear hu
  by_cases driving : s.link.state = .driving
  · rw [left, if_pos driving]
    have aborted := u.abortJobs_touches .linkLeft
    have armed := (u.abortJobs .linkLeft).clearWindows.armPause_touches
    refine ⟨?_, fun _ k => ?_, fun _ => ?_, fun up k hk => ?_, ?_⟩
    · rw [armed.link rfl, ← link]; exact aborted.link rfl
    · rw [State.windowOf_congr (congrArg DuplexMonitor.windows (armed.duplex rfl))]
      exact State.clearWindows_noWindows _ k
    · rw [armed.calib rfl]; exact u.abortJobs_none .linkLeft
    · exact State.closed_congr ((armed.tracker rfl).trans (aborted.tracker rfl)) (records up k hk)
    · have same : (u.abortJobs .linkLeft).clearWindows.time = s.time := (aborted.time rfl).trans time
      rw [State.armPause_time, same]
      simp only [driving, true_and]
  · rw [left, if_neg driving]
    exact ⟨link, fun d => absurd d driving, fun d => absurd d driving, records, by rw [if_neg fun both => driving both.1, time]⟩

/-! ### Entering a state (R24 to R30) -/

/-- The gap is closed on entering READY and no other state changes the link behind its entry (R37). -/
theorem State.enterEffects_link (s : State) {into : LinkState} (h : into ≠ .ready) : (s.enterEffects into).link = s.link := by
  cases into with
  | down | waking | aligning => exact s.linkSilence_touches.link rfl
  | ready => exact absurd rfl h
  | driving => rfl
  | lost => rfl

theorem State.enterLink_link (s : State) {into : LinkState} (h : into ≠ .ready) (cause : LinkCause) :
    (s.enterLink into cause).link = (s.leaveLink into).link.entered into := by
  unfold State.enterLink
  dsimp only
  rw [(State.report_touches _ _).link rfl, State.enterEffects_link _ h]

/-- Behind what is left, an entry changes the link, the gap's event, the schedule's silence and the transmit side alone. -/
theorem State.enterLink_behind (s : State) (into : LinkState) (cause : LinkCause) :
    Touches { link := true, capture := true, sched := true, port := true } (s.leaveLink into) (s.enterLink into cause) :=
  (State.report_touches _ _).via
    ((State.enterEffects_touches _ into).via ((Touches.refl _ (s.leaveLink into)).on_link rfl) rfl) rfl

/-- The report of an entry is made on the transmit side as the departure left it (R30). -/
theorem State.enterLink_port (s : State) {into : LinkState} (h : into ≠ .ready) (lost : into ≠ .lost) (cause : LinkCause) :
    (s.enterLink into cause).port =
      ((s.leaveLink into).report (.linkState into s.link.state s.time.linkCycle cause)).port := by
  unfold State.enterLink
  refine State.report_port_congr _ ?_ ?_ ?_
  all_goals
    cases into with
    | ready => exact absurd rfl h
    | lost => exact absurd rfl lost
    | down | waking | aligning | driving => rfl

theorem stationOf_entered_waking (s : State) (b : Nat) (h : s.link.roster = Vector.replicate 8 none) :
    s.stationOf b = none := by
  rw [State.stationOf, h]; exact nth_replicate none b

/-! ### The link's requests -/

section
variable {s : State} (h : s.port.restart = .none) (tag : Byte)
include h

theorem exec_linkStart : exec (.linkStart tag) s = .next (s.linkStart tag) :=
  exec_of_heard (fun s => s.linkStart tag) h rfl

theorem exec_linkStop : exec (.linkStop tag) s = .next (s.linkStop tag) :=
  exec_of_heard (fun s => s.linkStop tag) h rfl

theorem exec_drivePermit : exec (.drivePermit tag) s = .next (s.drivePermit tag) :=
  exec_of_heard (fun s => s.drivePermit tag) h rfl

end

/-- Settles O22. -/
theorem linkRequests : Obligations.LinkRequests := by
  refine ⟨fun tag s h free => ⟨fun down profiled => ?wakes, fun down bare => ?refused, fun other => ?started⟩,
    fun tag s h free => ⟨fun other => ?stops, fun down => ?stopped⟩,
    fun tag s h free => ⟨fun down => ?denied, fun held => ?permits, fun ready => ?drives, fun driving => ?driving⟩⟩
  case wakes =>
    obtain ⟨p, hp⟩ := Option.ne_none_iff_exists'.mp profiled
    have replied := s.reply_touches tag 7 .done .nothing
    have started : s.linkStart tag = (s.reply tag 7 .done .nothing).enterLink .waking .request := by
      rw [State.linkStart, State.unlessRestoring_of_not free, if_pos down, hp]; rfl
    refine ⟨_, exec_linkStart h tag, ?_⟩
    have touched := s.linkStart_touches_waking tag
    rw [started] at touched ⊢
    generalize s.reply tag 7 .done .nothing = t at *
    have state : t.link.state = .down := by rw [replied.link rfl, down]
    have still : t.leaveLink .waking = t := State.leaveLink_of_not_up (by rw [State.linkUp, state]; rfl) _
    have link := t.enterLink_link (into := .waking) nofun .request
    have port := t.enterLink_port (into := .waking) nofun nofun .request
    rw [still] at link port
    rw [state, replied.time rfl] at port
    refine ⟨by rw [link]; rfl, fun b => stationOf_entered_waking _ b (by rw [link]; rfl), by rw [link]; rfl, by rw [link]; rfl,
      by rw [link]; rfl, ?_, port, touched⟩
    rw [link]
    exact if_pos state
  case refused =>
    rw [exec_linkStart h, State.linkStart, State.unlessRestoring_of_not free, if_pos down, bare]; rfl
  case started => rw [exec_linkStart h, State.linkStart, State.unlessRestoring_of_not free, if_neg other]
  case stops =>
    refine ⟨_, exec_linkStop h tag, ?_⟩
    have replied := s.reply_touches tag 8 .done .nothing
    rw [State.linkStop, State.unlessRestoring_of_not free]
    dsimp only
    rw [if_neg other]
    generalize s.reply tag 8 .done .nothing = t at *
    have left := t.leaveLink_left (into := .down) nofun
    have link := t.enterLink_link (into := .down) nofun .request
    have behind := t.enterLink_behind .down .request
    rw [left.link, replied.link rfl, replied.time rfl] at link
    have up : t.linkUp = true ↔ s.link.state = .ready ∨ s.link.state = .driving := by
      rw [State.linkUp, replied.link rfl]
      simp
    refine ⟨by rw [link]; rfl, by rw [link]; rfl, by rw [link]; rfl, by rw [link]; rfl, by rw [link]; rfl, by rw [link]; rfl,
      by rw [link]; rfl, ?_, fun driving => ?_⟩
    · rw [link]
      show (if t.linkUp = true then openedGap s.link.gap s.time.linkCycle else s.link.gap) = _
      simp only [up]
      cases s.link.gap <;> simp [openedGap]
    · have driving : t.link.state = .driving := by rw [replied.link rfl, driving]
      refine ⟨fun k => ?_, ?_, ?_⟩
      · rw [State.windowOf_congr (congrArg DuplexMonitor.windows (behind.duplex rfl))]
        exact left.windows driving k
      · rw [behind.calib rfl]; exact (left.jobs driving).1
      · rw [behind.calib rfl]; exact (left.jobs driving).2
  case stopped =>
    rw [exec_linkStop h, State.linkStop, State.unlessRestoring_of_not free]
    dsimp only
    rw [if_pos down]
  case denied => rw [exec_drivePermit h, State.drivePermit, State.unlessRestoring_of_not free, down]
  case permits =>
    rw [exec_drivePermit h, State.drivePermit, State.unlessRestoring_of_not free]
    rcases held with e | e | e <;> rw [e] <;> rfl
  case drives =>
    refine ⟨_, exec_drivePermit h tag, ?_⟩
    have touched := s.drivePermit_touches_link tag
    have drives : s.drivePermit tag = ((s.setPermit false).reply tag 9 .done .nothing).enterLink .driving .request := by
      rw [State.drivePermit, State.unlessRestoring_of_not free, ready]
    rw [drives] at touched ⊢
    have replied := (s.setPermit false).reply_touches tag 9 .done .nothing
    have port : ((s.setPermit false).reply tag 9 .done .nothing).port = (s.reply tag 9 .done .nothing).port :=
      State.reply_port_congr _ _ _ _ rfl rfl
    generalize (s.setPermit false).reply tag 9 .done .nothing = t at *
    have still : t.leaveLink .driving = t := t.leaveLink_of_up (.inl rfl)
    have link := t.enterLink_link (into := .driving) nofun .request
    have reported := t.enterLink_port (into := .driving) nofun nofun .request
    rw [still, replied.link rfl] at link
    rw [still, replied.link rfl, replied.time rfl] at reported
    refine ⟨link, reported.trans ?_, touched⟩
    rw [show (s.setPermit false).link.state = .ready from ready]
    refine State.report_port_congr _ port ?_ ?_
    · rw [replied.intake rfl, (s.reply_touches _ _ _ _).intake rfl]; rfl
    · rw [replied.time rfl, (s.reply_touches _ _ _ _).time rfl]; rfl
  case driving => rw [exec_drivePermit h, State.drivePermit, State.unlessRestoring_of_not free, driving]

/-! ### The loss of the link (R23, R29, R36) -/

/-- A missing return up to what the link state makes of it (R21, R23, R40). -/
def State.returnMissed (s : State) (cycle : Nat) : State :=
  { s with link := { s.link with
    expiry := none, valid := 0, missing := countUp s.link.missing, collection := none, echo := s.link.state.missingEcho,
    firstMissing := if s.link.missing = 0 then cycle else s.link.firstMissing } }

theorem State.missingReturn_eq (s : State) (cycle : Nat) :
    s.missingReturn cycle =
      let u := if s.linkUp then (s.returnMissed cycle).handOverLost cycle else s.returnMissed cycle
      if 3 ≤ countUp s.link.missing ∧ (s.linkUp = true ∨ s.link.state = .aligning) then u.enterLink .lost .missing else u := by
  have link : ∀ u, u = (if s.linkUp then (s.returnMissed cycle).handOverLost cycle else s.returnMissed cycle) →
      u.link = (s.returnMissed cycle).link := by
    intro u hu
    rw [hu]
    split
    · exact (State.handOverLost_touches _ _).link rfl
    · rfl
  show (let u := if s.linkUp then (s.returnMissed cycle).handOverLost cycle else s.returnMissed cycle
    if (decide (Config.missingReturns ≤ u.link.missing) && (u.linkUp || u.link.state == .aligning)) = true
    then u.enterLink .lost .missing else u) = _
  dsimp only
  generalize hu : (if s.linkUp then (s.returnMissed cycle).handOverLost cycle else s.returnMissed cycle) = u
  have up : u.linkUp = s.linkUp := by rw [State.linkUp, link u hu.symm]; rfl
  rw [up, link u hu.symm]
  simp only [State.returnMissed, Config.missingReturns, Bool.and_eq_true, Bool.or_eq_true, beq_iff_eq]
  exact if_congr (and_congr_left' decide_eq_true_iff) rfl rfl

theorem exec_returnExpiry {s : State} {c : Nat} (h : s.link.expiry = some c) :
    exec .returnExpiry s = .next (s.missingReturn c) := by
  refine congrArg Host.Outcome.next ?_
  rw [State.expireReturn, h]

/-- The count of a counter is the transmit side's, which an offer moves for TransmitDrops alone (R172). -/
theorem State.count_offer_ne (s : State) (f : Upstream) {c : Counter} (h : c ≠ .transmitDrops) :
    (s.offer f).count c = s.count c := by
  rcases s.offer_cases f with ⟨-, e⟩ | ⟨-, e⟩ <;> rw [e]
  · exact State.count_congr (s.hand_counters f) c
  · exact s.count_bump_ne h

end Sys2Proof.Machine
end

section
/-! PROOFS. Returns judged and handed on (R21 to R25), and the link lost and woken (R29, R36). -/

namespace Sys2Proof.Machine

/-! ### What a return's acts keep of it (R21) -/

/-- The return time and the running expiry stand as they were. -/
structure SameReturn (s t : State) : Prop where
  time : t.link.returnTime = s.link.returnTime
  expiry : t.link.expiry = s.link.expiry

theorem SameReturn.refl (s : State) : SameReturn s s := ⟨rfl, rfl⟩

theorem SameReturn.trans {s t u : State} (h : SameReturn s t) (k : SameReturn t u) : SameReturn s u :=
  ⟨k.time.trans h.time, k.expiry.trans h.expiry⟩

theorem SameReturn.on_link {s t : State} {l : ActionLink} (h : SameReturn s t) (time : l.returnTime = t.link.returnTime)
    (expiry : l.expiry = t.link.expiry) : SameReturn s { t with link := l } := ⟨time.trans h.time, expiry.trans h.expiry⟩

/-- Behind a change of the link that keeps both. -/
theorem SameReturn.of_link {s u : State} {l : ActionLink} (h : SameReturn { s with link := l } u)
    (time : l.returnTime = s.link.returnTime) (expiry : l.expiry = s.link.expiry) : SameReturn s u :=
  ⟨h.time.trans time, h.expiry.trans expiry⟩

theorem SameReturn.foldl {α : Type} {f : State → α → State} (h : ∀ s a, SameReturn s (f s a)) (l : List α) (s : State) :
    SameReturn s (l.foldl f s) := by
  induction l generalizing s with
  | nil => exact .refl s
  | cons a l ih => exact (h s a).trans (ih _)

theorem Touches.sameReturn {b : Blocks} {s t : State} (h : Touches b s t) (hb : b.link = false) : SameReturn s t :=
  ⟨by rw [h.link hb], by rw [h.link hb]⟩

theorem State.closeGap_sameReturn (s : State) : SameReturn s s.closeGap := by
  unfold State.closeGap
  split
  · exact .refl s
  · dsimp only
    split
    · exact .of_link ((State.takeEvent_touches _ _).sameReturn rfl) rfl rfl
    · exact (SameReturn.refl s).on_link rfl rfl

theorem State.leaveLink_sameReturn (s : State) (into : LinkState) : SameReturn s (s.leaveLink into) := by
  by_cases h : into = .driving ∨ into = .ready
  · rw [s.leaveLink_of_up h]; exact .refl s
  · have link := (s.leaveLink_left h).link
    exact ⟨by rw [link], by rw [link]⟩

theorem ActionLink.entered_sameReturn (l : ActionLink) {into : LinkState} (h : into ≠ .down) :
    (l.entered into).returnTime = l.returnTime ∧ (l.entered into).expiry = l.expiry := by
  cases into with
  | down => exact absurd rfl h
  | waking | aligning | ready | driving | lost => exact ⟨rfl, rfl⟩

theorem State.enterLink_sameReturn (s : State) {into : LinkState} (h : into ≠ .down) (cause : LinkCause) :
    SameReturn s (s.enterLink into cause) := by
  obtain ⟨u, hu⟩ : ∃ u : State, u = { s.leaveLink into with link := (s.leaveLink into).link.entered into } := ⟨_, rfl⟩
  have entered : SameReturn (s.leaveLink into) u := by
    obtain ⟨time, expiry⟩ := (s.leaveLink into).link.entered_sameReturn h
    rw [hu]
    exact ⟨time, expiry⟩
  have effects : SameReturn u (u.enterEffects into) := by
    by_cases ready : into = .ready
    · rw [ready]; exact u.closeGap_sameReturn
    · exact ⟨by rw [u.enterEffects_link ready], by rw [u.enterEffects_link ready]⟩
  have done : s.enterLink into cause = (u.enterEffects into).report (.linkState into s.link.state s.time.linkCycle cause) := by
    rw [hu]; rfl
  rw [done]
  exact (((s.leaveLink_sameReturn into).trans entered).trans effects).trans ((State.report_touches _ _).sameReturn rfl)

theorem State.enterReady_sameReturn (s : State) (cause : LinkCause) : SameReturn s (s.enterReady cause) := by
  have ready := s.enterLink_sameReturn (into := .ready) nofun cause
  unfold State.enterReady
  dsimp only
  split
  · exact ready.trans (.of_link (State.enterLink_sameReturn _ (by nofun) .auto) rfl rfl)
  · exact ready

theorem State.recover_sameReturn (s : State) : SameReturn s s.recover := by
  unfold State.recover
  split
  · exact s.enterLink_sameReturn (by nofun) _
  · exact s.enterReady_sameReturn _

theorem State.rosterCheck_sameReturn (s : State) (c : Collection) : SameReturn s (s.rosterCheck c) := by
  unfold State.rosterCheck
  dsimp only
  split
  · refine SameReturn.trans ?_ (State.enterReady_sameReturn _ _)
    exact .of_link (.foldl (fun s b => (s.applyConditions_touches b).sameReturn rfl) allStations _) rfl rfl
  · split
    · exact ⟨rfl, rfl⟩
    · exact .of_link ((State.report_touches _ _).sameReturn rfl) rfl rfl

theorem State.updateStation_sameReturn (s : State) (b : Nat × StationRecord) : SameReturn s (s.updateStation b) := by
  unfold State.updateStation
  split
  · exact .refl s
  · split
    · exact ⟨rfl, rfl⟩
    · exact .refl s

theorem State.takeRecords_sameReturn (s : State) (c : Collection) : SameReturn s (s.takeRecords c) := by
  have updated : SameReturn s (c.wholeRecords.foldl State.updateStation s) := .foldl State.updateStation_sameReturn _ s
  unfold State.takeRecords
  dsimp only
  split
  · exact updated
  · split
    · exact updated.trans (State.enterLink_sameReturn _ (by nofun) _)
    · exact updated.on_link rfl rfl

theorem State.slowChannel_sameReturn (s : State) (cycle : Nat) (r : Return) : SameReturn s (s.slowChannel cycle r) := by
  have collected : SameReturn s (s.collect cycle r) := ⟨rfl, rfl⟩
  unfold State.slowChannel
  dsimp only
  split
  · exact collected
  · have emptied : SameReturn s
        { s.collect cycle r with link := { (s.collect cycle r).link with collection := none } } := ⟨rfl, rfl⟩
    split
    · exact emptied.trans (State.rosterCheck_sameReturn _ _)
    · exact emptied.trans (State.takeRecords_sameReturn _ _)

theorem State.stationAbsent_sameReturn (s : State) (b : Nat) (e : RosterEntry) : SameReturn s (s.stationAbsent b e) := by
  have lost : SameReturn s ((s.setStation b { e with present := false, missing := Config.absentAfter }).loseDrive b) :=
    SameReturn.trans (t := s.setStation b { e with present := false, missing := Config.absentAfter }) ⟨rfl, rfl⟩
      ((State.loseDrive_touches _ b).sameReturn rfl)
  unfold State.stationAbsent
  dsimp only
  split
  · exact lost.trans <| ((State.removeWindows_touches _ e.keys).sameReturn rfl).trans <|
      ((State.closeKeys_touches _ e.keys).sameReturn rfl).trans <|
        ((State.markIncomplete_touches _).sameReturn rfl).trans ((State.failJobIf_touches _ _ _).sameReturn rfl)
  · exact lost

theorem State.countSection_sameReturn (s : State) (sections : Vector (Option SectionReport) 8) (b : Nat) :
    SameReturn s (s.countSection sections b) := by
  unfold State.countSection
  split
  · exact .refl s
  · split
    · exact ⟨rfl, rfl⟩
    · split
      · exact .refl s
      · split
        · exact ⟨rfl, rfl⟩
        · exact s.stationAbsent_sameReturn b _

theorem State.unblind_sameReturn (s : State) (b k : Nat) : SameReturn s (s.unblind b k) := by
  unfold State.unblind
  split
  · dsimp only
    split <;> exact ⟨rfl, rfl⟩
  · exact .refl s

theorem State.rejoins_sameReturn (s : State) (b : Nat) : SameReturn s (s.rejoins b).1 := by
  have cleared : SameReturn s ((s.setSupplyLow b false).setOverTemp b false) := ⟨rfl, rfl⟩
  unfold State.rejoins
  dsimp only
  generalize allKeys = keys
  exact cleared.trans (.foldl (fun s k => s.unblind_sameReturn b k) keys _)

theorem State.noticeAction_sameReturn (s : State) (kind : NoticeKind) (n : Notice) :
    SameReturn s (s.noticeAction kind n).1 := by
  have coil : ∀ k, SameReturn s (s.coilFault k).1 := by
    intro k
    unfold State.coilFault
    split
    · exact .refl s
    · exact SameReturn.trans (t := s.setFault k true) ⟨rfl, rfl⟩ <|
        ((State.setYield_touches _ k _).sameReturn rfl).trans <| ((State.withdraw_touches _ k).sameReturn rfl).trans <|
          ((State.setWindow_touches _ k none).sameReturn rfl).trans ((State.failJobIf_touches _ _ _).sameReturn rfl)
  cases kind with
  | coilOvercurrent => exact coil n.key
  | coilOpen => exact coil n.key
  | supplyLow =>
    show SameReturn s (s.supplyFalls n.station).1
    unfold State.supplyFalls
    split
    · exact .refl s
    · exact SameReturn.trans (t := s.setSupplyLow n.station true) ⟨rfl, rfl⟩ ((State.loseDrive_touches _ _).sameReturn rfl)
  | overTemperature =>
    show SameReturn s (s.heats n.station).1
    unfold State.heats
    dsimp only
    refine SameReturn.trans ?_ ((State.failJobIf_touches _ _ _).sameReturn rfl)
    split
    · exact .refl s
    · exact SameReturn.trans (t := s.setOverTemp n.station true) ⟨rfl, rfl⟩ ((State.lowerStation_touches _ _).sameReturn rfl)
  | supplyRestored =>
    show SameReturn s (s.supplyReturns n.station).1
    unfold State.supplyReturns
    split <;> exact ⟨rfl, rfl⟩
  | overTemperatureClear =>
    show SameReturn s (s.cools n.station).1
    unfold State.cools
    split <;> exact ⟨rfl, rfl⟩
  | sensorBlinded =>
    show SameReturn s (s.sensorBlinded n.station n.key).1
    unfold State.sensorBlinded
    dsimp only
    have closed : SameReturn s (if (s.trackerOf n.key).state == .blind then s else s.closeKey .blind n.key) := by
      split
      · exact .refl s
      · exact (s.closeKey_touches _ _).sameReturn rfl
    exact closed.trans <| SameReturn.trans (t := State.setBlinder _ n.key (some n.station)) ⟨rfl, rfl⟩ <|
      ((State.failJobIf_touches _ _ _).sameReturn rfl).trans ((State.setWindow_touches _ _ _).sameReturn rfl)
  | sensorRestored =>
    show SameReturn s (s.sensorRestored n.key).1
    unfold State.sensorRestored
    split <;> exact ⟨rfl, rfl⟩
  | rejoin =>
    exact s.rejoins_sameReturn n.station

theorem State.acceptNotice_sameReturn (s : State) (cycle : Nat) (n : Notice) : SameReturn s (s.acceptNotice cycle n) := by
  unfold State.acceptNotice
  dsimp only
  refine SameReturn.trans ?_ ((State.report_touches _ _).sameReturn rfl)
  split
  · exact .refl _
  · exact State.noticeAction_sameReturn _ _ _

theorem State.takeSlot_sameReturn (s : State) (cycle : Nat) (slot : List Byte) : SameReturn s (s.takeSlot cycle slot) := by
  unfold State.takeSlot
  split
  · exact ⟨rfl, rfl⟩
  · exact ⟨rfl, rfl⟩
  · next n _ =>
    exact .of_link (State.acceptNotice_sameReturn _ cycle n) rfl rfl

theorem State.handReturn_sameReturn (s : State) (cycle : Nat) (r : Return) : SameReturn s (s.handReturn cycle r) := by
  have handed : SameReturn s (((allStations.foldl (fun s b => s.countSection r.sections b)
      (s.takeSlot cycle r.slot)).handOver cycle r.sections).slowChannel cycle r) :=
    (s.takeSlot_sameReturn cycle r.slot).trans <|
      (SameReturn.foldl (fun s b => s.countSection_sameReturn r.sections b) allStations _).trans <|
        ((State.handOver_touches _ cycle r.sections).sameReturn rfl).trans (State.slowChannel_sameReturn _ cycle r)
  have slot : SameReturn s ((s.takeSlot cycle r.slot).slowChannel cycle r) :=
    (s.takeSlot_sameReturn cycle r.slot).trans (State.slowChannel_sameReturn _ cycle r)
  unfold State.handReturn
  split
  · exact .refl s
  · dsimp only
    split
    · exact .of_link (State.enterLink_sameReturn _ (by nofun) _) rfl rfl
    · exact ⟨rfl, rfl⟩
  · exact slot
  · exact handed
  · exact handed
  · dsimp only
    split
    · exact slot.trans (State.recover_sameReturn _)
    · exact slot

/-! ### Judging a return (R21 to R23) -/

theorem exec_returnFrame_of_good {s : State} {c elapsed : Nat} {bytes : List Byte} (h : s.link.expiry = some c)
    (inTime : elapsed < 160) (good : returnGood c bytes = true) :
    exec (.returnFrame elapsed bytes) s = .next ((s.returnTaken elapsed).handReturn c (readReturn bytes)) := by
  refine congrArg Host.Outcome.next ?_
  rw [State.takeReturn, h]
  dsimp only
  rw [if_neg (show ¬Config.returnExpiry ≤ elapsed from Nat.not_le.mpr inTime), if_pos good]
  rfl

/-- A return of a cycle that ends no multiframe is only collected (R26). -/
theorem State.slowChannel_of_open (s : State) {cycle : Nat} (r : Return) (h : cycle % 16 ≠ 15) :
    s.slowChannel cycle r = s.collect cycle r := by
  have whole : (s.collect cycle r).wholeMultiframe cycle = none := if_neg h
  unfold State.slowChannel
  dsimp only
  rw [whole]

theorem State.setStation_of_same (s : State) {b : Nat} {e : RosterEntry} (h : s.stationOf b = some e) :
    s.setStation b e = s := by
  have keyed : 1 ≤ b ∧ b ≤ 8 := by
    constructor
    · by_contra zero
      obtain rfl : b = 0 := by omega
      rw [State.stationOf, nth_zero] at h
      cases h
    · by_contra high
      rw [State.stationOf, nth_above _ _ (Nat.lt_of_not_le high)] at h
      cases h
  unfold State.setStation
  rw [← h, State.stationOf, setNth_nth _ _ keyed.1 keyed.2]

theorem foldl_of_fixed {α : Type} {f : State → α → State} {s : State} (h : ∀ a, f s a = s) (l : List α) : l.foldl f s = s := by
  induction l with
  | nil => rfl
  | cons a l ih => rw [List.foldl_cons, h, ih]

/-- Where every section is there and none was missing the stations are as they were (R33). -/
theorem State.countSections_of_all {s : State} {sections : Vector (Option SectionReport) 8}
    (h : ∀ b e, s.stationOf b = some e → e.missing = 0 ∧ (sectionOf sections b).isSome = true) :
    allStations.foldl (fun s b => s.countSection sections b) s = s := by
  refine foldl_of_fixed (fun b => ?_) _
  unfold State.countSection
  split
  · rfl
  · next e he =>
    obtain ⟨zero, there⟩ := h b e he
    rw [if_pos there, ← zero]
    exact s.setStation_of_same he

/-- Settles O18. -/
theorem returnsAreJudged : Obligations.ReturnsAreJudged := by
  refine ⟨fun elapsed bytes s => ⟨fun late => ?late, fun idle => ?idle⟩,
    fun c elapsed bytes s he inTime good => ⟨?recorded, fun waking few => ?wakes, fun waking last => ?aligns,
      fun aligning => ?aligning, fun up => ?handed, fun lost => ?lost, fun up empty opened all => ?ordinary⟩,
    fun c elapsed bytes s u he room hu => ?missed⟩
  case late =>
    refine congrArg Host.Outcome.next ?_
    unfold State.takeReturn
    split
    · rfl
    · next c hc => exact if_pos (late.resolve_left (by rw [hc]; nofun))
  case idle =>
    refine congrArg Host.Outcome.next ?_
    rw [State.expireReturn, idle]
  case recorded =>
    obtain ⟨time, expiry⟩ := (s.returnTaken elapsed).handReturn_sameReturn c (readReturn bytes)
    exact ⟨_, exec_returnFrame_of_good he inTime good, time, expiry⟩
  case wakes =>
    rw [exec_returnFrame_of_good he inTime good, State.handReturn,
      show (s.returnTaken elapsed).link.state = .waking from waking]
    dsimp only
    rw [State.enoughReturns, State.returnTaken]
    dsimp only
    rw [countUp_below (by omega), if_neg (by simp [Config.validReturns]; omega)]
  case aligns =>
    refine ⟨_, exec_returnFrame_of_good he inTime good, ?_⟩
    rw [State.handReturn, show (s.returnTaken elapsed).link.state = .waking from waking]
    dsimp only
    obtain ⟨t, ht⟩ : ∃ t : State, t = { s.returnTaken elapsed with link := { (s.returnTaken elapsed).link with echo := .idle } } :=
      ⟨_, rfl⟩
    have enough : t.enoughReturns = true := by
      rw [ht, State.enoughReturns, State.returnTaken]
      dsimp only
      rw [last]
      rfl
    have still : t.leaveLink .aligning = t := State.leaveLink_of_not_up (by
      rw [State.linkUp, ht]
      show (s.link.state == .ready || s.link.state == .driving) = false
      rw [waking]; rfl) _
    rw [← ht, if_pos enough, t.enterLink_link (into := .aligning) nofun, still]
    exact ⟨rfl, rfl, by rw [ht]; rfl⟩
  case aligning =>
    rw [exec_returnFrame_of_good he inTime good, State.handReturn,
      show (s.returnTaken elapsed).link.state = .aligning from aligning]
  case handed =>
    rw [exec_returnFrame_of_good he inTime good, State.handReturn,
      show (s.returnTaken elapsed).link.state = s.link.state from rfl]
    rcases up with e | e <;> rw [e]
  case lost =>
    refine ⟨_, rfl, ?_⟩
    rw [exec_returnFrame_of_good he inTime good, State.handReturn,
      show (s.returnTaken elapsed).link.state = .lost from lost]
    dsimp only
    simp only [State.enoughReturns, Config.validReturns]
    exact congrArg Host.Outcome.next (if_congr decide_eq_true_iff rfl rfl)
  case ordinary =>
    obtain ⟨t, ht⟩ : ∃ t : State, t = { s with link := { s.link with
      returnTime := elapsed, expiry := none, valid := countUp s.link.valid, missing := 0, echo := .idle } } := ⟨_, rfl⟩
    have idle : (s.returnTaken elapsed).takeSlot c (readReturn bytes).slot = t := by
      rw [State.takeSlot, empty, ht]
      rfl
    have there : ∀ b e, t.stationOf b = some e → e.missing = 0 ∧ (sectionOf (readReturn bytes).sections b).isSome = true := by
      rw [ht]; exact all
    rw [exec_returnFrame_of_good he inTime good, State.handReturn,
      show (s.returnTaken elapsed).link.state = s.link.state from rfl]
    rcases up with e | e
    all_goals
      rw [e]
      dsimp only
      rw [idle, State.countSections_of_all there, State.slowChannel_of_open _ _ opened, ht]
  case missed =>
    have missed : s.returnMissed c = u := by
      have echo : s.link.state.missingEcho = if s.link.state = .waking ∨ s.link.state = .down then .idle else .collision := by
        cases s.link.state <;> rfl
      rw [hu, State.returnMissed, echo, countUp_below room]
    have count : countUp s.link.missing = s.link.missing + 1 := countUp_below room
    have judged := s.missingReturn_eq c
    rw [missed, count] at judged
    dsimp only at judged
    have not_up : s.link.state = .waking ∨ s.link.state = .lost ∨ s.link.state = .aligning → s.linkUp = false := by
      rintro (e | e | e) <;> rw [State.linkUp, e] <;> rfl
    have up : s.link.state = .ready ∨ s.link.state = .driving → s.linkUp = true := by
      rintro (e | e) <;> rw [State.linkUp, e] <;> rfl
    have quiet : s.linkUp = false → s.missingReturn c =
        if 3 ≤ s.link.missing + 1 ∧ s.link.state = .aligning then u.enterLink .lost .missing else u := fun h => by
      rw [judged, h]
      simp only [Bool.false_eq_true, if_false, false_or]
    have busy : s.linkUp = true → s.missingReturn c =
        if 3 ≤ s.link.missing + 1 then (u.handOverLost c).enterLink .lost .missing else u.handOverLost c := fun h => by
      rw [judged, h]
      simp only [if_true, true_or, and_true]
    clear judged
    rw [exec_returnExpiry he]
    refine ⟨fun state => ?_, fun aligning few => ?_, fun aligning many => ?_, fun on few => ?_, fun on many => ?_,
      fun inTime bad => ?_⟩
    · rw [quiet (not_up (by tauto)), if_neg]
      rcases state with e | e <;> rw [e] <;> simp
    · rw [quiet (not_up (by tauto)), if_neg (by omega)]
    · rw [quiet (not_up (by tauto)), if_pos ⟨by omega, aligning⟩]
    · rw [busy (up on), if_neg (by omega)]
    · rw [busy (up on), if_pos (by omega)]
    · refine congrArg Host.Outcome.next ?_
      rw [State.takeReturn, he]
      dsimp only
      rw [if_neg (show ¬Config.returnExpiry ≤ elapsed from Nat.not_le.mpr inTime), if_neg (by rw [bad]; nofun)]

/-! ### The loss and the waking (R29, R36) -/

/-- The count of link losses stands as it was. -/
def SameLosses (s t : State) : Prop := t.count .linkLosses = s.count .linkLosses

theorem SameLosses.foldl {α : Type} {f : State → α → State} (h : ∀ s a, SameLosses s (f s a)) (l : List α) (s : State) :
    SameLosses s (l.foldl f s) := by
  induction l generalizing s with
  | nil => rfl
  | cons a l ih => exact (ih _).trans (h s a)

theorem Touches.sameLosses {b : Blocks} {s t : State} (h : Touches b s t) (hb : b.port = false) : SameLosses s t :=
  State.count_congr (by rw [h.port hb]) _

theorem State.report_sameLosses (s : State) (r : Report) : SameLosses s (s.report r) := s.count_offer_ne _ nofun

theorem State.takeEvent_sameLosses (s : State) (e : CaptureEvent) : SameLosses s (s.takeEvent e) := by
  have marked : ∀ t : State, SameLosses t (t.markGap e) := fun t => (State.markGap_touches t e).sameLosses rfl
  unfold State.takeEvent
  split
  · exact marked _
  · split
    · rfl
    · exact (marked _).trans (((State.summarise_touches _ _).sameLosses rfl).trans (s.count_bump_ne (c := .captureOverflow) nofun))

theorem State.releaseKey_sameLosses (s : State) (k raw : Nat) : SameLosses s (s.releaseKey k raw) := by
  unfold State.releaseKey
  split
  · dsimp only
    split
    · exact State.takeEvent_sameLosses _ _
    · rfl
  · rfl

theorem State.closeKeys_sameLosses (s : State) (keys : List Nat) : SameLosses s (s.closeKeys keys) := by
  refine .foldl (fun s k => ?_) keys s
  split
  · rfl
  · unfold State.closeKey
    split
    · rfl
    · exact s.releaseKey_sameLosses k _

theorem State.handOverLost_sameLosses (s : State) (cycle : Nat) : SameLosses s (s.handOverLost cycle) := by
  have counted : ∀ t : State, SameLosses t (t.trackerCount .crossingsLost) := fun t => by
    unfold State.trackerCount
    dsimp only
    split
    · exact ((State.summarise_touches _ _).sameLosses rfl).trans (t.count_bump_ne (c := .crossingsLost) nofun)
    · exact State.count_bump_ne t (c := .crossingsLost) (d := .linkLosses) nofun
  unfold State.handOverLost
  dsimp only
  refine ((State.abandonAll_touches _ cycle).sameLosses rfl).trans (SameLosses.foldl (fun t b => ?_) s.presentStations s)
  split
  · exact counted t
  · rfl

theorem State.abortJobs_sameLosses (s : State) (cause : AbortCause) : SameLosses s (s.abortJobs cause) := by
  unfold State.abortJobs
  split
  · rfl
  · dsimp only
    refine (State.report_sameLosses _ _).trans ?_
    split
    · rfl
    · exact (State.endStrike_touches _ _).sameLosses rfl

theorem State.leaveLink_sameLosses (s : State) (into : LinkState) : SameLosses s (s.leaveLink into) := by
  have closed : SameLosses s (if s.linkUp
      then (s.openGap (if into = .lost then s.link.firstMissing else s.time.linkCycle)).closeKeys allKeys else s) := by
    split
    · exact (State.closeKeys_sameLosses _ allKeys).trans ((s.openGap_touches _).sameLosses rfl)
    · rfl
  unfold State.leaveLink
  dsimp only
  split
  · rfl
  · split
    · exact ((State.armPause_touches _).sameLosses rfl).trans ((State.abortJobs_sameLosses _ _).trans closed)
    · exact closed

theorem State.enterLost_losses (s : State) (cause : LinkCause) :
    (s.enterLink .lost cause).count .linkLosses = countUp (s.count .linkLosses) := by
  unfold State.enterLink
  dsimp only
  refine (State.report_sameLosses _ _).trans ((State.count_bump_self _ _).trans (congrArg countUp ?_))
  exact s.leaveLink_sameLosses .lost

/-- Settles O19. -/
theorem theLinkIsLostAndWakes : Obligations.TheLinkIsLostAndWakes := by
  refine ⟨fun c s he driving third no_gap => ?lost, fun s => ⟨fun r lost hr due => ?wakes, fun other => ?waits⟩⟩
  case lost =>
    have up : s.linkUp = true := by rw [State.linkUp, driving]; rfl
    obtain ⟨u, hu⟩ : ∃ u, u = (s.returnMissed c).handOverLost c := ⟨_, rfl⟩
    have taken := (s.returnMissed c).handOverLost_touches c
    rw [← hu] at taken
    have missed : s.missingReturn c = u.enterLink .lost .missing := by
      rw [s.missingReturn_eq c]
      dsimp only
      rw [if_pos up, ← hu, if_pos ⟨by rw [third]; decide, .inl up⟩]
    refine ⟨_, (exec_returnExpiry he).trans (congrArg Host.Outcome.next missed), ?_⟩
    have ulink : u.link = (s.returnMissed c).link := taken.link rfl
    have utime : u.time = s.time := taken.time rfl
    have driving' : u.link.state = .driving := by rw [ulink]; exact driving
    have up' : u.linkUp = true := by rw [State.linkUp, driving']; rfl
    have left := u.leaveLink_left (into := .lost) nofun
    have link := u.enterLink_link (into := .lost) nofun .missing
    have behind := u.enterLink_behind .lost .missing
    have first : u.link.firstMissing = s.link.firstMissing := by
      rw [ulink]
      exact if_neg (by omega)
    rw [left.link, up', if_pos rfl, if_pos rfl, first] at link
    refine ⟨by rw [link]; rfl, ?_, by rw [link]; rfl, by rw [link]; rfl, ?_, ?_, fun k => ?_, ?_, ?_, fun k hk => ?_, ?_, ?_⟩
    · rw [link]
      show some _ = some _
      rw [← driving']
    · rw [link]
      show openedGap u.link.gap s.link.firstMissing = _
      rw [ulink]
      show openedGap s.link.gap s.link.firstMissing = _
      rw [no_gap]
      rfl
    · rw [State.enterLost_losses, hu, (State.handOverLost_sameLosses _ c : State.count _ _ = _)]
      rfl
    · rw [State.windowOf_congr (congrArg DuplexMonitor.windows (behind.duplex rfl))]
      exact left.windows driving' k
    · rw [behind.calib rfl]; exact (left.jobs driving').2
    · rw [behind.calib rfl]; exact (left.jobs driving').1
    · exact State.closed_congr (behind.tracker rfl) (left.records up' k hk)
    · rw [behind.time rfl, left.time, utime]
      by_cases running : s.time.transport = .running <;> simp [running, driving']
    · rw [link]
      show u.link.roster = _
      rw [ulink]; rfl
  case wakes =>
    have still : s.leaveLink .waking = s := State.leaveLink_of_not_up (by rw [State.linkUp, lost]; rfl) _
    have due : s.expireRecovery = s.enterLink .waking .limit := if_pos ⟨lost, by rw [hr]; exact decide_eq_true due⟩
    refine ⟨_, congrArg Host.Outcome.next due, ?_⟩
    have link := s.enterLink_link (into := .waking) nofun .limit
    rw [still] at link
    have sched : (s.enterLink .waking .limit).sched = s.linkSilence.sched := by
      unfold State.enterLink
      dsimp only
      rw [(State.report_touches _ _).sched rfl, still]
      rfl
    refine ⟨by rw [link]; rfl, by rw [link]; rfl, fun b => stationOf_entered_waking _ b (by rw [link]; rfl), by rw [link]; rfl,
      by rw [link]; rfl, by rw [link]; rfl, ?_, by rw [link]; rfl, by rw [sched]; rfl, fun k _ => ?_⟩
    · rw [link]
      exact if_neg (by rw [lost]; nofun)
    · rw [State.driveOf_congr (s := s.linkSilence) (congrArg DriveSchedule.keys sched)]
      exact nth_map (β := KeyDrive) s.sched.keys (fun d => { d with immediateOff := false }) k KeyDrive.initial
  case waits =>
    refine congrArg Host.Outcome.next (if_neg fun both => ?_)
    rcases other with h | h
    · exact h both.1
    · obtain ⟨r, hr, reached⟩ := (Option.any_eq_true _ _).mp both.2
      exact absurd (h r hr) (Nat.not_lt.mpr (of_decide_eq_true reached))

end Sys2Proof.Machine
end

section
/-! PROOFS. The slow channel, the roster check and the end of LOST: O20. -/

namespace Sys2Proof.Machine

/-! ### The multiframe being collected (R26) -/

theorem nth_zipWith {α β γ : Type} {n : Nat} (f : α → β → γ) (v : Vector α n) (w : Vector β n) {b : Nat} (low : 1 ≤ b)
    (high : b ≤ n) (x : α) (y : β) (z : γ) : nth (Vector.zipWith f v w) b z = f (nth v b x) (nth w b y) := by
  have inside : b - 1 < n := by omega
  have there : b ≠ 0 := by omega
  simp only [nth, if_neg there, Vector.getElem?_eq_getElem inside, Vector.getElem_zipWith, Option.getD_some]

/-- A multiframe with a return added to it (R26). -/
def collected (r : Return) (c : Collection) : Collection :=
  { positions := r.position :: c.positions
    bytes := Vector.zipWith (fun x l => match x with | none => l | some x => x.slow :: l) r.sections c.bytes }

/-- The slow byte of a section joins the bytes of its station. -/
theorem collected_bytes (r : Return) (c : Collection) {b : Nat} (low : 1 ≤ b) (high : b ≤ 8) :
    nth (collected r c).bytes b [] = ((sectionOf r.sections b).map (fun y => y.slow)).toList ++ nth c.bytes b [] := by
  rw [collected, nth_zipWith _ _ _ low high none [] [], sectionOf]
  cases nth r.sections b none <;> rfl

theorem State.slowChannel_of_whole (s : State) {cycle : Nat} (r : Return) {m : Collection} (last : cycle % 16 = 15)
    (h : (s.collect cycle r).link.collection = some m) (whole : m.positions.length = 16) :
    s.slowChannel cycle r =
      if s.link.state = .aligning
      then State.rosterCheck { s with link := { s.link with collection := none } } m
      else State.takeRecords { s with link := { s.link with collection := none } } m := by
  have complete : (s.collect cycle r).wholeMultiframe cycle = some m := by
    rw [State.wholeMultiframe, if_pos last, h, Option.filter_some, whole]
    rfl
  unfold State.slowChannel
  dsimp only
  rw [complete]
  rfl

theorem State.slowChannel_of_part (s : State) {cycle : Nat} (r : Return)
    (h : ∀ m, (s.collect cycle r).link.collection = some m → m.positions.length ≠ 16) :
    s.slowChannel cycle r = s.collect cycle r := by
  have incomplete : (s.collect cycle r).wholeMultiframe cycle = none := by
    unfold State.wholeMultiframe
    split
    · exact Option.filter_eq_none_iff.mpr (fun m hm => by simpa using h m hm)
    · rfl
  unfold State.slowChannel
  dsimp only
  rw [incomplete]

/-! ### The three tests of the roster check (R27) -/

theorem badKey_iff (keyCount : Nat) (records : List StationRecord) (k : Nat) :
    badKey keyCount records k = true ↔ ¬keyCovered keyCount records k := by
  have cover : ∀ but : Role, coverCount records (fun r => r != but) (fun r => r.hasKey k) = keyCover records but k := fun but => by
    simp only [coverCount, keyCover, StationRecord.hasKey, Bool.and_assoc]
  have senses := cover .driver
  have drives := cover .scanner
  simp only [badKey, keyCovered, ← senses, ← drives, Bool.or_eq_true, bne_iff_ne]
  rw [Classical.not_and_iff_not_or_not]
  rfl

theorem badPedal_iff (records : List StationRecord) {q : Nat} (low : 1 ≤ q) :
    badPedal records q = true ↔ ¬pedalCovered records q := by
  have cover : ∀ but : Role, coverCount records (fun r => r != but) (fun r => r.hasPedal q) = pedalCover records but q :=
    fun but => by
      have there : (q != 0) = true := bne_iff_ne.mpr (by omega)
      simp only [coverCount, pedalCover, StationRecord.hasPedal, servesPedal, there, Bool.true_and]
  have senses := cover .driver
  have drives := cover .scanner
  simp only [badPedal, pedalCovered, ← senses, ← drives, Bool.or_eq_true, bne_iff_ne]
  rw [Classical.not_and_iff_not_or_not]
  rfl

/-- What a search of rising numbers finds is the least number the test takes. -/
theorem find?_eq_some_of_sorted {p : Nat → Bool} {l : List Nat} (rising : l.Pairwise (· < ·)) (k : Nat) :
    l.find? p = some k ↔ k ∈ l ∧ p k = true ∧ ∀ j ∈ l, j < k → p j = false := by
  induction rising with
  | nil => simp
  | @cons a l above _ ih =>
    by_cases ha : p a = true
    · rw [List.find?_cons_of_pos ha]
      constructor
      · rintro ⟨⟩
        refine ⟨List.mem_cons_self, ha, fun j hj before => ?_⟩
        rcases List.mem_cons.mp hj with rfl | hj
        · omega
        · exact absurd (above j hj) (by omega)
      · rintro ⟨hk, _, least⟩
        rcases List.mem_cons.mp hk with rfl | hk
        · rfl
        · rw [least a List.mem_cons_self (above k hk)] at ha
          cases ha
    · rw [List.find?_cons_of_neg ha, ih]
      constructor
      · rintro ⟨hk, pk, least⟩
        refine ⟨List.mem_cons_of_mem _ hk, pk, fun j hj before => ?_⟩
        rcases List.mem_cons.mp hj with rfl | hj
        · exact Bool.eq_false_iff.mpr ha
        · exact least j hj before
      · rintro ⟨hk, pk, least⟩
        rcases List.mem_cons.mp hk with rfl | hk
        · exact absurd pk ha
        · exact ⟨hk, pk, fun j hj => least j (List.mem_cons_of_mem _ hj)⟩

theorem allKeys_rising : allKeys.Pairwise (· < ·) := List.pairwise_lt_range'

theorem mem_allPedals {q : Nat} : q ∈ allPedals ↔ 1 ≤ q ∧ q ≤ 3 := by simp [allPedals]; omega

theorem mem_allStations {b : Nat} : b ∈ allStations ↔ 1 ≤ b ∧ b ≤ 8 := by simp [allStations]; omega

section
variable (n keyCount : Nat) (positions : List Nat) (records : List StationRecord)

/-- The first test: every return names the profile's stations, and as many records are there. -/
def countPasses : Prop := (∀ p ∈ positions, p = n) ∧ records.length = n

theorem countFails_iff :
    (!(positions.all (fun p => p == n)) || records.length != n) = true ↔ ¬countPasses n positions records := by
  simp only [countPasses, Bool.or_eq_true, Bool.not_eq_true', bne_iff_ne, Classical.not_and_iff_not_or_not]
  rw [← Bool.not_eq_true, List.all_eq_true]
  simp only [beq_iff_eq, ne_eq]

theorem rosterFailure_of_miscount (h : ¬countPasses n positions records) :
    rosterFailure n keyCount positions records = some (.count, none) := if_pos ((countFails_iff n positions records).mpr h)

theorem rosterFailure_of_counted (h : countPasses n positions records) :
    rosterFailure n keyCount positions records =
      match allKeys.find? (badKey keyCount records) with
      | some k => some (.keys, some k)
      | none => (allPedals.find? (badPedal records)).map (fun q => (.pedals, some q)) :=
  if_neg (fun fails => (countFails_iff n positions records).mp fails h)

/-- Where the count passes, the lowest uncovered key is named, and with every key covered the lowest uncovered pedal. -/
theorem rosterFailure_cases (h : countPasses n positions records) :
    (rosterFailure n keyCount positions records = none ↔
      allKeys.find? (badKey keyCount records) = none ∧ allPedals.find? (badPedal records) = none) ∧
    rosterFailure n keyCount positions records ≠ some (.count, none) ∧
    (∀ k, rosterFailure n keyCount positions records = some (.keys, some k) ↔
      allKeys.find? (badKey keyCount records) = some k) ∧
    ∀ q, rosterFailure n keyCount positions records = some (.pedals, some q) ↔
      allKeys.find? (badKey keyCount records) = none ∧ allPedals.find? (badPedal records) = some q := by
  rw [rosterFailure_of_counted n keyCount positions records h]
  cases allKeys.find? (badKey keyCount records) <;> cases allPedals.find? (badPedal records) <;> simp

theorem findKey_iff (k : Nat) :
    allKeys.find? (badKey keyCount records) = some k ↔
      Keyed k ∧ ¬keyCovered keyCount records k ∧ ∀ j, Keyed j → j < k → keyCovered keyCount records j := by
  rw [find?_eq_some_of_sorted allKeys_rising]
  simp only [mem_allKeys, badKey_iff, ← Bool.not_eq_true, Classical.not_not]

theorem findKey_none : allKeys.find? (badKey keyCount records) = none ↔ ∀ k, Keyed k → keyCovered keyCount records k := by
  simp only [List.find?_eq_none, mem_allKeys, badKey_iff, Classical.not_not]

theorem findPedal_iff (q : Nat) :
    allPedals.find? (badPedal records) = some q ↔
      1 ≤ q ∧ q ≤ 3 ∧ ¬pedalCovered records q ∧ ∀ j, 1 ≤ j → j < q → pedalCovered records j := by
  rw [find?_eq_some_of_sorted (by decide), mem_allPedals]
  constructor
  · rintro ⟨⟨low, high⟩, bad, least⟩
    refine ⟨low, high, (badPedal_iff records low).mp bad, fun j one before => ?_⟩
    by_contra uncovered
    have := least j (mem_allPedals.mpr ⟨one, by omega⟩) before
    rw [(badPedal_iff records one).mpr uncovered] at this
    cases this
  · rintro ⟨low, high, bad, least⟩
    refine ⟨⟨low, high⟩, (badPedal_iff records low).mpr bad, fun j hj before => ?_⟩
    obtain ⟨one, _⟩ := mem_allPedals.mp hj
    exact Bool.eq_false_iff.mpr (fun uncovered => (badPedal_iff records one).mp uncovered (least j one before))

theorem findPedal_none : allPedals.find? (badPedal records) = none ↔ ∀ q, 1 ≤ q → q ≤ 3 → pedalCovered records q := by
  rw [List.find?_eq_none]
  refine ⟨fun h q low high => ?_, fun h q hq => ?_⟩
  · by_contra uncovered
    exact h q (mem_allPedals.mpr ⟨low, high⟩) ((badPedal_iff records low).mpr uncovered)
  · obtain ⟨low, high⟩ := mem_allPedals.mp hq
    exact fun bad => (badPedal_iff records low).mp bad (h q low high)

end

/-! ### The gap closed on entering READY (R37) -/

theorem State.summarise_capture_congr {s t : State} (h : s.capture = t.capture) (f : TakeSummary → TakeSummary) :
    (s.summarise f).capture = (t.summarise f).capture := by
  rw [State.summarise, State.summarise, h]
  split
  · rfl
  · exact h

theorem State.setEvents_capture_congr {s t : State} (h : s.capture = t.capture) (l : List CaptureEvent) :
    (s.setEvents l).capture = (t.setEvents l).capture := by
  rw [State.setEvents, h]
  rfl

theorem State.markGap_capture_congr {s t : State} (h : s.capture = t.capture) (e : CaptureEvent) :
    (s.markGap e).capture = (t.markGap e).capture := by
  unfold State.markGap
  split
  · exact State.summarise_capture_congr h _
  · exact h

theorem State.takeEvent_capture_congr {s t : State} (h : s.capture = t.capture) (e : CaptureEvent) :
    (s.takeEvent e).capture = (t.takeEvent e).capture := by
  rw [State.takeEvent, State.takeEvent, h]
  split
  · exact State.markGap_capture_congr (State.setEvents_capture_congr h _) e
  · split
    · exact State.setEvents_capture_congr h _
    · exact State.markGap_capture_congr (State.summarise_capture_congr (s := s.bump _) (t := t.bump _) h _) e

theorem State.takeEvent_capture_on_link (s : State) (l : ActionLink) (e : CaptureEvent) :
    (State.takeEvent { s with link := l } e).capture = (s.takeEvent e).capture :=
  State.takeEvent_capture_congr (s := { s with link := l }) (t := s) rfl e

theorem State.closeGap_link (s : State) : s.closeGap.link = { s.link with gap := none } := by
  unfold State.closeGap
  split
  · next h => rw [← h]
  · dsimp only
    split
    · exact (State.takeEvent_touches _ _).link rfl
    · rfl

/-- The gap's event goes to the Capture Queue while a take captures, unless a Stop has marked the gap. -/
theorem State.closeGap_capture_of_event {s : State} {g : Gap} (hg : s.link.gap = some g) (capturing : s.capturing = true)
    (going : g.stopped = false) : s.closeGap.capture = (s.takeEvent (s.gapEvent g)).capture := by
  have sends : (s.capturing && !g.stopped) = true := by rw [capturing, going]; rfl
  rw [State.closeGap, hg]
  dsimp only
  rw [if_pos sends]
  exact s.takeEvent_capture_on_link _ _

theorem State.closeGap_capture_of_none {s : State} (h : s.capturing = false ∨ ∀ g, s.link.gap = some g → g.stopped = true) :
    s.closeGap.capture = s.capture := by
  unfold State.closeGap
  split
  · rfl
  · next g hg =>
    have kept : ¬(s.capturing && !g.stopped) = true := by
      rcases h with off | stopped
      · rw [off]; nofun
      · rw [stopped g hg]; simp
    dsimp only
    rw [if_neg kept]

/-- What the closing gap gives depends on the gap, the clock and the queue alone. -/
theorem State.closeGap_capture_on_link (s : State) {l : ActionLink} (h : l.gap = s.link.gap) :
    (State.closeGap { s with link := l }).capture = s.closeGap.capture := by
  cases hg : s.link.gap with
  | none =>
    have unopened : ∀ {t : State}, t.link.gap = none → t.closeGap.capture = t.capture := fun hn =>
      State.closeGap_capture_of_none (.inr fun g there => by rw [hn] at there; cases there)
    exact (unopened (t := { s with link := l }) (h.trans hg)).trans (unopened hg).symm
  | some g =>
    by_cases sends : s.capturing = true ∧ g.stopped = false
    · rw [State.closeGap_capture_of_event hg sends.1 sends.2]
      exact (State.closeGap_capture_of_event (s := { s with link := l }) (h.trans hg) sends.1 sends.2).trans
        (s.takeEvent_capture_on_link l _)
    · have silent : s.capturing = false ∨ g.stopped = true := by
        by_cases off : s.capturing = false
        · exact .inl off
        · exact .inr (by simpa [Bool.not_eq_false] using fun h => sends ⟨by simpa using off, h⟩)
      have kept : ∀ {t : State}, t.link.gap = some g → (t.capturing = false ∨ g.stopped = true) →
          t.closeGap.capture = t.capture := fun ht still =>
        State.closeGap_capture_of_none (still.imp_right fun stopped f hf => by
          rw [ht] at hf
          cases hf
          exact stopped)
      exact (kept (t := { s with link := l }) (h.trans hg) silent).trans (kept hg silent).symm

theorem State.enterLink_ready_eq (s : State) (cause : LinkCause) :
    s.enterLink .ready cause =
      (State.closeGap { s with link := s.link.entered .ready }).report (.linkState .ready s.link.state s.time.linkCycle cause) :=
  rfl

theorem State.enterLink_driving_eq (s : State) (cause : LinkCause) :
    s.enterLink .driving cause =
      State.report { s with link := s.link.entered .driving } (.linkState .driving s.link.state s.time.linkCycle cause) :=
  rfl

/-- READY, or DRIVING behind it: the permit is used up and no gap is open (R28, R37). -/
theorem State.enterReady_link (s : State) (cause : LinkCause) :
    (s.enterReady cause).link = { s.link with
      state := if s.autoPermit = true ∨ s.link.permit = true then .driving else .ready
      valid := 0, missing := 0, recovery := none, permit := false, gap := none } := by
  have ready : (s.enterLink .ready cause).link = { s.link.entered .ready with gap := none } := by
    rw [State.enterLink_ready_eq, (State.report_touches _ _).link rfl, State.closeGap_link]
  have auto : (s.enterLink .ready cause).autoPermit = s.autoPermit := by
    unfold State.autoPermit
    rw [(s.enterLink_quiet .ready cause).profile]
  have permit : (s.enterLink .ready cause).link.permit = s.link.permit := by rw [ready]; rfl
  unfold State.enterReady
  dsimp only
  rw [auto, permit]
  by_cases held : s.autoPermit = true ∨ s.link.permit = true
  · rw [if_pos (Bool.or_eq_true_iff.mpr held), if_pos held, State.enterLink_driving_eq, (State.report_touches _ _).link rfl,
      ready]
    rfl
  · rw [if_neg (fun h => held (Bool.or_eq_true_iff.mp h)), if_neg held, ready]
    have none_held : s.link.permit = false := Bool.eq_false_iff.mpr (fun h => held (.inr h))
    rw [← none_held]
    rfl

theorem State.enterReady_capture (s : State) (cause : LinkCause) : (s.enterReady cause).capture = s.closeGap.capture := by
  have ready : (s.enterLink .ready cause).capture = s.closeGap.capture := by
    rw [State.enterLink_ready_eq, (State.report_touches _ _).capture rfl]
    exact s.closeGap_capture_on_link rfl
  unfold State.enterReady
  dsimp only
  split
  · rw [State.enterLink_driving_eq, (State.report_touches _ _).capture rfl]
    exact ready
  · exact ready

/-- Where the link was not up, entering ALIGNING leaves nothing behind but the schedule's silence. -/
theorem State.enterAligning_touches (s : State) (h : s.linkUp = false) (cause : LinkCause) :
    Touches { link := true, sched := true, port := true } s (s.enterLink .aligning cause) := by
  unfold State.enterLink
  dsimp only
  rw [State.leaveLink_of_not_up h]
  exact (((Touches.refl _ s).on_link rfl).seq ((State.linkSilence_touches _).mono rfl)).seq
    ((State.report_touches _ _).mono rfl)

/-! ### The roster a passing check makes (R27) -/

theorem State.installRoster_link (s : State) (records : List (Nat × StationRecord)) :
    (s.installRoster records).link = { s.link with roster := rosterOf records, rosterChanged := false } := by
  unfold State.installRoster
  exact (Touches.foldl (fun s b => State.applyConditions_touches s b) allStations _).link rfl

theorem nth_rosterOf (records : List (Nat × StationRecord)) {b : Nat} (low : 1 ≤ b) (high : b ≤ 8) :
    nth (rosterOf records) b none = (records.lookup b).map StationRecord.entry := by
  have inside : b - 1 < 8 := by omega
  have there : b ≠ 0 := by omega
  have back : b - 1 + 1 = b := by omega
  simp only [nth, if_neg there, rosterOf, Vector.getElem?_eq_getElem inside, Vector.getElem_ofFn, Option.getD_some, back]

theorem StationRecord.entry_eq (r : StationRecord) :
    r.entry =
      { present := true, role := r.role, firstKey := r.firstKey, lastKey := r.lastKey, pedals := r.pedals,
        temperature := if -20 ≤ r.temperature ∧ r.temperature ≤ 125 then r.temperature else 25,
        measured := decide (-20 ≤ r.temperature ∧ r.temperature ≤ 125), alpha := r.alpha, arrival := r.arrival,
        latency := r.latency, missing := 0 } := by
  have range : temperatureInRange r.temperature = decide (-20 ≤ r.temperature ∧ r.temperature ≤ 125) :=
    (Bool.decide_and _ _).symm
  simp only [StationRecord.entry, range, decide_eq_true_eq]

theorem rosterEmpty_iff (s : State) : s.link.roster.all (fun e => e.isNone) = true ↔ ∀ b, s.stationOf b = none := by
  rw [Vector.all_eq_true]
  refine ⟨fun h b => ?_, fun h i hi => ?_⟩
  · unfold State.stationOf nth
    split
    · rfl
    · next there =>
      by_cases inside : b - 1 < 8
      · rw [Vector.getElem?_eq_getElem inside]
        exact Option.isNone_iff_eq_none.mp (h _ inside)
      · rw [Vector.getElem?_eq_none (by omega)]
        rfl
  · have := h (i + 1)
    rw [State.stationOf, nth_succ _ ⟨i, hi⟩] at this
    exact Option.isNone_iff_eq_none.mpr this

/-- Settles O20: the collected multiframe, the search for the lowest uncovered key, and the two ways LOST ends. -/
theorem rosterChecksAndRecovery : Obligations.RosterChecksAndRecovery := by
  refine ⟨fun cycle x s => ⟨_, rfl, rfl, fun mid unbegun => ?_, fun first => ⟨_, congrArg (Option.map (collected x)) (if_pos first), rfl, fun b low high => ?_⟩,
      fun m mid held => ⟨_, congrArg (Option.map (collected x)) ((if_neg mid).trans held), rfl, fun b low high => ?_⟩,
      fun m u last held whole hu => ?_, fun other => ?_⟩,
    fun m b r => ?_, fun n keyCount positions records => ⟨?passes, ?count, fun k => ?keys, fun q => ?pedals⟩,
    fun c s aligning => ⟨fun reason lowest failed => ?fails, fun passed => ?installs⟩,
    fun c elapsed bytes x s he inTime good lost valid hx slot open' => ?recovers⟩
  · show Option.map _ (if cycle % 16 = 0 then _ else _) = _
    rw [if_neg mid, unbegun]
    rfl
  · rw [collected_bytes _ _ low high]
    exact (congrArg _ (nth_replicate [] b)).trans (List.append_nil _)
  · exact collected_bytes _ _ low high
  · rw [s.slowChannel_of_whole x last held whole, ← hu]
    exact ⟨fun aligning => if_pos aligning, fun other => if_neg other⟩
  · rcases other with mid | part
    · exact s.slowChannel_of_open x mid
    · exact s.slowChannel_of_part x part
  · simp only [Collection.records, Collection.station, List.mem_filterMap, Option.map_eq_some_iff, Prod.mk.injEq, mem_allStations]
    constructor
    · rintro ⟨_, there, _, read, rfl, rfl⟩
      exact ⟨there.1, there.2, read⟩
    · rintro ⟨low, high, read⟩
      exact ⟨b, ⟨low, high⟩, r, read, rfl, rfl⟩
  case passes =>
    by_cases counted : countPasses n positions records
    · obtain ⟨passes, -⟩ := rosterFailure_cases n keyCount positions records counted
      rw [passes, findKey_none, findPedal_none]
      exact ⟨fun h => ⟨counted.1, counted.2, h⟩, fun h => h.2.2⟩
    · rw [rosterFailure_of_miscount n keyCount positions records counted]
      exact ⟨nofun, fun h => absurd ⟨h.1, h.2.1⟩ counted⟩
  case count =>
    by_cases counted : countPasses n positions records
    · obtain ⟨-, other, -⟩ := rosterFailure_cases n keyCount positions records counted
      exact ⟨fun h => absurd h other, fun miscount => absurd counted miscount⟩
    · exact ⟨fun _ => counted, fun _ => rosterFailure_of_miscount n keyCount positions records counted⟩
  case keys =>
    by_cases counted : countPasses n positions records
    · obtain ⟨-, -, keys, -⟩ := rosterFailure_cases n keyCount positions records counted
      rw [keys, findKey_iff]
      exact ⟨fun h => ⟨counted.1, counted.2, h⟩, fun h => h.2.2⟩
    · rw [rosterFailure_of_miscount n keyCount positions records counted]
      exact ⟨nofun, fun h => absurd ⟨h.1, h.2.1⟩ counted⟩
  case pedals =>
    by_cases counted : countPasses n positions records
    · obtain ⟨-, -, -, pedals⟩ := rosterFailure_cases n keyCount positions records counted
      rw [pedals, findKey_none, findPedal_iff]
      exact ⟨fun h => ⟨counted.1, counted.2, h⟩, fun h => h.2.2⟩
    · rw [rosterFailure_of_miscount n keyCount positions records counted]
      exact ⟨nofun, fun h => absurd ⟨h.1, h.2.1⟩ counted⟩
  case fails =>
    unfold State.rosterCheck
    dsimp only
    rw [failed]
    dsimp only
    split
    · next held => rw [← held]
    · rfl
  case installs =>
    have check : s.rosterCheck c = (s.installRoster c.records).enterReady .roster := by
      unfold State.rosterCheck
      dsimp only
      rw [passed]
    have auto : (s.installRoster c.records).autoPermit = s.autoPermit := by
      unfold State.autoPermit
      rw [(s.installRoster_quiet c.records).profile]
    have link := (s.installRoster c.records).enterReady_link .roster
    rw [auto, s.installRoster_link] at link
    rw [check]
    refine ⟨by rw [link]; rfl, by rw [link], by rw [link], fun b low high => ?_⟩
    rw [State.stationOf, link, nth_rosterOf _ low high]
    exact Option.map_congr fun r _ => r.entry_eq
  case recovers =>
    rw [exec_returnFrame_of_good he inTime good]
    have slotTaken : (s.returnTaken elapsed).takeSlot c (readReturn bytes).slot =
        { s.returnTaken elapsed with link := { (s.returnTaken elapsed).link with echo := .idle } } := by
      unfold State.takeSlot
      rw [slot]
    obtain ⟨u, hu⟩ : ∃ u : State, u =
      ((s.returnTaken elapsed).takeSlot c (readReturn bytes).slot).slowChannel c (readReturn bytes) := ⟨_, rfl⟩
    have handed : (s.returnTaken elapsed).handReturn c (readReturn bytes) =
        if u.enoughReturns = true then u.recover else u := by
      have taken : (s.returnTaken elapsed).link.state = .lost := lost
      unfold State.handReturn
      rw [taken]
      dsimp only
      rw [← hu]
    rw [State.slowChannel_of_open _ _ open', slotTaken] at hu
    have enough : u.enoughReturns = true := by
      rw [hu, State.enoughReturns]
      show decide (16 ≤ countUp s.link.valid) = true
      rw [valid]
      rfl
    rw [if_pos enough] at handed
    refine ⟨_, congrArg Host.Outcome.next handed, ?_⟩
    have roster : u.link.roster = s.link.roster := by rw [hu]; rfl
    have changed : u.link.rosterChanged = s.link.rosterChanged := by rw [hu]; rfl
    have recovery : u.link.recovery = some x := by rw [hu]; exact hx
    have gap : u.link.gap = s.link.gap := by rw [hu]; rfl
    have permit : u.link.permit = s.link.permit := by rw [hu]; rfl
    have auto : u.autoPermit = s.autoPermit := by rw [hu]; rfl
    have capture : u.capture = s.capture := by rw [hu]; rfl
    have down : u.linkUp = false := by rw [hu]; exact (by simp [State.linkUp, lost] : s.linkUp = false)
    have capturing : u.capturing = s.capturing := by rw [hu]; rfl
    have event : ∀ g, u.gapEvent g = s.gapEvent g := fun g => by rw [hu]; rfl
    have back : (u.link.recovery.any (fun r => r.source == .aligning) || u.link.rosterChanged ||
        u.link.roster.all (fun e => e.isNone)) = true ↔
          x.source = .aligning ∨ s.link.rosterChanged = true ∨ ∀ b, s.stationOf b = none := by
      rw [recovery, changed, roster, Bool.or_eq_true, Bool.or_eq_true, rosterEmpty_iff, Option.any_some, beq_iff_eq, or_assoc]
    clear hu handed
    have aligned := u.enterLink_link (into := .aligning) nofun .returns
    rw [State.leaveLink_of_not_up down] at aligned
    have readied := u.enterReady_link .returns
    rw [auto, permit] at readied
    by_cases h : x.source = .aligning ∨ s.link.rosterChanged = true ∨ ∀ b, s.stationOf b = none
    · rw [State.recover, if_pos (back.mpr h), aligned]
      refine ⟨rfl, roster, fun _ => ⟨rfl, gap, ?_⟩, fun source unchanged ⟨b, hb⟩ => ?_⟩
      · rw [(u.enterAligning_touches down .returns).capture rfl, capture]
      · rcases h with h | h | h
        · exact absurd h source
        · rw [unchanged] at h; cases h
        · exact absurd (h b) hb
    · rw [State.recover, if_neg (fun k => h (back.mp k)), readied]
      refine ⟨rfl, roster, fun k => absurd k h, fun _ _ _ => ⟨rfl, rfl, rfl, fun g first hg hc hs hf => ?_, fun silent => ?_⟩⟩
      · rw [u.enterReady_capture, State.closeGap_capture_of_event (gap.trans hg) (capturing.trans hc) hs, event,
          State.takeEvent_capture_congr capture, hf]
        rfl
      · rw [u.enterReady_capture, State.closeGap_capture_of_none (by rw [capturing, gap]; exact silent), capture]

end Sys2Proof.Machine
end

section
/-! PROOFS. Stations that lose drive, come and go (R33, R34, R47): O21. -/

namespace Sys2Proof.Machine

/-! ### What takes entries and windows away and leaves the drive as it was -/

/-- Entries, windows and the current job only go, and of a key's record the drive and a pending immediate Off stand. -/
structure Shrinks (s t : State) : Prop where
  entries : ∀ x ∈ t.sched.entries, x ∈ s.sched.entries
  keys : ∀ k, (t.driveOf k).driven = (s.driveOf k).driven ∧ (t.driveOf k).immediateOff = (s.driveOf k).immediateOff
  windows : ∀ k, s.windowOf k = none → t.windowOf k = none
  current : s.calib.current = none → t.calib.current = none

theorem Shrinks.refl (s : State) : Shrinks s s := ⟨fun _ => id, fun _ => ⟨rfl, rfl⟩, fun _ => id, id⟩

theorem Shrinks.trans {s t u : State} (h : Shrinks s t) (k : Shrinks t u) : Shrinks s u where
  entries x hx := h.entries x (k.entries x hx)
  keys j := ⟨(k.keys j).1.trans (h.keys j).1, (k.keys j).2.trans (h.keys j).2⟩
  windows j hj := k.windows j (h.windows j hj)
  current hc := k.current (h.current hc)

theorem Shrinks.of_blocks {s t : State} (sched : t.sched = s.sched) (duplex : t.duplex = s.duplex)
    (calib : t.calib = s.calib) : Shrinks s t where
  entries x hx := by rwa [← sched]
  keys k := by rw [State.driveOf_congr (congrArg DriveSchedule.keys sched)]; exact ⟨rfl, rfl⟩
  windows k hk := by rwa [State.windowOf_congr (congrArg DuplexMonitor.windows duplex)]
  current hc := by rwa [calib]

theorem State.setWindow_shrinks (s : State) (k : Nat) : Shrinks s (s.setWindow k none) where
  entries _ hx := hx
  keys _ := ⟨rfl, rfl⟩
  windows j hj := by
    by_cases same : j = k
    · subst same; exact s.windowOf_setWindow_none j
    · rw [s.windowOf_setWindow_ne none same]; exact hj
  current hc := hc

theorem State.removeWindows_shrinks (s : State) (keys : List Nat) : Shrinks s (s.removeWindows keys) := by
  unfold State.removeWindows
  induction keys generalizing s with
  | nil => exact .refl s
  | cons k keys ih => exact (s.setWindow_shrinks k).trans (ih _)

theorem State.setDrive_of_not_keyed (s : State) {k : Nat} (d : KeyDrive) (h : ¬Keyed k) : s.setDrive k d = s := by
  unfold State.setDrive
  by_cases zero : k = 0
  · subst zero; rfl
  · rw [setNth_above _ _ (by unfold Keyed at h; omega)]

/-- A key's record replaced by one with the same drive and the same pending immediate Off. -/
theorem State.setDrive_shrinks (s : State) (k : Nat) (d : KeyDrive) (driven : d.driven = (s.driveOf k).driven)
    (off : d.immediateOff = (s.driveOf k).immediateOff) : Shrinks s (s.setDrive k d) where
  entries _ hx := hx
  keys j := by
    by_cases same : j = k
    · subst same
      by_cases hk : Keyed j
      · rw [s.driveOf_setDrive_self d hk.1 hk.2]; exact ⟨driven, off⟩
      · rw [s.setDrive_of_not_keyed d hk]; exact ⟨rfl, rfl⟩
    · rw [s.driveOf_setDrive_ne d same]; exact ⟨rfl, rfl⟩
  windows _ hj := hj
  current hc := hc

theorem State.removeStrike_shrinks (s : State) (k : Nat) : Shrinks s (s.removeStrike k) := by
  unfold State.removeStrike
  dsimp only
  have filtered : ∀ p : Entry → Bool, Shrinks s (s.setEntries (s.sched.entries.filter p)) := fun p =>
    ⟨fun x hx => (List.mem_filter.mp hx).1, fun _ => ⟨rfl, rfl⟩, fun _ => id, id⟩
  have noted : ∀ (t : State) (l : List Note), Shrinks t ((t.setDrive k { t.driveOf k with notes := l }).redecide k) :=
    fun t l => (t.setDrive_shrinks k { t.driveOf k with notes := l } rfl rfl).trans (State.setDrive_shrinks _ k _ rfl rfl)
  exact (filtered _).trans (noted _ _)

theorem State.endStrike_shrinks (s : State) (c : CurrentJob) : Shrinks s (s.endStrike c) := by
  unfold State.endStrike
  split
  · exact .refl s
  · exact s.removeStrike_shrinks _
  · exact s.setWindow_shrinks _

theorem State.failJob_shrinks (s : State) (c : CurrentJob) (reason : JobReason) : Shrinks s (s.failJob c reason) := by
  have left : ∀ t : State, Shrinks t t.leaveJob := fun t => ⟨fun _ => id, fun _ => ⟨rfl, rfl⟩, fun _ => id, fun _ => rfl⟩
  have reported : ∀ (t : State) (r : Report), Shrinks t (t.report r) := fun t r =>
    .of_blocks ((t.report_touches r).sched rfl) ((t.report_touches r).duplex rfl) ((t.report_touches r).calib rfl)
  exact ((s.endStrike_shrinks c).trans (left _)).trans (reported _ _)

theorem State.failJob_current (s : State) (c : CurrentJob) (reason : JobReason) : (s.failJob c reason).calib.current = none := by
  rw [State.failJob, (State.report_touches _ _).calib rfl]
  rfl

theorem State.failJobIf_shrinks (s : State) (p : CurrentJob → Bool) (reason : JobReason) : Shrinks s (s.failJobIf p reason) := by
  rcases s.failJobIf_cases p reason with ⟨-, e⟩ | ⟨c, -, -, e⟩ | ⟨c, -, -, e⟩
  · rw [e]; exact .refl s
  · rw [e]; exact .refl s
  · rw [e]; exact s.failJob_shrinks c reason

/-- Behind it no job is current for which the test holds. -/
theorem State.failJobIf_current {s : State} {c : CurrentJob} (hc : s.calib.current = some c) {p : CurrentJob → Bool}
    (concerned : p c = true) (reason : JobReason) : (s.failJobIf p reason).calib.current = none := by
  rw [State.failJobIf, hc]
  dsimp only
  rw [if_pos concerned]
  exact s.failJob_current c reason

/-! ### Drive lost (R142, R147, R165) -/

/-- What a station's entry leaves when its keys and pedals lose drive. -/
structure DriveLost (e : RosterEntry) (s t : State) : Prop where
  entries : ∀ x ∈ t.sched.entries, (Keyed x.target ∨ x.kind = .pedalSet) → e.drivesEntry x = false
  keys : ∀ k, Keyed k → e.hasKey k = true → (t.driveOf k).driven = false ∧
    ((s.driveOf k).driven = true → (t.driveOf k).immediateOff = true)

theorem DriveLost.shrinks {e : RosterEntry} {s t u : State} (h : DriveLost e s t) (k : Shrinks t u) : DriveLost e s u where
  entries x hx := h.entries x (k.entries x hx)
  keys j hj held := by
    rw [(k.keys j).1, (k.keys j).2]
    exact h.keys j hj held

theorem RosterEntry.mem_keys (e : RosterEntry) {k : Nat} : k ∈ e.keys ↔ Keyed k ∧ e.hasKey k = true := by
  rw [RosterEntry.keys, List.mem_filter, mem_allKeys]

theorem State.unavailKey_entries (s : State) (k : Nat) {x : Entry} (hx : x ∈ (s.unavailKey k).sched.entries) :
    ∃ y ∈ s.sched.entries, x.kind = y.kind ∧ x.target = y.target ∧ y.strikes k = false := by
  unfold State.unavailKey at hx
  dsimp only at hx
  rw [State.redecide_entries, State.askOff_entries] at hx
  obtain ⟨y, hy, rfl⟩ := List.mem_map.mp hx
  obtain ⟨there, other⟩ := List.mem_filter.mp hy
  refine ⟨y, there, ?_, ?_, by simpa using other⟩ <;> split <;> rfl

theorem Entry.strikes_congr {x y : Entry} (kind : x.kind = y.kind) (target : x.target = y.target) (k : Nat) :
    x.strikes k = y.strikes k := by
  unfold Entry.strikes
  rw [kind, target]

theorem State.driveOf_unavailKey_ne (s : State) {j k : Nat} (h : j ≠ k) : (s.unavailKey k).driveOf j = s.driveOf j := by
  unfold State.unavailKey
  dsimp only
  rw [State.driveOf_redecide_ne _ h, State.driveOf_askOff_ne _ h, State.driveOf_setDrive_ne _ _ h]
  exact State.driveOf_congr rfl j

theorem State.driveOf_unavailKey_self (s : State) {k : Nat} (hk : Keyed k) :
    ((s.unavailKey k).driveOf k).driven = false ∧
      ((s.driveOf k).driven = true ∨ (s.driveOf k).immediateOff = true →
        ((s.unavailKey k).driveOf k).immediateOff = true) := by
  unfold State.unavailKey
  dsimp only
  generalize hu : State.setDrive _ k _ = u
  have driven : (u.driveOf k).driven = (s.driveOf k).driven ∧ (u.driveOf k).immediateOff = (s.driveOf k).immediateOff := by
    rw [← hu, State.driveOf_setDrive_self _ _ hk.1 hk.2]
    exact ⟨rfl, rfl⟩
  rw [State.driveOf_redecide _ hk]
  show ((u.askOff k).driveOf k).driven = false ∧ (_ → ((u.askOff k).driveOf k).immediateOff = true)
  rw [State.driveOf_askOff _ hk, ← driven.1, ← driven.2]
  unfold KeyDrive.offAsked
  split
  · exact ⟨rfl, fun _ => rfl⟩
  · next off => exact ⟨by simpa using off, fun h => h.resolve_left off⟩

/-- The keys of a station taken from the drive one by one. -/
theorem State.unavailKeys_lost (s : State) (e : RosterEntry) (k : Nat) (mem : k ∈ e.keys) :
    (∀ x ∈ (e.keys.foldl State.unavailKey s).sched.entries, x.strikes k = false) ∧
      ((e.keys.foldl State.unavailKey s).driveOf k).driven = false ∧
      ((s.driveOf k).driven = true → ((e.keys.foldl State.unavailKey s).driveOf k).immediateOff = true) := by
  obtain ⟨hk, held⟩ := e.mem_keys.mp mem
  refine ⟨?_, ?_, ?_⟩
  · refine foldl_establishes (p := fun t => ∀ x ∈ t.sched.entries, x.strikes k = false) (fun t x hx => ?_)
      (fun t j none x hx => ?_) mem s
    · obtain ⟨y, -, kind, target, other⟩ := t.unavailKey_entries k hx
      rw [Entry.strikes_congr kind target]; exact other
    · obtain ⟨y, hy, kind, target, -⟩ := t.unavailKey_entries j hx
      rw [Entry.strikes_congr kind target]; exact none y hy
  · refine foldl_establishes (p := fun t => (t.driveOf k).driven = false) (fun t => (t.driveOf_unavailKey_self hk).1)
      (fun t j off => ?_) mem s
    by_cases same : k = j
    · subst same; exact (t.driveOf_unavailKey_self hk).1
    · rw [t.driveOf_unavailKey_ne same]; exact off
  · intro driven
    obtain ⟨u, before, after⟩ := foldl_at (f := State.unavailKey) (R := fun s t => t.driveOf k = s.driveOf k) (fun _ => rfl)
      (fun h k => k.trans h) (fun t j h => t.driveOf_unavailKey_ne (Ne.symm h)) mem (nodup_allKeys.filter _) s
    rw [after]
    exact (u.driveOf_unavailKey_self hk).2 (.inl (by rw [before]; exact driven))

theorem RosterEntry.drivesEntry_of_not_strikes (e : RosterEntry) {x : Entry}
    (keys : ∀ k, Keyed k → e.hasKey k = true → x.strikes k = false)
    (pedals : x.kind = .pedalSet → e.hasPedal x.target = false) (h : Keyed x.target ∨ x.kind = .pedalSet) :
    e.drivesEntry x = false := by
  by_contra drives
  rw [Bool.not_eq_false] at drives
  have struck : (x.kind == .attack || x.kind == .hold) = true → e.hasKey x.target = true → Keyed x.target → False :=
    fun kind held hk => by
      have spared := keys x.target hk held
      rw [Entry.strikes, kind, beq_self_eq_true] at spared
      cases spared
  unfold RosterEntry.drivesEntry at drives
  split at drives
  · next kind => exact struck (by rw [kind]; rfl) drives (h.resolve_right (by rw [kind]; nofun))
  · next kind => exact struck (by rw [kind]; rfl) drives (h.resolve_right (by rw [kind]; nofun))
  · next kind => rw [pedals kind] at drives; cases drives
  all_goals cases drives

theorem State.unavailable_lost (s : State) (e : RosterEntry) : DriveLost e s (s.unavailable e) := by
  unfold State.unavailable
  dsimp only
  have lost := s.unavailKeys_lost e
  generalize e.keys.foldl State.unavailKey s = u at lost ⊢
  refine ⟨fun x hx h => ?_, fun k hk held => (lost k (e.mem_keys.mpr ⟨hk, held⟩)).2⟩
  obtain ⟨there, kept⟩ := List.mem_filter.mp hx
  refine e.drivesEntry_of_not_strikes (fun k hk held => (lost k (e.mem_keys.mpr ⟨hk, held⟩)).1 x there) (fun kind => ?_) h
  simpa [kind] using kept

theorem State.removeWindows_none (s : State) {keys : List Nat} {k : Nat} (mem : k ∈ keys) :
    (s.removeWindows keys).windowOf k = none :=
  foldl_establishes (f := fun s k => s.setWindow k none) (p := fun t => t.windowOf k = none) (fun t => t.windowOf_setWindow_none k)
    (fun t j hk => (t.setWindow_shrinks j).windows k hk) mem s

/-- A station that drives loses drive (R33, R47). -/
theorem State.loseDrive_lost {s : State} {b : Nat} {e : RosterEntry} (h : s.stationOf b = some e)
    (drives : e.role ≠ .scanner) :
    DriveLost e s (s.loseDrive b) ∧ (∀ k, Keyed k → e.hasKey k = true → (s.loseDrive b).windowOf k = none) ∧
      ∀ c, s.calib.current = some c → e.hasKey c.job.key = true → (s.loseDrive b).calib.current = none := by
  have role : e.role.drives = true := bne_iff_ne.mpr drives
  unfold State.loseDrive
  rw [h]
  dsimp only
  rw [if_pos role]
  have lost := s.unavailable_lost e
  have kept := (s.unavailable_touches e).calib rfl
  generalize s.unavailable e = u at lost kept ⊢
  have failed := (u.removeWindows e.keys).failJobIf_shrinks (fun c => e.hasKey c.job.key) .keyUnavailable
  refine ⟨(lost.shrinks (u.removeWindows_shrinks e.keys)).shrinks failed, fun k hk held => ?_, fun c hc held => ?_⟩
  · exact failed.windows k (u.removeWindows_none (e.mem_keys.mpr ⟨hk, held⟩))
  · refine State.failJobIf_current (c := c) ?_ held .keyUnavailable
    rw [(u.removeWindows_touches e.keys).calib rfl, kept]
    exact hc

theorem State.loseDrive_of_scanner {s : State} {b : Nat} (h : ∀ e, s.stationOf b = some e → e.role = .scanner) :
    s.loseDrive b = s := by
  unfold State.loseDrive
  split
  · rfl
  · next e he => exact if_neg (by rw [h e he]; nofun)

/-! ### The summary open through the closing of keys -/

/-- The take's summary is open as it was. -/
def SameTakeOpen (s t : State) : Prop := t.capture.summary.takeOpen = s.capture.summary.takeOpen

theorem Touches.sameTakeOpen {b : Blocks} {s t : State} (h : Touches b s t) (hb : b.capture = false) : SameTakeOpen s t := by
  unfold SameTakeOpen
  rw [h.capture hb]

theorem State.summarise_sameTakeOpen (s : State) {f : TakeSummary → TakeSummary} (h : ∀ t, (f t).takeOpen = t.takeOpen) :
    SameTakeOpen s (s.summarise f) := by
  unfold State.summarise
  split
  · exact h _
  · rfl

theorem State.takeEvent_sameTakeOpen (s : State) (e : CaptureEvent) : SameTakeOpen s (s.takeEvent e) := by
  have marked : ∀ t : State, SameTakeOpen t (t.markGap e) := fun t => by
    unfold State.markGap
    split
    · exact t.summarise_sameTakeOpen fun _ => rfl
    · rfl
  unfold State.takeEvent
  split
  · exact marked _
  · split
    · rfl
    · exact (marked _).trans (State.summarise_sameTakeOpen (s.bump _) fun _ => rfl)

theorem State.closeKeys_sameTakeOpen (s : State) (keys : List Nat) : SameTakeOpen s (s.closeKeys keys) := by
  have released : ∀ (t : State) (k : Nat), SameTakeOpen t (t.releaseKey k t.startTick) := fun t k => by
    unfold State.releaseKey
    split
    · dsimp only
      split
      · exact State.takeEvent_sameTakeOpen (t.setTracker k _) _
      · rfl
    · rfl
  unfold State.closeKeys
  induction keys generalizing s with
  | nil => rfl
  | cons k keys ih =>
    refine (ih _).trans ?_
    dsimp only
    split
    · rfl
    · unfold State.closeKey
      split
      · rfl
      · exact released s k

theorem State.capturing_congr {s t : State} (h : t.time = s.time) : t.capturing = s.capturing := by
  unfold State.capturing State.taking State.captureMode
  rw [h]

theorem State.markIncomplete_incomplete {s : State} (capturing : s.capturing = true) (opened : s.capture.summary.takeOpen = true) :
    s.markIncomplete.capture.summary.incomplete = true := by
  rw [State.markIncomplete, if_pos capturing, State.summarise, if_pos opened]

/-! ### A station Absent (R33) -/

theorem State.stationOf_some_range {s : State} {b : Nat} {e : RosterEntry} (h : s.stationOf b = some e) : 1 ≤ b ∧ b ≤ 8 := by
  constructor
  · by_contra zero
    obtain rfl : b = 0 := by omega
    rw [State.stationOf, nth_zero] at h
    cases h
  · by_contra high
    rw [State.stationOf, nth_above _ _ (Nat.lt_of_not_le high)] at h
    cases h

/-- What the eighth missing section in a row leaves of a station (R33). -/
structure WentAbsent (s : State) (b : Nat) (e : RosterEntry) (t : State) : Prop where
  entry : t.stationOf b = some { e with present := false, missing := 8 }
  others : ∀ a, a ≠ b → t.stationOf a = s.stationOf a
  windows : ∀ k, Keyed k → e.hasKey k = true → t.windowOf k = none
  drive : e.role ≠ .scanner → DriveLost e s t
  records : e.role ≠ .driver → ∀ k, Keyed k → e.hasKey k = true → t.closed k
  summary : e.role ≠ .driver → s.capturing = true → s.capture.summary.takeOpen = true →
    t.capture.summary.incomplete = true
  job : ∀ c, s.calib.current = some c → e.hasKey c.job.key = true → t.calib.current = none

theorem State.stationAbsent_left {s : State} {b : Nat} {e : RosterEntry} (h : s.stationOf b = some e) :
    WentAbsent s b e (s.stationAbsent b e) := by
  obtain ⟨low, high⟩ := State.stationOf_some_range h
  obtain ⟨u, hu⟩ : ∃ u : State, u = s.setStation b { e with present := false, missing := 8 } := ⟨_, rfl⟩
  have entry : u.stationOf b = some { e with present := false, missing := 8 } := by
    rw [hu]; exact s.stationOf_setStation_self _ low high
  have others : ∀ a, a ≠ b → u.stationOf a = s.stationOf a := fun a ha => by
    rw [hu]; exact s.stationOf_setStation_ne _ ha
  have same : u.sched = s.sched ∧ u.calib = s.calib ∧ u.capture = s.capture ∧ u.capturing = s.capturing := by
    rw [hu]; exact ⟨rfl, rfl, rfl, rfl⟩
  have absent : s.stationAbsent b e =
      if e.role.senses
      then ((((u.loseDrive b).removeWindows e.keys).closeKeys e.keys).markIncomplete).failJobIf (fun c => e.hasKey c.job.key)
        .noSensing
      else u.loseDrive b := by rw [hu]; rfl
  clear hu
  obtain ⟨sched, calib, capture, capturing⟩ := same
  have lost : e.role ≠ .scanner → DriveLost e s (u.loseDrive b) ∧
      (∀ k, Keyed k → e.hasKey k = true → (u.loseDrive b).windowOf k = none) ∧
      ∀ c, s.calib.current = some c → e.hasKey c.job.key = true → (u.loseDrive b).calib.current = none := fun drives => by
    obtain ⟨gone, windows, job⟩ := State.loseDrive_lost entry drives
    rw [calib] at job
    refine ⟨⟨gone.entries, fun k hk held => ?_⟩, windows, job⟩
    rw [← State.driveOf_congr (congrArg DriveSchedule.keys sched)]
    exact gone.keys k hk held
  have spared : e.role = .scanner → (u.loseDrive b).calib = s.calib := fun scans => by
    rw [State.loseDrive_of_scanner fun f hf => by rw [entry] at hf; cases hf; exact scans, calib]
  have stood := u.loseDrive_touches b
  have link := stood.link rfl
  generalize u.loseDrive b = v at absent lost stood link spared
  have stations : ∀ {t : State}, t.link = v.link → t.stationOf b = some { e with present := false, missing := 8 } ∧
      ∀ a, a ≠ b → t.stationOf a = s.stationOf a := fun ht => by
    have : ∀ a, State.stationOf _ a = u.stationOf a := State.stationOf_congr (congrArg ActionLink.roster (ht.trans link))
    exact ⟨(this b).trans entry, fun a ha => (this a).trans (others a ha)⟩
  by_cases senses : e.role = .driver
  · have drives : e.role ≠ .scanner := by rw [senses]; nofun
    rw [absent, if_neg (show ¬e.role.senses = true by rw [senses]; nofun)]
    obtain ⟨gone, windows, job⟩ := lost drives
    exact ⟨(stations rfl).1, (stations rfl).2, windows, fun _ => gone, fun k => absurd senses k, fun k => absurd senses k, job⟩
  · rw [absent, if_pos (show e.role.senses = true from bne_iff_ne.mpr senses)]
    obtain ⟨w, hw⟩ : ∃ w : State, w = ((v.removeWindows e.keys).closeKeys e.keys).markIncomplete := ⟨_, rfl⟩
    have closing := (v.removeWindows e.keys).closeKeys_touches e.keys
    have marking := ((v.removeWindows e.keys).closeKeys e.keys).markIncomplete_touches
    have removing := v.removeWindows_touches e.keys
    have shrunk : Shrinks v w := by
      rw [hw]
      exact (v.removeWindows_shrinks e.keys).trans (.of_blocks ((marking.sched rfl).trans (closing.sched rfl))
        ((marking.duplex rfl).trans (closing.duplex rfl)) ((marking.calib rfl).trans (closing.calib rfl)))
    have wlink : w.link = v.link := by rw [hw, marking.link rfl, closing.link rfl, removing.link rfl]
    have wcalib : w.calib = v.calib := by rw [hw, marking.calib rfl, closing.calib rfl, removing.calib rfl]
    have windows : ∀ k, Keyed k → e.hasKey k = true → w.windowOf k = none := fun k hk held => by
      rw [hw, State.windowOf_congr (congrArg DuplexMonitor.windows ((marking.duplex rfl).trans (closing.duplex rfl)))]
      exact v.removeWindows_none (e.mem_keys.mpr ⟨hk, held⟩)
    have records : ∀ k, Keyed k → e.hasKey k = true → w.closed k := fun k hk held => by
      rw [hw]
      exact State.closed_congr (marking.tracker rfl) (State.closeKeys_closed _ hk (e.mem_keys.mpr ⟨hk, held⟩))
    have summary : s.capturing = true → s.capture.summary.takeOpen = true → w.capture.summary.incomplete = true :=
      fun on opened => by
        rw [hw]
        refine State.markIncomplete_incomplete ?_ ?_
        · rw [State.capturing_congr (closing.time rfl), State.capturing_congr (removing.time rfl),
            State.capturing_congr (stood.time rfl), capturing]
          exact on
        · rw [show _ = _ from State.closeKeys_sameTakeOpen _ e.keys, removing.capture rfl,
            stood.capture rfl, capture]
          exact opened
    rw [← hw]
    clear hw
    have failing := w.failJobIf_touches (fun c => e.hasKey c.job.key) .noSensing
    have failed := w.failJobIf_shrinks (fun c => e.hasKey c.job.key) .noSensing
    refine ⟨(stations ((failing.link rfl).trans wlink)).1, (stations ((failing.link rfl).trans wlink)).2,
      fun k hk held => failed.windows k (windows k hk held), fun drives => ((lost drives).1.shrinks shrunk).shrinks failed,
      fun _ k hk held => State.closed_congr (failing.tracker rfl) (records k hk held), fun _ on opened => ?_, fun c hc held => ?_⟩
    · rw [failing.capture rfl]; exact summary on opened
    · by_cases drives : e.role = .scanner
      · exact State.failJobIf_current ((congrArg _ (wcalib.trans (spared drives))).trans hc) held .noSensing
      · exact failed.current (shrunk.current ((lost drives).2.2 c hc held))

/-! ### Records in READY, DRIVING and LOST (R31) -/

theorem RosterEntry.agrees_iff (e : RosterEntry) (r : StationRecord) :
    e.agrees r = true ↔ e.role = r.role ∧ e.firstKey = r.firstKey ∧ e.lastKey = r.lastKey ∧ e.pedals = r.pedals := by
  simp only [RosterEntry.agrees, Bool.and_eq_true, beq_iff_eq, and_assoc]

theorem RosterEntry.updated_eq (e : RosterEntry) (r : StationRecord) :
    e.updated r =
      { e with
        present := true, missing := if e.present then e.missing else 0, alpha := r.alpha, arrival := r.arrival,
        latency := r.latency,
        temperature := if -20 ≤ r.temperature ∧ r.temperature ≤ 125 then r.temperature else e.temperature,
        measured := e.measured || decide (-20 ≤ r.temperature ∧ r.temperature ≤ 125) } := by
  have range : temperatureInRange r.temperature = decide (-20 ≤ r.temperature ∧ r.temperature ≤ 125) :=
    (Bool.decide_and _ _).symm
  simp only [RosterEntry.updated, range, decide_eq_true_eq]

theorem State.updateStation_of_agrees {s : State} {b : Nat} {r : StationRecord} {e : RosterEntry}
    (h : s.stationOf b = some e) (agrees : e.agrees r = true) :
    s.updateStation (b, r) = s.setStation b (e.updated r) := by
  rw [State.updateStation, h]
  exact if_pos agrees

theorem State.updateStation_of_differs {s : State} {b : Nat} {r : StationRecord} {e : RosterEntry}
    (h : s.stationOf b = some e) (differs : ¬e.agrees r = true) : s.updateStation (b, r) = s := by
  rw [State.updateStation, h]
  exact if_neg differs

/-- Updates change the roster alone. -/
theorem State.updateStations_eq (records : List (Nat × StationRecord)) (s : State) :
    ∃ roster, records.foldl State.updateStation s = { s with link := { s.link with roster := roster } } := by
  induction records generalizing s with
  | nil => exact ⟨s.link.roster, rfl⟩
  | cons x records ih =>
    obtain ⟨roster, h⟩ := ih (s.updateStation x)
    refine ⟨roster, h.trans ?_⟩
    unfold State.updateStation
    split
    · rfl
    · split <;> rfl

theorem State.recordAgrees_iff (s : State) (x : Nat × StationRecord) :
    s.recordAgrees x = true ↔ ∃ e, s.stationOf x.1 = some e ∧ e.agrees x.2 = true := Option.any_eq_true _ _

theorem mem_wholeRecords {c : Collection} {x : Nat × StationRecord} (h : x ∈ c.wholeRecords) :
    x ∈ c.records ∧ x.2.pedals < 8 := by
  obtain ⟨b, there, hx⟩ := List.mem_filterMap.mp h
  obtain ⟨r, hr, rfl⟩ := Option.map_eq_some_iff.mp hx
  obtain ⟨read, spare⟩ := Option.filter_eq_some_iff.mp hr
  refine ⟨List.mem_filterMap.mpr ⟨b, there, Option.map_eq_some_iff.mpr ⟨r, read, rfl⟩⟩, ?_⟩
  have small : fieldAt (c.station b) 3 1 < 8 := of_decide_eq_true (Bool.and_eq_true_iff.mp spare).1
  have pedals : r.pedals = fieldAt (c.station b) 3 1 := by
    unfold readRecord at read
    split at read
    · cases read
    · split at read
      · cases read
      · dsimp only at read
        split at read
        · cases read
        · cases read; rfl
  rw [pedals]
  exact small

/-- Settles O21: the cases of a section and of a record; the eighth missing section by `State.stationAbsent_left`. -/
theorem stationsComeAndGo : Obligations.StationsComeAndGo := by
  have counts : ∀ {sections : Vector (Option SectionReport) 8} {b : Nat} {e : RosterEntry} {s : State},
      s.stationOf b = some e → sectionOf sections b = none → s.countSection sections b =
        if (!e.present) = true then s else if e.missing + 1 < 8 then s.setStation b { e with missing := e.missing + 1 }
        else s.stationAbsent b e := fun he missed => by
    rw [State.countSection, he]
    exact if_neg (by rw [missed]; nofun)
  refine ⟨fun sections b e s he => ⟨fun there => ?_, fun missed absent => ?_, fun missed present few => ?_,
    fun missed present eighth => ?absent⟩, fun b r e s he => ⟨fun differs => ?_, fun role first last pedals => ?_⟩,
    fun c s => ⟨fun x hx => mem_wholeRecords hx, fun all => ?_, fun ⟨x, hx, differs⟩ => ?roster⟩⟩
  · rw [State.countSection, he]
    exact if_pos there
  · rw [counts he missed]
    exact if_pos (by rw [absent]; rfl)
  · rw [counts he missed, if_neg (by rw [present]; nofun)]
    exact if_pos (Nat.succ_lt_succ few)
  case absent =>
    have gone : s.countSection sections b = s.stationAbsent b e := by
      rw [counts he missed, if_neg (by rw [present]; nofun)]
      exact if_neg (Nat.not_lt.mpr (Nat.succ_le_succ eighth))
    have left := State.stationAbsent_left he
    rw [← gone] at left
    exact ⟨_, rfl, left.entry, left.others, left.windows, fun drives => ⟨(left.drive drives).entries, (left.drive drives).keys⟩,
      fun senses => ⟨left.records senses, left.summary senses⟩, left.job⟩
  · refine State.updateStation_of_differs he fun agrees => ?_
    obtain ⟨role, first, last, pedals⟩ := (e.agrees_iff r).mp agrees
    simp [role, first, last, pedals] at differs
  · rw [State.updateStation_of_agrees he ((e.agrees_iff r).mpr ⟨role, first, last, pedals⟩), e.updated_eq]
  · exact if_pos (List.all_eq_true.mpr fun x hx => (s.recordAgrees_iff x).mpr (all x hx))
  case roster =>
    have changed : ¬c.wholeRecords.all s.recordAgrees = true := fun all => by
      obtain ⟨e, he, agrees⟩ := (s.recordAgrees_iff x).mp (List.all_eq_true.mp all x hx)
      rw [differs e he] at agrees
      cases agrees
    obtain ⟨roster, updated⟩ := State.updateStations_eq c.wholeRecords s
    obtain ⟨u, hu⟩ : ∃ u : State, u = { s with link := { s.link with roster := roster } } := ⟨_, rfl⟩
    have taken : s.takeRecords c =
        if u.linkUp = true then u.enterLink .aligning .roster
        else { u with link := { u.link with rosterChanged := true } } := by
      unfold State.takeRecords
      dsimp only
      rw [if_neg changed, updated, ← hu]
    have state : u.link.state = s.link.state := by rw [hu]
    have gap : u.link.gap = s.link.gap := by rw [hu]
    have time : u.time = s.time := by rw [hu]
    have left := u.leaveLink_left (into := .aligning) nofun
    have behind := u.enterLink_behind .aligning .roster
    have up : (s.link.state = .ready ∨ s.link.state = .driving) → u.linkUp = true := fun h => by
      rw [State.linkUp, state]
      rcases h with h | h <;> rw [h] <;> rfl
    rw [taken]
    refine ⟨fun h => ?_, fun driving => ?_, fun lost => ?_⟩
    · rw [if_pos (up h), u.enterLink_link (into := .aligning) nofun, left.link, if_pos (up h), gap, time]
      exact ⟨rfl, rfl⟩
    · rw [if_pos (up (.inr driving))]
      have driven : u.link.state = .driving := state.trans driving
      refine ⟨fun k => ?_, ?_, ?_⟩
      · rw [State.windowOf_congr (congrArg DuplexMonitor.windows (behind.duplex rfl))]
        exact left.windows driven k
      · rw [behind.calib rfl]; exact (left.jobs driven).1
      · rw [behind.calib rfl]; exact (left.jobs driven).2
    · have down : ¬u.linkUp = true := by rw [State.linkUp, state, lost]; nofun
      rw [if_neg down]
      exact ⟨state.trans lost, rfl⟩

end Sys2Proof.Machine
end

section
/-! PROOFS. The key fault set and the station notices (R39, R43 to R49): O25, O24. -/

namespace Sys2Proof.Machine

/-! ### A key leaves the fault set (R45) -/

/-- Nothing that a clearing reads or changes of key k is changed. -/
structure SameFault (k : Nat) (s t : State) : Prop where
  faulted : t.faulted k = s.faulted k
  drive : t.driveOf k = s.driveOf k
  unfaulted : t.unfaultedState k = s.unfaultedState k

theorem State.unfaultedState_congr {s t : State} {k : Nat} (hy : t.waitingYield k = s.waitingYield k)
    (hd : t.driveOf k = s.driveOf k) (ha : t.armed k = s.armed k) (hn : t.now = s.now) :
    t.unfaultedState k = s.unfaultedState k := by
  unfold State.unfaultedState
  rw [hy, hd, ha, hn]

theorem State.clearFault_entries (s : State) (k : Nat) : (s.clearFault k).sched.entries = s.sched.entries := by
  unfold State.clearFault
  split <;> rfl

theorem State.clearFaults_entries (s : State) (keys : List Nat) :
    (keys.foldl State.clearFault s).sched.entries = s.sched.entries := by
  induction keys generalizing s with
  | nil => rfl
  | cons k keys ih => exact (ih _).trans (s.clearFault_entries k)

theorem State.faulted_clearFault_self (s : State) {k : Nat} (hk : Keyed k) : (s.clearFault k).faulted k = false := by
  unfold State.clearFault
  split
  · exact s.faulted_setFault_self false hk.1 hk.2
  · next clear => exact Bool.eq_false_iff.mpr clear

theorem State.clearFault_same (s : State) {j k : Nat} (h : j ≠ k) : SameFault j s (s.clearFault k) := by
  unfold State.clearFault
  split
  · have drive : ((s.setFault k false).redecide k).driveOf j = s.driveOf j := State.driveOf_redecide_ne _ h
    exact ⟨s.faulted_setFault_ne false h, drive, State.unfaultedState_congr rfl drive rfl rfl⟩
  · exact ⟨rfl, rfl, rfl⟩

theorem State.driveOf_clearFault_self (s : State) {k : Nat} (hk : Keyed k) :
    (s.clearFault k).driveOf k =
      if s.faulted k then { s.driveOf k with state := s.unfaultedState k } else s.driveOf k := by
  unfold State.clearFault
  split
  · have clear : (s.setFault k false).faulted k = false := s.faulted_setFault_self false hk.1 hk.2
    have decided : (s.setFault k false).decideDrive k = s.unfaultedState k := by
      rw [State.decideDrive_eq, State.stateBy126, clear]
      rfl
    rw [State.driveOf_redecide_self _ hk.1 hk.2, decided]
    rfl
  · rfl

theorem exec_clearKeyFault {s : State} (h : s.port.restart = .none) (tag : Byte) (k : Nat) :
    exec (.clearKeyFault tag k) s = .next (s.clearKeyFault tag k) :=
  exec_of_heard (fun s => s.clearKeyFault tag k) h rfl

/-- Settles O25: one key by `State.clearFault`, all of them by what its steps for the other keys leave. -/
theorem clearKeyFaultEmptiesTheSet : Obligations.ClearKeyFaultEmptiesTheSet := by
  intro tag k s heard idle
  refine ⟨fun low known high => ?named, fun above => ?refused, ?all⟩
  case named =>
    have hk : Keyed k := ⟨low, high⟩
    have cleared : s.clearKeyFault tag k = (s.clearFault k).reply tag 11 .done .nothing := by
      rw [State.clearKeyFault, State.unlessRestoring_of_not idle, if_neg (by omega), if_neg (by omega), State.judged_none]
    have replied := (s.clearFault k).reply_touches tag 11 .done .nothing
    refine ⟨_, (exec_clearKeyFault heard tag k).trans (congrArg Host.Outcome.next cleared), ?_, fun j hj => ⟨?_, ?_⟩, fun clear => ?_,
      fun faulted => ?_, ?_, ?_⟩
    · rw [State.faulted_congr (congrArg ActionLink.faults (replied.link rfl))]
      exact s.faulted_clearFault_self hk
    · rw [State.faulted_congr (congrArg ActionLink.faults (replied.link rfl))]
      exact (s.clearFault_same hj).faulted
    · rw [State.driveOf_congr (congrArg DriveSchedule.keys (replied.sched rfl))]
      exact (s.clearFault_same hj).drive
    · rw [State.clearFault, clear]
      rfl
    · rw [State.driveOf_congr (congrArg DriveSchedule.keys (replied.sched rfl)), s.driveOf_clearFault_self hk, if_pos faulted]
    · rw [replied.sched rfl, s.clearFault_entries]
    · exact replied.via ((s.clearFault_touches k).mono rfl) rfl
  case refused =>
    rw [exec_clearKeyFault heard, State.clearKeyFault, State.unlessRestoring_of_not idle, if_neg (by omega), if_pos above,
      State.judged_some]
  case all =>
    have cleared : s.clearKeyFault tag 0 = (allKeys.foldl State.clearFault s).reply tag 11 .done .nothing := by
      rw [State.clearKeyFault, State.unlessRestoring_of_not idle, if_pos rfl]
    refine ⟨_, (exec_clearKeyFault heard tag 0).trans (congrArg Host.Outcome.next cleared), ?_⟩
    have emptied : ∀ j, Keyed j → (allKeys.foldl State.clearFault s).faulted j = false := fun j hj =>
      foldl_establishes (p := fun t => t.faulted j = false) (fun t => t.faulted_clearFault_self hj) (fun t i clear => by
        by_cases same : j = i
        · subst same; exact t.faulted_clearFault_self hj
        · rw [(t.clearFault_same same).faulted]; exact clear) (mem_allKeys.mpr hj) s
    have drives : ∀ j, Keyed j → (allKeys.foldl State.clearFault s).driveOf j =
        if s.faulted j then { s.driveOf j with state := s.unfaultedState j } else s.driveOf j := fun j hj => by
      obtain ⟨u, before, after⟩ := foldl_at (f := State.clearFault) (R := SameFault j) (fun _ => ⟨rfl, rfl, rfl⟩)
        (fun h k => ⟨k.faulted.trans h.faulted, k.drive.trans h.drive, k.unfaulted.trans h.unfaulted⟩)
        (fun t i h => t.clearFault_same (Ne.symm h)) (mem_allKeys.mpr hj) nodup_allKeys s
      rw [after.drive, u.driveOf_clearFault_self hj, before.faulted, before.drive, before.unfaulted]
    have entries := s.clearFaults_entries allKeys
    generalize allKeys.foldl State.clearFault s = u at emptied drives entries ⊢
    have replied := u.reply_touches tag 11 .done .nothing
    refine ⟨fun j => ?_, by rw [replied.sched rfl, entries], fun j hj => ?_⟩
    · rw [State.faulted_congr (congrArg ActionLink.faults (replied.link rfl))]
      by_cases hj : Keyed j
      · exact emptied j hj
      · unfold Keyed at hj
        rcases Nat.eq_zero_or_pos j with rfl | low
        · exact nth_zero _ _
        · exact nth_above _ _ (by omega)
    · rw [State.driveOf_congr (congrArg DriveSchedule.keys (replied.sched rfl))]
      exact drives j hj

/-! ### A notice judged and acted on (R43) -/

theorem State.acceptNotice_of_ignored {s : State} {n : Notice} (h : s.noticeApplies n = none) (cycle : Nat) :
    s.acceptNotice cycle n = s.report (.noticeAccepted n.station n.kind n.key n.gate cycle .ignored) := by
  rw [State.acceptNotice, h]

theorem State.acceptNotice_of_applies {s : State} {n : Notice} {kind : NoticeKind} (h : s.noticeApplies n = some kind)
    (cycle : Nat) :
    s.acceptNotice cycle n = (s.noticeAction kind n).1.report
      (.noticeAccepted n.station n.kind n.key n.gate cycle (s.noticeAction kind n).2) := by
  rw [State.acceptNotice, h]

theorem State.noticeApplies_eq {s : State} {n : Notice} {kind : NoticeKind} (h : noticeKind n.kind = some kind) :
    s.noticeApplies n =
      if kind.namesKey = true ∧ (n.key = 0 ∨ s.keyCount < n.key) then none
      else if kind = .sensorBlinded ∧ (n.gate = 0 ∨ 4 < n.gate) then none
      else some kind := by
  rw [State.noticeApplies, h]
  simp only [Bool.and_eq_true, Bool.or_eq_true, beq_iff_eq, decide_eq_true_eq]

/-- A notice of no kind, of no key or of no gate is Ignored. -/
theorem State.noticeApplies_none {s : State} {n : Notice}
    (h : n.kind = 0 ∨ 9 < n.kind ∨
      ((n.kind = 1 ∨ n.kind = 2 ∨ n.kind = 7 ∨ n.kind = 8) ∧ (n.key = 0 ∨ s.keyCount < n.key)) ∨
      (n.kind = 7 ∧ (n.gate = 0 ∨ 4 < n.gate))) : s.noticeApplies n = none := by
  rcases h with none | above | ⟨kind, key⟩ | ⟨kind, gate⟩
  · rw [State.noticeApplies, none]; rfl
  · have unknown : noticeKind n.kind = .none := by
      unfold noticeKind
      split <;> first | omega | rfl
    rw [State.noticeApplies, unknown]
  · rcases kind with kind | kind | kind | kind
    · exact (State.noticeApplies_eq (kind := .coilOvercurrent) (by rw [kind]; rfl)).trans (if_pos ⟨rfl, key⟩)
    · exact (State.noticeApplies_eq (kind := .coilOpen) (by rw [kind]; rfl)).trans (if_pos ⟨rfl, key⟩)
    · exact (State.noticeApplies_eq (kind := .sensorBlinded) (by rw [kind]; rfl)).trans (if_pos ⟨rfl, key⟩)
    · exact (State.noticeApplies_eq (kind := .sensorRestored) (by rw [kind]; rfl)).trans (if_pos ⟨rfl, key⟩)
  · rw [State.noticeApplies_eq (kind := .sensorBlinded) (by rw [kind]; rfl)]
    split
    · rfl
    · exact if_pos ⟨rfl, gate⟩

/-- A kind that names no key, or a key of the keyboard, applies. -/
theorem State.noticeApplies_some {s : State} {n : Notice} {kind : NoticeKind} (h : noticeKind n.kind = some kind)
    (key : kind.namesKey = true → 1 ≤ n.key ∧ n.key ≤ s.keyCount)
    (gate : kind = .sensorBlinded → 1 ≤ n.gate ∧ n.gate ≤ 4) : s.noticeApplies n = some kind := by
  rw [State.noticeApplies_eq h, if_neg (fun bad => by have := key bad.1; omega), if_neg (fun bad => by have := gate bad.1; omega)]

/-! ### SupplyLow and OverTemperature (R47, R48) -/

theorem Entry.capped_of_not_lowered {e : RosterEntry} {x : Entry} (drives : e.drivesEntry x = true) (h : ¬e.lowers x = true) :
    x.capped = x := by
  have : ¬768 < x.level ∧ ¬768 < x.holdLevel := by
    have spared : (decide (768 < x.level) || decide (768 < x.holdLevel)) = false := by
      rw [RosterEntry.lowers, drives, Bool.true_and, Bool.not_eq_true] at h
      exact h
    obtain ⟨level, hold⟩ := Bool.or_eq_false_iff.mp spared
    exact ⟨of_decide_eq_false level, of_decide_eq_false hold⟩
  have level : min x.level Config.hotCap = x.level := Nat.min_eq_left (Nat.not_lt.mp this.1)
  have hold : min x.holdLevel Config.hotCap = x.holdLevel := Nat.min_eq_left (Nat.not_lt.mp this.2)
  rw [Entry.capped, level, hold]

theorem State.lowerLevels_entries (s : State) (e : RosterEntry) :
    (s.lowerLevels e).sched.entries = s.sched.entries.map (fun x => if e.drivesEntry x then x.capped else x) := by
  unfold State.lowerLevels
  dsimp only
  rw [(State.bumpTimes_touches _ _ _).sched rfl]
  refine List.map_congr_left fun x _ => ?_
  by_cases drives : e.drivesEntry x = true
  · by_cases lowered : e.lowers x = true
    · rw [if_pos lowered, if_pos drives]
    · rw [if_neg lowered, if_pos drives, Entry.capped_of_not_lowered drives lowered]
  · have : ¬e.lowers x = true := fun lowered => drives (Bool.and_eq_true_iff.mp lowered).1
    rw [if_neg this, if_neg drives]

theorem State.lowerLevels_saturated (s : State) (e : RosterEntry)
    (room : s.count .saturated + s.sched.entries.length ≤ 65535) :
    (s.lowerLevels e).count .saturated = s.count .saturated + (s.sched.entries.filter e.lowers).length := by
  have few := List.length_filter_le e.lowers s.sched.entries
  exact State.count_bumpTimes_self (s.setEntries _) .saturated _ (by show s.count .saturated + _ ≤ _; omega)

theorem State.lowerStation_of_scanner {s : State} {b : Nat} (h : ∀ e, s.stationOf b = some e → e.role = .scanner) :
    s.lowerStation b = s := by
  unfold State.lowerStation
  split
  · rfl
  · next e he => exact if_neg (by rw [h e he]; nofun)

theorem State.lowerStation_of_drives {s : State} {b : Nat} {e : RosterEntry} (h : s.stationOf b = some e)
    (drives : e.role ≠ .scanner) : s.lowerStation b = s.lowerLevels e := by
  rw [State.lowerStation, h]
  exact if_pos (bne_iff_ne.mpr drives)

theorem State.failJobIf_of_none {s : State} (h : s.calib.current = none) (p : CurrentJob → Bool) (reason : JobReason) :
    s.failJobIf p reason = s := by
  rw [State.failJobIf, h]

/-- The jobs that the heat of a station ends (R165). -/
def State.endsByHeat (s : State) (b : Nat) (c : CurrentJob) : Bool := s.driverOf c.job.key == some b && c.exceedsCap

theorem heats_hot {s : State} {b : Nat} (h : s.isHot b = true) :
    s.heats b = (s.failJobIf (s.endsByHeat b) .overTemperature, .noChange) := by
  rw [State.heats, h]
  rfl

theorem heats_cool {s : State} {b : Nat} (h : s.isHot b = false) :
    s.heats b = (((s.setOverTemp b true).lowerStation b).failJobIf (((s.setOverTemp b true).lowerStation b).endsByHeat b)
      .overTemperature, .applied) := by
  rw [State.heats, h]
  rfl

/-! ### SensorBlinded and SensorRestored (R46, R70, R71) -/

/-- A job that fails for its key leaves every other key's window. -/
theorem State.windowOf_failJobIf_ne (s : State) {j k : Nat} (h : j ≠ k) (reason : JobReason) :
    (s.failJobIf (fun c => c.job.key == k) reason).windowOf j = s.windowOf j := by
  rcases s.failJobIf_cases (fun c => c.job.key == k) reason with ⟨-, e⟩ | ⟨c, -, -, e⟩ | ⟨c, -, key, e⟩
  · rw [e]
  · rw [e]
  · rw [e, State.failJob, State.windowOf_congr (congrArg DuplexMonitor.windows ((State.report_touches _ _).duplex rfl))]
    show (s.endStrike c).windowOf j = s.windowOf j
    unfold State.endStrike
    split
    · rfl
    · exact State.windowOf_congr (congrArg DuplexMonitor.windows (s.removeStrike_duplex _)) j
    · exact s.windowOf_setWindow_ne none (by rw [beq_iff_eq.mp key]; exact h)

/-- What the closing of a depression hands to the Capture Queue (R70). -/
theorem State.closeKey_capture (s : State) (into : TrackState) (k : Nat) :
    ((s.trackerOf k).state ≠ .atRest → (s.trackerOf k).sounded = true → s.capturing = true →
      (s.closeKey into k).capture = (s.takeEvent
        { kind := .release, voice := k, value := 0,
          stamp := max s.startTick (((s.trackerOf k).lastStamp.map (· + 1)).getD 0) }).capture) ∧
    ((s.trackerOf k).sounded = false → (s.closeKey into k).capture = s.capture) := by
  refine ⟨fun held sounded capturing => ?_, fun silent => ?_⟩
  · have stamp : (match (s.trackerOf k).lastStamp with | none => 0 | some t => t + 1) =
        ((s.trackerOf k).lastStamp.map (· + 1)).getD 0 := by cases (s.trackerOf k).lastStamp <;> rfl
    rw [State.closeKey, if_neg held, State.releaseKey, if_pos sounded, capturing, ← stamp]
    exact State.takeEvent_capture_congr (s := s.setTracker k _) (t := s) rfl _
  · unfold State.closeKey
    split
    · rfl
    · rw [State.releaseKey, if_neg (by rw [silent]; nofun)]
      rfl

/-! ### Rejoin (R49) -/

/-- Nothing of the link but the stations that blinded is changed. -/
def SameConditions (s t : State) : Prop := t.link = { s.link with blinder := t.link.blinder }

theorem State.unblind_link (s : State) (b k : Nat) : SameConditions s (s.unblind b k) := by
  unfold State.unblind
  split
  · dsimp only
    split <;> rfl
  · rfl

theorem State.unblinds_link (keys : List Nat) (s : State) (b : Nat) :
    SameConditions s (keys.foldl (fun s k => s.unblind b k) s) := by
  induction keys generalizing s with
  | nil => rfl
  | cons k keys ih =>
    have rest := ih (s.unblind b k)
    unfold SameConditions at *
    rw [List.foldl_cons, rest, s.unblind_link b k]

theorem State.rejoins_eq (s : State) (b : Nat) :
    s.rejoins b = (allKeys.foldl (fun s k => s.unblind b k) ((s.setSupplyLow b false).setOverTemp b false),
      if s.supplyIsLow b || s.isHot b || allKeys.any (fun k => s.blinderOf k == some b) then .applied else .noChange) := by
  unfold State.rejoins
  dsimp only

/-- The record and the blinding station of a key that stand. -/
structure SameSight (k : Nat) (s t : State) : Prop where
  blinder : t.blinderOf k = s.blinderOf k
  record : t.trackerOf k = s.trackerOf k

theorem State.unblind_same (s : State) (b : Nat) {j k : Nat} (h : j ≠ k) : SameSight j s (s.unblind b k) := by
  unfold State.unblind
  split
  · dsimp only
    split
    · exact ⟨s.blinderOf_setBlinder_ne none h, State.trackerOf_setTracker_ne _ _ h⟩
    · exact ⟨s.blinderOf_setBlinder_ne none h, rfl⟩
  · exact ⟨rfl, rfl⟩

theorem State.unblind_other {s : State} {b k : Nat} (h : s.blinderOf k ≠ some b) : s.unblind b k = s := if_neg h

theorem State.unblind_self {s : State} {b k : Nat} (hk : Keyed k) (h : s.blinderOf k = some b) :
    (s.unblind b k).blinderOf k = none ∧ (s.unblind b k).trackerOf k =
      if (s.trackerOf k).state = .blind then (s.trackerOf k).restored else s.trackerOf k := by
  rw [State.unblind, if_pos h]
  dsimp only
  show State.blinderOf (if (s.trackerOf k).state = .blind then _ else _) k = _ ∧
    State.trackerOf (if (s.trackerOf k).state = .blind then _ else _) k = _
  split
  · exact ⟨s.blinderOf_setBlinder_self none hk.1 hk.2, State.trackerOf_setTracker_self _ _ hk.1 hk.2⟩
  · exact ⟨s.blinderOf_setBlinder_self none hk.1 hk.2, rfl⟩

/-- Settles O24. -/
theorem noticesSetConditions : Obligations.NoticesSetConditions := by
  have lowered : ∀ {s : State} {b : Nat} {e : RosterEntry} {p : CurrentJob → Bool}, s.stationOf b = some e →
      e.role ≠ .scanner → s.calib.current = none →
      ((s.setOverTemp b true).lowerStation b).failJobIf p .overTemperature = (s.setOverTemp b true).lowerLevels e :=
    fun {s b e p} he drives idle => by
      rw [State.lowerStation_of_drives (s := s.setOverTemp b true) he drives]
      refine State.failJobIf_of_none ?_ _ _
      rw [(State.lowerLevels_touches _ e).calib rfl]
      exact idle
  refine ⟨fun cycle slot n s => ⟨fun h => ?_, fun h => ?_, fun h => ?_⟩,
    fun cycle n s => ⟨fun bad => ?_, fun d hd => ?actions⟩,
    fun b s t low high => ⟨fun stands => ?_, fun clear => ⟨?_, ?_, fun scans => ?_, fun e he drives ht => ?falls⟩,
      fun hot => ⟨?_, fun idle => ?_⟩, fun cool => ⟨?_, ?_, ?_, fun idle => ⟨fun scans => ?_, fun e he drives => ⟨?_, fun room => ?_⟩⟩⟩,
      fun c hc drives exceeds => ?tooHot⟩,
    fun b k s t hk ht => ?blinded, fun b s t low high ht => ?rejoins⟩
  · rw [State.takeSlot, h]
  · rw [State.takeSlot, h]
  · rw [State.takeSlot, h]
  · exact State.acceptNotice_of_ignored (State.noticeApplies_none bad) cycle
  case actions =>
    have act : ∀ {kind : NoticeKind}, noticeKind n.kind = some kind →
        (kind.namesKey = true → 1 ≤ n.key ∧ n.key ≤ s.keyCount) → (kind = .sensorBlinded → 1 ≤ n.gate ∧ n.gate ≤ 4) →
        d = s.noticeAction kind n →
        s.acceptNotice cycle n = d.1.report (.noticeAccepted n.station n.kind n.key n.gate cycle d.2) :=
      fun known key gate same => by
        rw [same]
        exact State.acceptNotice_of_applies (State.noticeApplies_some known key gate) cycle
    rcases hd with ⟨kind | kind, low, high, same⟩ | ⟨kind, same⟩ | ⟨kind, same⟩ | ⟨kind, same⟩ | ⟨kind, same⟩ |
      ⟨kind, low, high, first, last, same⟩ | ⟨kind, low, high, same⟩ | ⟨kind, same⟩
    · exact act (kind := .coilOvercurrent) (by rw [kind]; rfl) (fun _ => ⟨low, high⟩) nofun same
    · exact act (kind := .coilOpen) (by rw [kind]; rfl) (fun _ => ⟨low, high⟩) nofun same
    · exact act (kind := .supplyLow) (by rw [kind]; rfl) nofun nofun same
    · exact act (kind := .overTemperature) (by rw [kind]; rfl) nofun nofun same
    · exact act (kind := .supplyRestored) (by rw [kind]; rfl) nofun nofun same
    · exact act (kind := .overTemperatureClear) (by rw [kind]; rfl) nofun nofun same
    · exact act (kind := .sensorBlinded) (by rw [kind]; rfl) (fun _ => ⟨low, high⟩) (fun _ => ⟨first, last⟩) same
    · exact act (kind := .sensorRestored) (by rw [kind]; rfl) (fun _ => ⟨low, high⟩) nofun same
    · exact act (kind := .rejoin) (by rw [kind]; rfl) nofun nofun same
  · exact ⟨if_pos stands, if_pos stands⟩
  · exact if_neg (by rw [clear]; nofun)
  · rw [State.supplyFalls, if_neg (by rw [clear]; nofun)]
  · rw [State.supplyFalls, if_neg (by rw [clear]; nofun)]
    exact State.loseDrive_of_scanner scans
  case falls =>
    rw [State.supplyFalls, if_neg (by rw [clear]; nofun)] at ht
    obtain ⟨lost, windows, -⟩ := State.loseDrive_lost (s := s.setSupplyLow b true) he drives
    have stood := (s.setSupplyLow b true).loseDrive_touches b
    rw [ht]
    refine ⟨?_, lost.entries, fun k hk held => ⟨windows k hk held, lost.keys k hk held⟩, stood.tracker rfl,
      (congrArg ActionLink.roster (stood.link rfl)).trans rfl⟩
    rw [State.supplyIsLow, stood.link rfl]
    exact s.supplyIsLow_setSupplyLow_self true low high
  · exact if_pos hot
  · rw [heats_hot hot, State.failJobIf_of_none idle]
  · exact if_neg (by rw [cool]; nofun)
  · rw [heats_cool cool]
  · rw [heats_cool cool]
    show State.isHot (State.failJobIf _ _ _) b = true
    rw [State.isHot, (State.failJobIf_touches _ _ _).link rfl, (State.lowerStation_touches _ b).link rfl]
    exact s.isHot_setOverTemp_self true low high
  · rw [heats_cool cool, State.lowerStation_of_scanner (s := s.setOverTemp b true) scans]
    exact State.failJobIf_of_none (s := s.setOverTemp b true) idle _ _
  · rw [heats_cool cool, lowered he drives idle]
    exact State.lowerLevels_entries _ e
  · rw [heats_cool cool, lowered he drives idle]
    exact State.lowerLevels_saturated (s.setOverTemp b true) e room
  case tooHot =>
    have concerned : ∀ {u : State}, u.link.roster = s.link.roster → u.endsByHeat b c = true := fun same => by
      refine Bool.and_eq_true_iff.mpr ⟨?_, Bool.or_eq_true_iff.mpr (exceeds.imp ?_ decide_eq_true)⟩
      · rw [State.driverOf_congr same, drives]
        exact beq_self_eq_true _
      · rintro ⟨l, hl, above⟩
        exact List.any_eq_true.mpr ⟨l, hl, decide_eq_true above⟩
    cases hot : s.isHot b with
    | true =>
      rw [heats_hot hot]
      exact State.failJobIf_current hc (concerned rfl) _
    | false =>
      have lower := (s.setOverTemp b true).lowerStation_touches b
      rw [heats_cool hot]
      exact State.failJobIf_current ((congrArg Sequencer.current (lower.calib rfl)).trans hc)
        (concerned ((congrArg ActionLink.roster (lower.link rfl)).trans rfl)) _
  case blinded =>
    obtain ⟨u, hu⟩ : ∃ u : State, u = if (s.trackerOf k).state == .blind then s else s.closeKey .blind k := ⟨_, rfl⟩
    have acted : s.sensorBlinded b k =
        (((u.setBlinder k (some b)).failJobIf (fun c => c.job.key == k) .noSensing).setWindow k none,
          if (s.trackerOf k).state == .blind then .noChange else .applied) := by rw [hu]; rfl
    have failing := (u.setBlinder k (some b)).failJobIf_touches (fun c => c.job.key == k) .noSensing
    have others : ∀ j, j ≠ k → t.windowOf j = u.windowOf j := fun j hj => by
      rw [ht, acted]
      exact (State.windowOf_setWindow_ne _ none hj).trans (State.windowOf_failJobIf_ne _ hj _)
    have tracker : t.tracker = u.tracker := by rw [ht, acted]; exact (failing.tracker rfl).trans rfl
    have capture : t.capture = u.capture := by rw [ht, acted]; exact (failing.capture rfl).trans rfl
    have kept : (s.trackerOf k).state ≠ .blind → u = s.closeKey .blind k := fun seeing => by
      rw [hu, if_neg (fun h => seeing (beq_iff_eq.mp h))]
    have blind : (s.trackerOf k).state = .blind → u = s := fun h => by rw [hu, if_pos (beq_iff_eq.mpr h)]
    have closing := s.closeKey_touches .blind k
    refine ⟨?_, ?_, ?_, fun j hj => ⟨?_, ?_⟩, fun was => ⟨?_, ?_, ?_⟩, fun seeing => ⟨?_, fun held sounded capturing => ?_,
      fun silent => ?_⟩, ?_⟩
    · rw [ht, acted]
      show nth (State.setWindow _ k none).link.blinder k none = some b
      show nth (State.failJobIf _ _ _).link.blinder k none = some b
      rw [failing.link rfl]
      exact u.blinderOf_setBlinder_self (some b) hk.1 hk.2
    · rw [State.trackerOf_congr (congrArg CaptureTracker.keys tracker)]
      by_cases was : (s.trackerOf k).state = .blind
      · rw [blind was]; exact was
      · rw [kept was]; exact s.trackerOf_closeKey_self hk .blind
    · rw [ht, acted]; exact State.windowOf_setWindow_none _ k
    · rw [State.trackerOf_congr (congrArg CaptureTracker.keys tracker)]
      by_cases was : (s.trackerOf k).state = .blind
      · rw [blind was]
      · rw [kept was]; exact s.trackerOf_closeKey_ne .blind hj
    · rw [others j hj]
      by_cases was : (s.trackerOf k).state = .blind
      · rw [blind was]
      · rw [kept was]; exact State.windowOf_congr (congrArg DuplexMonitor.windows (closing.duplex rfl)) j
    · rw [acted, if_pos (beq_iff_eq.mpr was)]
    · rw [tracker, blind was]
    · rw [capture, blind was]
    · rw [acted, if_neg (fun h => seeing (beq_iff_eq.mp h))]
    · rw [capture, kept seeing]; exact (s.closeKey_capture .blind k).1 held sounded capturing
    · rw [capture, kept seeing]; exact (s.closeKey_capture .blind k).2 silent
    · rfl
  case rejoins =>
    obtain ⟨u, hu⟩ : ∃ u : State, u = (s.setSupplyLow b false).setOverTemp b false := ⟨_, rfl⟩
    have cleared : t = allKeys.foldl (fun s k => s.unblind b k) u := by rw [ht, hu, s.rejoins_eq b]
    have link := State.unblinds_link allKeys u b
    unfold SameConditions at link
    rw [← cleared] at link
    have same : ∀ k, SameSight k s u := fun k => by rw [hu]; exact ⟨rfl, rfl⟩
    have low' : u.supplyIsLow b = false := by
      rw [hu]; exact s.supplyIsLow_setSupplyLow_self false low high
    have hot' : u.isHot b = false := by rw [hu]; exact State.isHot_setOverTemp_self _ false low high
    have roster : u.link.roster = s.link.roster := by rw [hu]; rfl
    have faults : u.link.faults = s.link.faults := by rw [hu]; rfl
    refine ⟨?_, ?_, by rw [link]; exact roster, by rw [link]; exact faults, ?_, fun k hk => ?_⟩
    · rw [State.supplyIsLow, link]; exact low'
    · rw [State.isHot, link]; exact hot'
    · have decided : (s.rejoins b).2 =
          if s.supplyIsLow b || s.isHot b || allKeys.any (fun k => s.blinderOf k == some b) then .applied else .noChange := by
        rw [s.rejoins_eq b]
      rw [decided]
      generalize hc : (s.supplyIsLow b || s.isHot b || allKeys.any (fun k => s.blinderOf k == some b)) = changed
      have : changed = true ↔ s.supplyIsLow b = true ∨ s.isHot b = true ∨ ∃ k, Keyed k ∧ s.blinderOf k = some b := by
        rw [← hc, Bool.or_eq_true, Bool.or_eq_true, List.any_eq_true, or_assoc]
        simp only [mem_allKeys, beq_iff_eq]
      rw [← this]
      cases changed <;> simp
    · obtain ⟨v, before, after⟩ := foldl_at (f := fun s k => State.unblind s b k) (R := SameSight k) (fun _ => ⟨rfl, rfl⟩)
        (fun h g => ⟨g.blinder.trans h.blinder, g.record.trans h.record⟩) (fun t j h => t.unblind_same b (Ne.symm h))
        (mem_allKeys.mpr hk) nodup_allKeys u
      rw [← cleared] at after
      have blinder : v.blinderOf k = s.blinderOf k := before.blinder.trans (same k).blinder
      have record : v.trackerOf k = s.trackerOf k := before.record.trans (same k).record
      rw [after.blinder, after.record]
      refine ⟨fun this => ?_, fun other => ?_⟩
      · obtain ⟨gone, restored⟩ := State.unblind_self hk (blinder.trans this)
        rw [record] at restored
        exact ⟨gone, restored⟩
      · rw [State.unblind_other (by rw [blinder]; exact other)]
        exact ⟨blinder, record⟩

end Sys2Proof.Machine
end

section
/-! PROOFS. Crossings and strokes (R51 to R68): O26. -/

namespace Sys2Proof.Machine

/-! ### A record replaced twice -/

theorem setNth_setNth {α : Type} {n : Nat} (v : Vector α n) (k : Nat) (a b : α) : setNth (setNth v k a) k b = setNth v k b := by
  unfold setNth
  split
  · rfl
  · exact Vector.setIfInBounds_setIfInBounds ..

theorem State.setTracker_setTracker (s : State) (k : Nat) (r q : TrackerRecord) :
    (s.setTracker k r).setTracker k q = s.setTracker k q := by
  unfold State.setTracker
  dsimp only
  rw [setNth_setNth]

/-! ### An event of a key handed over (R68) -/

/-- The stamp raised to keep the key's events in order. -/
def TrackerRecord.raised (r : TrackerRecord) (kind : CaptureKind) (raw : Nat) : Nat :=
  max raw (match r.lastStamp with | none => 0 | some t => if kind = .release then t + 1 else t)

theorem TrackerRecord.raised_release (r : TrackerRecord) (raw : Nat) :
    r.raised .release raw = max raw ((r.lastStamp.map (· + 1)).getD 0) := by
  unfold TrackerRecord.raised
  cases r.lastStamp <;> rfl

theorem TrackerRecord.raised_other (r : TrackerRecord) {kind : CaptureKind} (h : kind ≠ .release) (raw : Nat) :
    r.raised kind raw = max raw (r.lastStamp.getD 0) := by
  unfold TrackerRecord.raised
  cases r.lastStamp with
  | none => rfl
  | some t => dsimp only; rw [if_neg h]; rfl

theorem State.handKeyEvent_eq (s : State) (k : Nat) (kind : CaptureKind) (value raw : Nat) :
    s.handKeyEvent k kind value raw =
      (s.setTracker k { s.trackerOf k with
        lastStamp := some ((s.trackerOf k).raised kind raw), sounded := kind != .release }).takeEvent
        { kind := kind, voice := k, stamp := (s.trackerOf k).raised kind raw, value := value } := rfl

theorem State.handKeyEvent_record (s : State) {k : Nat} (hk : Keyed k) (kind : CaptureKind) (value raw : Nat) :
    (s.handKeyEvent k kind value raw).trackerOf k = { s.trackerOf k with
      lastStamp := some ((s.trackerOf k).raised kind raw), sounded := kind != .release } := by
  rw [s.handKeyEvent_eq, State.trackerOf_takeEvent, State.trackerOf_setTracker_self _ _ hk.1 hk.2]

theorem State.handKeyEvent_capture (s : State) (k : Nat) (kind : CaptureKind) (value raw : Nat) :
    (s.handKeyEvent k kind value raw).capture = (s.takeEvent
      { kind := kind, voice := k, stamp := (s.trackerOf k).raised kind raw, value := value }).capture :=
  State.takeEvent_capture_congr (s := s.setTracker k _) (t := s) rfl _

/-- R68 for a Strike or SilentPress. -/
theorem State.captures_iff (s : State) (k : Nat) :
    (s.capturing && (s.time.mode != .duplex || ((s.trackerOf k).owner == .performer && !s.underReplay k))) = true ↔
      s.captures k := by
  unfold State.captures
  by_cases duplex : s.time.mode = .duplex <;> simp [duplex]

theorem State.judgeCapture_of_captures {s : State} {k : Nat} (h : s.captures k) (kind : CaptureKind) (value raw : Nat) :
    s.judgeCapture k kind value raw = s.handKeyEvent k kind value raw := if_pos ((s.captures_iff k).mpr h)

theorem State.judgeCapture_of_not {s : State} {k : Nat} (h : ¬s.captures k) (kind : CaptureKind) (value raw : Nat) :
    s.judgeCapture k kind value raw = s := if_neg fun c => h ((s.captures_iff k).mp c)

/-- A record replaced by one of the same owner leaves what R68 asks. -/
theorem State.captures_setTracker (s : State) {k : Nat} (hk : Keyed k) {r : TrackerRecord}
    (owner : r.owner = (s.trackerOf k).owner) : (s.setTracker k r).captures k ↔ s.captures k := by
  unfold State.captures
  rw [s.trackerOf_setTracker_self r hk.1 hk.2, owner]
  rfl

/-! ### The abandonment test (R61) -/

theorem State.abandon_of_not_rising {s : State} {x : Instant} {k : Nat} (h : (s.trackerOf k).state ≠ .rising) :
    s.abandon x k = s := by
  rcases s.abandon_cases x k with ⟨_, rising, -⟩ | same
  · exact absurd rising h
  · exact same

theorem State.abandon_of_within {s : State} {x : Instant} {k : Nat}
    (h : ∀ i, (s.trackerOf k).h1 = some i → (s.trackerOf k).state = .rising → interval i x ≤ 65535) : s.abandon x k = s := by
  rcases s.abandon_cases x k with ⟨i, rising, first, past, -⟩ | same
  · exact absurd (h i first rising) (Int.not_le.mpr past)
  · exact same

theorem State.abandon_of_past {s : State} {x h : Instant} {k : Nat} (rising : (s.trackerOf k).state = .rising)
    (first : (s.trackerOf k).h1 = some h) (past : 65535 < interval h x) :
    s.abandon x k = s.setTracker k { s.trackerOf k with state := .down, h1 := none } := by
  unfold State.abandon
  dsimp only
  rw [rising, first]
  exact if_pos past

theorem State.trackerOf_abandon_ne (s : State) (x : Instant) {j k : Nat} (h : j ≠ k) :
    (s.abandon x k).trackerOf j = s.trackerOf j := by
  rcases s.abandon_cases x k with ⟨_, -, -, -, e⟩ | e
  · rw [e]; exact State.trackerOf_setTracker_ne _ _ h
  · rw [e]

/-- The abandonment check of a hand-over reaches each key once. -/
theorem State.trackerOf_abandonAll (s : State) (cycle : Nat) {k : Nat} (hk : Keyed k) :
    ∃ u : State, u.trackerOf k = s.trackerOf k ∧
      (s.abandonAll cycle).trackerOf k = (u.abandon { cycle := cycle, fine := 199 } k).trackerOf k :=
  foldl_at (f := fun s k => State.abandon s { cycle := cycle, fine := 199 } k) (R := fun s t => t.trackerOf k = s.trackerOf k)
    (fun _ => rfl) (fun h g => g.trans h) (fun t _ h => t.trackerOf_abandon_ne _ (Ne.symm h)) (mem_allKeys.mpr hk)
    nodup_allKeys s

/-! ### A crossing's row (R58 to R65) -/

/-- What a crossing's gate and direction make of the record, the abandonment test done. -/
def State.crossed (s : State) (cycle : Nat) (x : Crossing) : State :=
  match x.gate, x.back with
  | some .kr, false => s.krOut x.key
  | some .kr, true => s.krIn x.key (crossingStamp (s.takeCycleOf cycle) x.fine)
  | some .kd, false => s.kdDown x.key (crossingStamp (s.takeCycleOf cycle) x.fine)
  | some .h1, false => s.h1Up x.key { cycle := cycle, fine := x.fine }
  | some .h1, true => s.h1Down x.key
  | some .h2, false => s.h2Up x.key { cycle := cycle, fine := x.fine }
  | _, _ => s

theorem State.takeCycleOf_congr {s t : State} (h : t.time = s.time) (cycle : Nat) : t.takeCycleOf cycle = s.takeCycleOf cycle := by
  unfold State.takeCycleOf
  rw [h]

theorem State.takeCrossing_eq (s : State) (cycle : Nat) (x : Crossing) :
    s.takeCrossing cycle x = (s.abandon { cycle := cycle, fine := x.fine } x.key).crossed cycle x := by
  unfold State.takeCrossing State.crossed
  rw [State.takeCycleOf_congr ((s.abandon_touches { cycle := cycle, fine := x.fine } x.key).time rfl)] <;> rfl

/-- A crossing of a record that is not rising too long runs its row. -/
theorem State.takeCrossing_of_within {s : State} {cycle : Nat} {x : Crossing}
    (h : ∀ i, (s.trackerOf x.key).h1 = some i → (s.trackerOf x.key).state = .rising →
      interval i { cycle := cycle, fine := x.fine } ≤ 65535) : s.takeCrossing cycle x = s.crossed cycle x := by
  rw [s.takeCrossing_eq, State.abandon_of_within h]

theorem State.takeCrossing_of_not_rising {s : State} {x : Crossing} (h : (s.trackerOf x.key).state ≠ .rising) (cycle : Nat) :
    s.takeCrossing cycle x = s.crossed cycle x := by
  rw [s.takeCrossing_eq, State.abandon_of_not_rising h]

theorem State.trackerOf_judgeCapture_ne (s : State) {j k : Nat} (kind : CaptureKind) (value raw : Nat) (h : j ≠ k) :
    (s.judgeCapture k kind value raw).trackerOf j = s.trackerOf j := by
  unfold State.judgeCapture
  split
  · exact s.trackerOf_handKeyEvent_ne _ _ _ h
  · rfl

theorem Touches.trackerOf {b : Blocks} {s t : State} (h : Touches b s t) (hb : b.tracker = false) (j : Nat) :
    t.trackerOf j = s.trackerOf j := State.trackerOf_congr (congrArg CaptureTracker.keys (h.tracker hb)) j

theorem State.trackerOf_routeStrike_ne (s : State) {j k : Nat} (v stamp strike : Nat) (h : j ≠ k) :
    (s.routeStrike k v stamp strike).trackerOf j = s.trackerOf j := by
  unfold State.routeStrike
  split
  · rfl
  · split
    · split
      · exact (State.verify_touches ..).trackerOf rfl j
      · exact (State.measure_touches ..).trackerOf rfl j
    · split
      · dsimp only
        rw [State.trackerOf_judgeCapture_ne _ _ _ _ h, State.trackerOf_setTracker_ne _ _ h]
        exact (s.contend_touches k).trackerOf rfl j
      · split
        · rfl
        · exact s.trackerOf_judgeCapture_ne _ _ _ h

theorem State.trackerOf_endStroke_ne (s : State) (x : Instant) {j k : Nat} (h : j ≠ k) :
    (s.endStroke k x).trackerOf j = s.trackerOf j := by
  have counted : ∀ (t : State) (c : Counter), (t.trackerCount c).trackerOf j = t.trackerOf j := fun t c =>
    (t.trackerCount_touches c).trackerOf rfl j
  have struck : ∀ raw, (s.strokeStruck k raw).trackerOf j = s.trackerOf j := fun raw =>
    ((State.bumpIf_touches _ _ _).trackerOf rfl j).trans (s.trackerOf_setTracker_ne _ h)
  rw [s.endStroke_eq k x _ _ _ _ rfl rfl rfl rfl]
  split
  · rw [counted, State.trackerOf_setTracker_ne _ _ h]
  · split
    · rw [counted, struck]
    · rw [State.trackerOf_routeStrike_ne _ _ _ _ h, struck]

/-- KR out as contention first, then its row (R58, R67). -/
def State.pressed (s : State) (k : Nat) : State :=
  if (s.trackerOf k).state = .atRest then
    s.setTracker k { s.trackerOf k with
      state := .down, h1 := none, sounded := false, owner := if s.underReplay k then .replay else .performer }
  else s

theorem State.krOut_eq (s : State) (k : Nat) :
    s.krOut k =
      if s.taking = true ∧ s.time.mode = .duplex ∧ s.stateOf k = .armed then (s.contend k).pressed k else s.pressed k := by
  have cond : (s.taking && s.time.mode == .duplex && s.stateOf k == .armed) = true ↔
      s.taking = true ∧ s.time.mode = .duplex ∧ s.stateOf k = .armed := by
    simp only [Bool.and_eq_true, beq_iff_eq, and_assoc]
  unfold State.krOut
  dsimp only
  by_cases h : s.taking = true ∧ s.time.mode = .duplex ∧ s.stateOf k = .armed
  · rw [if_pos (cond.mpr h), if_pos h]; rfl
  · rw [if_neg (fun c => h (cond.mp c)), if_neg h]; rfl

theorem State.trackerOf_pressed_ne (s : State) {j k : Nat} (h : j ≠ k) : (s.pressed k).trackerOf j = s.trackerOf j := by
  unfold State.pressed
  split
  · exact State.trackerOf_setTracker_ne _ _ h
  · rfl

theorem State.trackerOf_crossed_ne (s : State) (cycle : Nat) (x : Crossing) {j : Nat} (h : j ≠ x.key) :
    (s.crossed cycle x).trackerOf j = s.trackerOf j := by
  unfold State.crossed
  split
  · rw [State.krOut_eq]
    split
    · rw [State.trackerOf_pressed_ne _ h, (s.contend_touches x.key).trackerOf rfl j]
    · exact s.trackerOf_pressed_ne h
  · unfold State.krIn
    split
    · rfl
    · dsimp only
      rw [State.trackerOf_setTracker_ne _ _ h, State.trackerOf_releaseKey_ne _ _ h]
  · unfold State.kdDown
    dsimp only
    split
    · rw [State.trackerOf_judgeCapture_ne _ _ _ _ h, State.trackerOf_setTracker_ne _ _ h]
    · rfl
  · unfold State.h1Up
    dsimp only
    split
    · exact State.trackerOf_setTracker_ne _ _ h
    · rfl
  · unfold State.h1Down
    dsimp only
    split
    · exact State.trackerOf_setTracker_ne _ _ h
    · rfl
  · unfold State.h2Up
    split
    · exact s.trackerOf_endStroke_ne _ h
    · exact (s.trackerCount_touches _).trackerOf rfl j
    · exact (s.trackerCount_touches _).trackerOf rfl j
    · rfl
  · rfl

/-! ### The row of each crossing -/

/-- Contention leaves its key yielded or faulted (R126, R152). -/
theorem State.contend_state (s : State) {k : Nat} (hk : Keyed k) : (s.contend k).underReplay k = false := by
  rw [s.contend_eq]
  generalize hu : State.setYield _ k _ = u
  have waiting : (u.withdraw k).waitingYield k = true := by
    rw [State.waitingYield, State.yieldOf_congr (congrArg DuplexMonitor.yields ((u.withdraw_touches k).duplex rfl)), ← hu,
      State.yieldOf_setYield_self _ _ hk.1 hk.2]
    rfl
  have state := u.withdraw_state hk
  unfold State.underReplay State.stateOf
  rw [state]
  cases faulted : (u.withdraw k).faulted k with
  | true => rw [State.stateBy126_of_faulted faulted]; rfl
  | false => rw [State.stateBy126_of_waiting faulted waiting]; rfl

theorem State.underReplay_iff (s : State) (k : Nat) :
    s.underReplay k = true ↔ s.stateOf k = .sounding ∨ s.stateOf k = .releasing := by
  simp only [State.underReplay, Bool.or_eq_true, beq_iff_eq]

theorem State.pressed_of_atRest {s : State} {k : Nat} (h : (s.trackerOf k).state = .atRest) :
    s.pressed k = s.setTracker k { s.trackerOf k with
      state := .down, h1 := none, sounded := false,
      owner := if s.stateOf k = .sounding ∨ s.stateOf k = .releasing then .replay else .performer } := by
  rw [State.pressed, if_pos h]
  simp only [s.underReplay_iff]

/-- KR in of a depression that has not sounded (R64). -/
theorem State.krIn_of_silent {s : State} {k : Nat} (rest : (s.trackerOf k).state ≠ .atRest)
    (blind : (s.trackerOf k).state ≠ .blind) (silent : (s.trackerOf k).sounded = false) (stamp : Nat) :
    s.krIn k stamp = s.setTracker k { s.trackerOf k with state := .atRest, h1 := none, owner := .performer } := by
  have released : s.releaseKey k stamp = s := if_neg (by rw [silent]; nofun)
  rw [State.krIn, if_neg (by rintro (h | h); exacts [rest h, blind h])]
  dsimp only
  rw [released]

/-- KR in of one that has: its Release is handed over while a take captures (R64, R68). -/
theorem State.krIn_of_sounded {s : State} {k : Nat} (hk : Keyed k) (rest : (s.trackerOf k).state ≠ .atRest)
    (blind : (s.trackerOf k).state ≠ .blind) (sounded : (s.trackerOf k).sounded = true) (stamp : Nat) :
    (s.krIn k stamp).trackerOf k =
        { state := .atRest, h1 := none, sounded := false, owner := .performer,
          lastStamp := if s.capturing then some ((s.trackerOf k).raised .release stamp) else (s.trackerOf k).lastStamp } ∧
      (s.krIn k stamp).capture = (if s.capturing then s.takeEvent
        { kind := .release, voice := k, stamp := (s.trackerOf k).raised .release stamp, value := 0 } else s).capture := by
  rw [State.krIn, if_neg (by rintro (h | h); exacts [rest h, blind h]), State.releaseKey, if_pos sounded]
  dsimp only
  cases s.capturing with
  | true =>
    rw [if_pos rfl, if_pos rfl, if_pos rfl, State.setTracker_setTracker, State.trackerOf_setTracker_self _ _ hk.1 hk.2,
      State.trackerOf_setTracker_self _ _ hk.1 hk.2, s.handKeyEvent_record hk]
    exact ⟨rfl, s.handKeyEvent_capture k .release 0 stamp⟩
  | false =>
    rw [if_neg nofun, if_neg nofun, if_neg nofun, State.setTracker_setTracker, State.trackerOf_setTracker_self _ _ hk.1 hk.2,
      State.trackerOf_setTracker_self _ _ hk.1 hk.2]
    exact ⟨rfl, rfl⟩

/-- A record that is neither AtRest nor Blind is neither behind an abandonment, and its stroke alone is gone. -/
theorem State.abandon_stroke (s : State) (x : Instant) {k : Nat} (hk : Keyed k) :
    ∃ state h1, s.abandon x k = s.setTracker k { s.trackerOf k with state := state, h1 := h1 } ∧
      (state = .atRest ↔ (s.trackerOf k).state = .atRest) ∧ (state = .blind ↔ (s.trackerOf k).state = .blind) := by
  rcases s.abandon_cases x k with ⟨_, rising, -, -, e⟩ | e
  · refine ⟨.down, none, e, ?_, ?_⟩ <;> rw [rising] <;> exact ⟨nofun, nofun⟩
  · refine ⟨(s.trackerOf k).state, (s.trackerOf k).h1, e.trans ?_, Iff.rfl, Iff.rfl⟩
    unfold State.setTracker State.trackerOf
    rw [setNth_nth _ _ hk.1 hk.2]

/-- The tests of R51 in their order. -/
theorem State.judgeCrossing_eq (s : State) (cycle : Nat) (e : RosterEntry) (x : Crossing) :
    s.judgeCrossing cycle e x =
      if 1 ≤ x.key ∧ x.key ≤ s.keyCount ∧ (s.trackerOf x.key).state = .blind then s
      else if x.key = 0 ∨ s.keyCount < x.key ∨ e.role = .driver ∨ ¬(e.firstKey ≤ x.key ∧ x.key ≤ e.lastKey) then
        s.trackerCount .sensorOrder
      else s.takeCrossing cycle x := by
  unfold State.judgeCrossing RosterEntry.hasKey
  dsimp only
  refine if_congr ?_ rfl (if_congr ?_ rfl rfl)
  · simp only [Bool.and_eq_true, decide_eq_true_eq, beq_iff_eq, and_assoc]
  · simp only [Bool.or_eq_true, Bool.not_eq_true', Bool.and_eq_false_iff, decide_eq_false_iff_not, beq_iff_eq]
    by_cases driver : e.role = .driver
    · simp only [driver, or_true, true_or]
    · simp only [driver, or_false, false_or]
      omega

/-- Settles O26: a crossing is the abandonment test and then its row, the row read off for each gate. -/
theorem crossingsMoveTheRecord : Obligations.CrossingsMoveTheRecord := by
  have row : ∀ {s : State} {cycle : Nat} {x : Crossing}, (s.trackerOf x.key).state ≠ .rising →
      s.takeCrossing cycle x = s.crossed cycle x := fun h => State.takeCrossing_of_not_rising h _
  refine ⟨fun cycle e x s => ⟨fun low high blind => ?_, fun bad => ?_, fun low high seeing role first last => ?_, fun j hj => ?_⟩,
    fun cycle k f stamp r s hk hr hs => ⟨fun rest spared => ?_, fun still taking duplex armed => ?_,
      fun rest blind silent => ?_, fun rest blind sounded => ?_, fun down => ⟨fun captures => ?_, fun not => ?_⟩,
      fun ready => ?_, fun struck => ?_, fun low => ?_⟩,
    fun cycle k f gate back r s hk hr within rows => ?rows,
    fun cycle k x h s hk rising first => ⟨fun past same => ?_, fun past => ?_, fun within => ?_⟩⟩
  · have range : (decide (1 ≤ x.key) && decide (x.key ≤ s.keyCount)) = true := by simp [low, high]
    unfold State.judgeCrossing
    dsimp only
    rw [range, blind]
    rfl
  · rw [s.judgeCrossing_eq]
    rcases bad with zero | above | ⟨seeing, role⟩
    · rw [if_neg (by omega), if_pos (by omega)]
    · rw [if_neg (by omega), if_pos (by omega)]
    · rw [if_neg (fun h => seeing h.2.2)]
      refine if_pos (.inr (.inr ?_))
      rcases role with role | low | high
      · exact .inl role
      · exact .inr (by omega)
      · exact .inr (by omega)
  · rw [s.judgeCrossing_eq, if_neg (fun h => seeing h.2.2), if_neg (by rintro (h | h | h | h) <;> first | omega | exact role h)]
  · rw [s.takeCrossing_eq, State.trackerOf_crossed_ne _ _ _ hj, s.trackerOf_abandon_ne _ hj]
  · rw [row (by rw [hr, rest]; nofun)]
    show s.krOut k = _
    rw [s.krOut_eq, if_neg spared, State.pressed_of_atRest (by rw [hr]; exact rest), hr]
  · have recorded : (s.contend k).trackerOf k = r := ((s.contend_touches k).trackerOf rfl k).trans hr
    rw [row (by rw [hr]; exact still)]
    show s.krOut k = _
    rw [s.krOut_eq, if_pos ⟨taking, duplex, armed⟩, State.pressed, recorded, s.contend_state hk]
    rfl
  · obtain ⟨state, h1, abandoned, restful, blinded⟩ := s.abandon_stroke { cycle := cycle, fine := f } hk
    rw [s.takeCrossing_eq, abandoned]
    show State.krIn _ k _ = _
    have record := s.trackerOf_setTracker_self { s.trackerOf k with state := state, h1 := h1 } hk.1 hk.2
    rw [State.krIn_of_silent (by rw [record]; exact fun h => rest (by rw [← hr]; exact restful.mp h))
      (by rw [record]; exact fun h => blind (by rw [← hr]; exact blinded.mp h)) (by rw [record, hr]; exact silent), record,
      State.setTracker_setTracker, hr]
  · obtain ⟨state, h1, abandoned, restful, blinded⟩ := s.abandon_stroke { cycle := cycle, fine := f } hk
    rw [s.takeCrossing_eq, abandoned]
    have record := s.trackerOf_setTracker_self { s.trackerOf k with state := state, h1 := h1 } hk.1 hk.2
    obtain ⟨left, handed⟩ := State.krIn_of_sounded (s := s.setTracker k _) hk
      (by rw [record]; exact fun h => rest (by rw [← hr]; exact restful.mp h))
      (by rw [record]; exact fun h => blind (by rw [← hr]; exact blinded.mp h)) (by rw [record, hr]; exact sounded) stamp
    have raised : ({ s.trackerOf k with state := state, h1 := h1 } : TrackerRecord).raised .release stamp =
        max stamp ((r.lastStamp.map (· + 1)).getD 0) := by rw [TrackerRecord.raised_release, hr]
    rw [record, raised] at left handed
    refine ⟨_, _, rfl, congrArg (fun t => State.krIn _ k t) hs.symm, ?_, ?_⟩
    · rw [left, hr]; rfl
    · rw [handed]
      show (if s.capturing = true then _ else _ : State).capture = (if s.capturing = true then _ else _ : State).capture
      split
      · exact State.takeEvent_capture_congr (s := s.setTracker k _) (t := s) rfl _
      · rfl
  · have still : (s.trackerOf k).state ≠ .rising := by rw [hr, down]; nofun
    have record := s.trackerOf_setTracker_self { r with state := .silentHeld } hk.1 hk.2
    have held : (s.setTracker k { r with state := .silentHeld }).captures k :=
      (s.captures_setTracker hk (by rw [hr])).mpr captures
    have crossed : s.takeCrossing cycle { key := k, gate := some .kd, back := false, fine := f } =
        (s.setTracker k { r with state := .silentHeld }).handKeyEvent k .silentPress 0 stamp := by
      rw [row still]
      show s.kdDown k _ = _
      rw [State.kdDown]
      dsimp only
      rw [hr, if_pos down, State.judgeCapture_of_captures held, hs]
      rfl
    have raised : ({ r with state := .silentHeld } : TrackerRecord).raised .silentPress stamp =
        max stamp (r.lastStamp.getD 0) := TrackerRecord.raised_other _ (by nofun) stamp
    refine ⟨_, _, rfl, crossed, ?_, ?_⟩
    · rw [State.handKeyEvent_record _ hk, record, raised]
      rfl
    · rw [State.handKeyEvent_capture, record, raised]
      exact State.takeEvent_capture_congr (s := s.setTracker k _) (t := s) rfl _
  · have lets : ¬(s.setTracker k { r with state := .silentHeld }).captures k := fun h =>
      not ((s.captures_setTracker hk (by rw [hr])).mp h)
    rw [row (by rw [hr, down]; nofun)]
    show s.kdDown k _ = _
    rw [State.kdDown]
    dsimp only
    rw [hr, if_pos down, State.judgeCapture_of_not lets]
  · rw [row (by rw [hr]; rcases ready with h | h <;> rw [h] <;> nofun)]
    show s.h1Up k _ = _
    rw [State.h1Up]
    dsimp only
    rw [hr, if_pos ready]
  · rw [row (by rw [hr, struck]; nofun)]
    show s.h1Down k = _
    rw [State.h1Down, hr]
    exact if_pos struck
  · rw [row (by rw [hr]; rcases low with h | h <;> rw [h] <;> nofun)]
    show s.h2Up k _ = _
    rw [State.h2Up, hr]
    rcases low with h | h <;> rw [h]
  case rows =>
    rw [State.takeCrossing_of_within (fun i first rising => within i (by rw [← hr]; exact first) (by rw [← hr]; exact rising))]
    rcases rows with h | ⟨h, b⟩ | ⟨h, b⟩ | ⟨h, b, rest, spared⟩ | ⟨h, b, rest⟩ | ⟨h, b, down⟩ | ⟨h, b, down, checked⟩ |
      ⟨h, b, struck⟩ | ⟨h, b, held⟩
    · rw [h]; cases back <;> rfl
    · rw [h, b]; rfl
    · rw [h, b]; rfl
    · rw [h, b]
      show s.krOut k = s
      rw [s.krOut_eq, if_neg spared]
      exact if_neg (by rw [hr]; exact rest)
    · rw [h, b]; exact if_pos (.inl (by rw [hr]; exact rest))
    · rw [h, b]; exact if_neg (by rw [hr]; exact down)
    · rw [h, b]; exact if_neg (by rw [hr]; rintro (d | c); exacts [down d, checked c])
    · rw [h, b]; exact if_neg (by rw [hr]; exact struck)
    · rw [h, b]
      show s.h2Up k _ = s
      rw [State.h2Up, hr]
      rcases held with e | e | e <;> rw [e]
  · subst same
    rw [s.takeCrossing_eq, State.abandon_of_past rising first past, row]
    rw [s.trackerOf_setTracker_self _ hk.1 hk.2]
    nofun
  · obtain ⟨u, before, after⟩ := s.trackerOf_abandonAll cycle hk
    rw [after, State.abandon_of_past (by rw [before]; exact rising) (by rw [before]; exact first) past,
      u.trackerOf_setTracker_self _ hk.1 hk.2, before]
  · obtain ⟨u, before, after⟩ := s.trackerOf_abandonAll cycle hk
    rw [after, State.abandon_of_within (fun i hi _ => ?_), before]
    rw [before, first] at hi
    cases hi
    exact within

end Sys2Proof.Machine
end

section
/-! PROOFS. Strokes and where their Strikes go (R52 to R56, R60, R66, R68): O27. -/

namespace Sys2Proof.Machine

theorem State.taking_iff (s : State) : s.taking = true ↔ s.time.transport ≠ .stopped := bne_iff_ne

theorem State.windowAt_of_inside {s : State} {k stamp : Nat} {w : Window} (h : s.windowOf k = some w)
    (low : w.start ≤ stamp) (high : stamp ≤ w.stop) : s.windowAt k stamp = some w := by
  rw [State.windowAt, h, Option.filter_some]
  exact if_pos (Bool.and_eq_true_iff.mpr ⟨decide_eq_true low, decide_eq_true high⟩)

theorem State.windowAt_of_outside {s : State} {k stamp : Nat}
    (h : ∀ w, s.windowOf k = some w → (stamp : Int) < w.start ∨ w.stop < stamp) : s.windowAt k stamp = none := by
  refine Option.filter_eq_none_iff.mpr fun w hw spans => ?_
  obtain ⟨low, high⟩ := Bool.and_eq_true_iff.mp spans
  have low := of_decide_eq_true low
  have high := of_decide_eq_true high
  rcases h w hw with before | behind <;> omega

section
variable {s : State} {k : Nat} (v stamp strike : Nat) (taking : s.taking = true)
include taking

theorem State.routeStrike_of_window {w : Window} (h : s.windowAt k stamp = some w) :
    s.routeStrike k v stamp strike =
      match w.holder with
      | .monitor commanded via => s.verify k w commanded via v stamp
      | .sequencer => s.measure k v strike := by
  rw [State.routeStrike, taking, h] <;> rfl

theorem State.routeStrike_of_none (h : s.windowAt k stamp = none) :
    s.routeStrike k v stamp strike =
      if s.time.mode = .duplex ∧ s.stateOf k = .sounding then
        ((s.contend k).setTracker k { (s.contend k).trackerOf k with owner := .performer }).judgeCapture k .strike v stamp
      else if s.time.mode = .replay ∧ s.port.options.verify ∧ s.underReplay k then s.bump .stray
      else s.judgeCapture k .strike v stamp := by
  rw [State.routeStrike, taking, h] <;> rfl

end

/-- A Strike captured: its stamp raised to the key's last (R68). -/
theorem State.handKeyEvent_strike (s : State) {k : Nat} (hk : Keyed k) (v stamp : Nat) :
    (s.handKeyEvent k .strike v stamp).trackerOf k =
        { s.trackerOf k with sounded := true, lastStamp := some (max stamp ((s.trackerOf k).lastStamp.getD 0)) } ∧
      (s.handKeyEvent k .strike v stamp).capture = (s.takeEvent
        { kind := .strike, voice := k, stamp := max stamp ((s.trackerOf k).lastStamp.getD 0), value := v }).capture := by
  have raised : (s.trackerOf k).raised .strike stamp = max stamp ((s.trackerOf k).lastStamp.getD 0) :=
    TrackerRecord.raised_other _ (by nofun) stamp
  rw [← raised, s.handKeyEvent_record hk]
  exact ⟨rfl, s.handKeyEvent_capture k .strike v stamp⟩

/-- Settles O27: the stroke by its interval, and the Strike by the first of its takers. -/
theorem strokesBecomeStrikes : Obligations.StrokesBecomeStrikes := by
  refine ⟨fun cycle k f h t s hk rising first ht short => ?strokes, fun k v stamp strike s hk => ⟨fun stopped => ?_, fun going =>
    ⟨fun w commanded via hw low high => ?_, fun outside => ⟨fun duplex sounding => ?contended, fun replay verify under => ?_,
      fun captures => ?_, fun not sounding stray => ?_⟩⟩⟩⟩
  case strokes =>
    have elapsed : (s.trackerOf k).strokeTime { cycle := cycle, fine := f } = t := by
      rw [TrackerRecord.strokeTime, first, ht]
      rfl
    have ended : s.takeCrossing cycle { key := k, gate := some .h2, back := false, fine := f } =
        s.endStroke k { cycle := cycle, fine := f } := by
      rw [State.takeCrossing_of_within]
      · show s.h2Up k _ = _
        rw [State.h2Up, rising]
      · intro i hi _
        have same : interval i { cycle := cycle, fine := f } = t := by
          rw [← elapsed, TrackerRecord.strokeTime, hi]
        rw [same]
        exact short
    refine ⟨fun zero => ?_, fun n raw v u hn positive hraw hv hu => ⟨fun soft => ?_, fun strike loud hs => ?_⟩⟩
    · rw [ended, s.endStroke_eq k _ t _ _ _ elapsed.symm rfl rfl rfl, if_pos zero]
    all_goals
      have nat : t.toNat = n := by rw [hn]; rfl
      rw [ended, s.endStroke_eq k _ t raw v u elapsed.symm (by rw [nat]; exact hraw) hv hu, if_neg (by omega)]
    · exact if_pos soft
    · have time : u.time = s.time := by rw [hu]; exact (State.bumpIf_touches _ _ _).time rfl
      rw [if_neg (Nat.not_lt.mpr loud), State.takeCycleOf_congr time, strikeOffset, ← hs]
  · exact if_pos (by rw [State.taking, stopped]; rfl)
  · have taking := s.taking_iff.mpr going
    rw [State.routeStrike_of_window v stamp strike taking (State.windowAt_of_inside hw low high)]
    exact ⟨fun holder => by rw [holder], fun holder => by rw [holder]⟩
  all_goals
    have taking := s.taking_iff.mpr going
    rw [State.routeStrike_of_none v stamp strike taking (State.windowAt_of_outside outside)]
  case contended =>
    rw [if_pos ⟨duplex, sounding⟩]
    have touched := s.contend_touches k
    obtain ⟨u, hu⟩ : ∃ u : State, u = (s.contend k).setTracker k { (s.contend k).trackerOf k with owner := .performer } :=
      ⟨_, rfl⟩
    have record : u.trackerOf k = { s.trackerOf k with owner := .performer } := by
      rw [hu, State.trackerOf_setTracker_self _ _ hk.1 hk.2, touched.trackerOf rfl]
    have capture : u.capture = s.capture := by rw [hu]; exact touched.capture rfl
    have captures : u.captures k := by
      have time : u.time = s.time := by rw [hu]; exact touched.time rfl
      refine ⟨?_, fun _ => ⟨by rw [record], ?_⟩⟩
      · rw [State.capturing_congr time, State.capturing, taking, State.captureMode, duplex]
        rfl
      · rw [hu]; exact s.contend_state hk
    rw [← hu, State.judgeCapture_of_captures captures]
    obtain ⟨left, handed⟩ := u.handKeyEvent_strike hk v stamp
    have handing := u.handKeyEvent_touches k .strike v stamp
    rw [record] at left handed
    refine ⟨_, _, rfl, rfl, left, handed.trans (State.takeEvent_capture_congr capture _), ?_, ?_⟩
    · rw [handing.sched rfl, hu]; rfl
    · rw [handing.duplex rfl, hu]; rfl
  · rw [if_neg (by rw [replay]; rintro ⟨h, -⟩; cases h)]
    exact if_pos ⟨replay, verify, (s.underReplay_iff k).mpr under⟩
  · have spared : ¬(s.time.mode = .duplex ∧ s.stateOf k = .sounding) := fun ⟨duplex, sounding⟩ => by
      have under := (s.underReplay_iff k).mpr (.inl sounding)
      rw [(captures.2 duplex).2] at under
      cases under
    have heard : ¬(s.time.mode = .replay ∧ s.port.options.verify = true ∧ s.underReplay k = true) := fun ⟨replay, _⟩ => by
      have mode := (Bool.and_eq_true_iff.mp captures.1).2
      rw [State.captureMode, replay] at mode
      cases mode
    rw [if_neg spared, if_neg heard, State.judgeCapture_of_captures captures]
    obtain ⟨left, handed⟩ := s.handKeyEvent_strike hk v stamp
    have handing := s.handKeyEvent_touches k .strike v stamp
    exact ⟨_, _, rfl, rfl, left, handed, handing.sched rfl, handing.duplex rfl⟩
  · rw [← s.underReplay_iff k] at stray
    rw [if_neg sounding, if_neg stray, State.judgeCapture_of_not not]

end Sys2Proof.Machine
end

section
/-! PROOFS. The hand-over, its losses and its pedals (R22, R51, R61, R69, R73, R74, R153): O28. -/

namespace Sys2Proof.Machine

/-! ### The rest counts at the close (R153) -/

/-- What the rest counts never change. -/
structure Rested (s t : State) : Prop where
  touches : Touches { sched := true, duplex := true } s t
  entries : t.sched.entries = s.sched.entries
  pedals : t.sched.pedals = s.sched.pedals
  windows : t.duplex.windows = s.duplex.windows

theorem Rested.refl (s : State) : Rested s s := ⟨.refl _ s, rfl, rfl, rfl⟩

theorem Rested.trans {s t u : State} (h : Rested s t) (k : Rested t u) : Rested s u :=
  ⟨h.touches.seq k.touches, k.entries.trans h.entries, k.pedals.trans h.pedals, k.windows.trans h.windows⟩

/-- The count of a waiting key that the hand-over shows. -/
def State.restCount (s : State) (k : Nat) : Nat := if (s.trackerOf k).state = .atRest then (s.yieldOf k).rest + 1 else 0

theorem State.restKey_eq (s : State) (readable : Bool) (k : Nat) :
    s.restKey readable k =
      if (s.waitingYield k && readable) = true then
        if (s.setYield k { s.yieldOf k with rest := s.restCount k }).yieldDue k = true
        then (s.setYield k { s.yieldOf k with rest := s.restCount k }).endYield k
        else s.setYield k { s.yieldOf k with rest := s.restCount k }
      else s := rfl

/-- A key's rest count leaves all as it was, or counts, or counts and ends the wait. -/
theorem State.restKey_cases (s : State) (readable : Bool) (k : Nat) :
    s.restKey readable k = s ∨ (∃ y, s.restKey readable k = s.setYield k y) ∨
      ∃ y, s.restKey readable k = (s.setYield k y).endYield k := by
  rw [s.restKey_eq]
  split
  · split
    · exact .inr (.inr ⟨_, rfl⟩)
    · exact .inr (.inl ⟨_, rfl⟩)
  · exact .inl rfl

theorem State.restKey_rested (s : State) (readable : Bool) (k : Nat) : Rested s (s.restKey readable k) := by
  refine ⟨s.restKey_touches readable k, ?_, ?_, ?_⟩
  all_goals rcases s.restKey_cases readable k with e | ⟨y, e⟩ | ⟨y, e⟩ <;> rw [e] <;> rfl

/-- Nothing that the rest count of key k reads or changes has changed. -/
structure SameRest (k : Nat) (s t : State) : Prop where
  yield : t.yieldOf k = s.yieldOf k
  drive : t.driveOf k = s.driveOf k
  rested : Rested s t

theorem SameRest.refl (k : Nat) (s : State) : SameRest k s s := ⟨rfl, rfl, .refl s⟩

theorem SameRest.trans {k : Nat} {s t u : State} (h : SameRest k s t) (g : SameRest k t u) : SameRest k s u :=
  ⟨g.yield.trans h.yield, g.drive.trans h.drive, h.rested.trans g.rested⟩

theorem SameRest.state {k : Nat} {s t : State} (h : SameRest k s t) : t.stateBy126 k = s.stateBy126 k :=
  State.stateBy126_congr (State.faulted_congr (congrArg ActionLink.faults (h.rested.touches.link rfl)) k)
    (by rw [State.waitingYield, h.yield]; rfl) h.drive (by rw [State.armed, h.rested.entries]; rfl)
    (State.now_congr (h.rested.touches.time rfl))

theorem State.restKey_same (s : State) (readable : Bool) {j k : Nat} (h : j ≠ k) : SameRest j s (s.restKey readable k) := by
  have ended : ∀ t : State, (t.endYield k).yieldOf j = t.yieldOf j ∧ (t.endYield k).driveOf j = t.driveOf j := fun t =>
    ⟨t.yieldOf_setYield_ne _ h, State.driveOf_redecide_ne _ h⟩
  have kept := s.restKey_rested readable k
  rcases s.restKey_cases readable k with e | ⟨y, e⟩ | ⟨y, e⟩ <;> rw [e] at kept ⊢
  · exact ⟨rfl, rfl, kept⟩
  · exact ⟨s.yieldOf_setYield_ne y h, rfl, kept⟩
  · exact ⟨(ended _).1.trans (s.yieldOf_setYield_ne y h), (ended _).2, kept⟩

theorem State.restKey_idle {s : State} {readable : Bool} {k : Nat}
    (h : (s.yieldOf k).requirement = none ∨ readable = false) : s.restKey readable k = s := by
  refine if_neg fun both => ?_
  obtain ⟨waiting, seen⟩ := Bool.and_eq_true_iff.mp both
  rcases h with free | unseen
  · rw [State.waitingYield, free] at waiting; cases waiting
  · rw [unseen] at seen; cases seen

theorem State.restKey_waiting {s : State} {k y : Nat} (hk : Keyed k) (h : (s.yieldOf k).requirement = some y) :
    s.restKey true k =
      if y ≤ s.restCount k then (s.setYield k { s.yieldOf k with rest := s.restCount k }).endYield k
      else s.setYield k { s.yieldOf k with rest := s.restCount k } := by
  have waiting : s.waitingYield k = true := by rw [State.waitingYield, h]; rfl
  have due : (s.setYield k { s.yieldOf k with rest := s.restCount k }).yieldDue k = decide (y ≤ s.restCount k) := by
    rw [State.yieldDue, s.yieldOf_setYield_self _ hk.1 hk.2, h]
  rw [s.restKey_eq, waiting, due]
  exact (if_pos rfl).trans (if_congr decide_eq_true_iff rfl rfl)

theorem State.readable_iff (s : State) (sections : Vector (Option SectionReport) 8) (k : Nat) :
    s.readable sections k = true ↔ ∃ n e x, s.sensorOf k = some n ∧ s.stationOf n = some e ∧ e.present = true ∧
      sectionOf sections n = some x ∧ x.lost = false := by
  unfold State.readable State.sensed
  cases s.sensorOf k with
  | none => simp
  | some n =>
    simp only [Option.bind_some, Bool.and_eq_true, Option.any_eq_true, Bool.not_eq_true', Option.some.injEq]
    exact ⟨fun ⟨⟨e, he, present⟩, x, hx, kept⟩ => ⟨n, e, x, rfl, he, present, hx, kept⟩,
      fun ⟨_, e, x, same, he, present, hx, kept⟩ => same ▸ ⟨⟨e, he, present⟩, x, hx, kept⟩⟩

theorem State.readable_congr {s t : State} (h : t.link = s.link) (sections : Vector (Option SectionReport) 8) (k : Nat) :
    t.readable sections k = s.readable sections k := by
  have roster := congrArg ActionLink.roster h
  unfold State.readable State.sensed
  simp only [State.sensorOf_congr roster, State.stationOf_congr roster]

/-- The rest counts of every key. -/
def State.restKeys (s : State) (sections : Vector (Option SectionReport) 8) (keys : List Nat) : State :=
  keys.foldl (fun s k => s.restKey (s.readable sections k) k) s

theorem State.restKeys_rested (s : State) (sections : Vector (Option SectionReport) 8) (keys : List Nat) :
    Rested s (s.restKeys sections keys) := by
  unfold State.restKeys
  induction keys generalizing s with
  | nil => exact .refl s
  | cons k keys ih => exact (s.restKey_rested _ k).trans (ih _)

/-- For each key the count is made once, between those of the others. -/
theorem State.restKeys_at (s : State) (sections : Vector (Option SectionReport) 8) {k : Nat} (hk : Keyed k) :
    ∃ u : State, SameRest k s u ∧ SameRest k (u.restKey (s.readable sections k) k) (s.restKeys sections allKeys) := by
  obtain ⟨u, before, after⟩ := foldl_at (f := fun s k => State.restKey s (s.readable sections k) k) (R := SameRest k)
    (SameRest.refl k) (fun h g => h.trans g) (fun t j h => t.restKey_same _ (Ne.symm h)) (mem_allKeys.mpr hk) nodup_allKeys s
  rw [State.readable_congr (before.rested.touches.link rfl)] at after
  exact ⟨u, before, after⟩

/-! ### The folds of a hand-over (R51) -/

theorem foldl_filter_eq {α β : Type} (p : α → Bool) (f : β → α → β) (l : List α) (b : β) :
    (l.filter p).foldl f b = l.foldl (fun b a => if p a then f b a else b) b := List.foldl_filter

theorem State.takeSection_eq (s : State) (cycle : Nat) (sections : Vector (Option SectionReport) 8) (x : Nat × RosterEntry) :
    s.takeSection cycle sections x =
      (((sectionOf sections x.1).map (fun y => y.crossings)).getD []).foldl (fun u y => u.judgeCrossing cycle x.2 y) s := by
  unfold State.takeSection
  cases sectionOf sections x.1 <;> rfl

theorem State.takeFlag_eq (s : State) (sections : Vector (Option SectionReport) 8) (x : Nat × RosterEntry) :
    s.takeFlag sections x =
      if (x.2.role != .driver) = true then
        if ((sectionOf sections x.1).all (fun y => y.lost)) = true then s.trackerCount .crossingsLost else s
      else s := by
  unfold State.takeFlag
  cases sectionOf sections x.1 <;> rfl

theorem State.takePedals_eq (s : State) (cycle : Nat) (sections : Vector (Option SectionReport) 8) (x : Nat × RosterEntry) :
    s.takePedals cycle sections x =
      if (x.2.role != .driver) = true then
        ((allPedals.filter x.2.hasPedal).zip (((sectionOf sections x.1).map (fun y => y.pedals)).getD [])).foldl
          (fun u p => u.takePedal cycle p.1 p.2) s
      else s := by
  unfold State.takePedals
  cases sectionOf sections x.1 with
  | none =>
    show (if _ then s else s) = if _ then List.foldl _ s (List.zip _ []) else s
    rw [List.zip_nil_right]
    rfl
  | some y => rfl

theorem State.handOver_eq (s : State) (cycle : Nat) (sections : Vector (Option SectionReport) 8) :
    s.handOver cycle sections =
      ((s.presentStations.foldl (fun s b => s.takePedals cycle sections b)
        (s.presentStations.foldl (fun s b => s.takeFlag sections b)
          (s.presentStations.foldl (fun s b => s.takeSection cycle sections b) s))).abandonAll cycle).restKeys sections
        allKeys := by
  unfold State.handOver State.restKeys
  rfl

/-! ### The abandonment check (R61) -/

theorem State.abandons_pedals (s : State) (x : Instant) (keys : List Nat) :
    (keys.foldl (fun s k => State.abandon s x k) s).tracker.pedals = s.tracker.pedals := by
  induction keys generalizing s with
  | nil => rfl
  | cons k keys ih =>
    refine (ih (s.abandon x k)).trans ?_
    rcases s.abandon_cases x k with ⟨_, -, -, -, e⟩ | e <;> rw [e]
    rfl

theorem State.trackerOf_of_not_keyed (s : State) {k : Nat} (h : ¬Keyed k) : s.trackerOf k = TrackerRecord.initial := by
  unfold Keyed at h
  rcases Nat.eq_zero_or_pos k with rfl | low
  · exact nth_zero _ _
  · exact nth_above _ _ (by omega)

/-! ### Pedals (R73, R74) -/

theorem pedalPosition_bounds {e : PedalSense} {raw : Nat} (low : e.rawMin < raw) (high : raw < e.rawMax) :
    pedalPosition e raw = (raw - e.rawMin) * 255 / (e.rawMax - e.rawMin) ∧ pedalPosition e raw ≤ 254 := by
  have read : pedalPosition e raw = (raw - e.rawMin) * 255 / (e.rawMax - e.rawMin) := by
    rw [pedalPosition, if_neg (by omega), if_neg (by omega)]
  refine ⟨read, ?_⟩
  have below : (raw - e.rawMin) * 255 < 255 * (e.rawMax - e.rawMin) := by omega
  rw [read]
  exact Nat.le_of_lt_succ ((Nat.div_lt_iff_lt_mul (by omega)).mpr below)

theorem pedalMoved_iff (e : PedalSense) (last : Option Nat) (p : Nat) :
    pedalMoved e last p = true ↔ ∀ l, last = some l →
      l + e.deadband ≤ p ∨ p + e.deadband ≤ l ∨ ((p = 0 ∨ p = 255) ∧ p ≠ l) := by
  unfold pedalMoved
  cases last with
  | none => simp
  | some l => simp [or_assoc]

theorem State.pedalFree_iff (s : State) (q : Nat) : s.pedalFree q = true ↔ ∀ l, (s.pedalDriveOf q).level = some l → l = 0 := by
  unfold State.pedalFree
  cases (s.pedalDriveOf q).level <;> simp

theorem State.setPedal_setPedal (s : State) (q : Nat) (r p : PedalCapture) : (s.setPedal q r).setPedal q p = s.setPedal q p := by
  unfold State.setPedal
  dsimp only
  rw [setNth_setNth]

theorem State.takePedal_eq (s : State) {q : Nat} (low : 1 ≤ q) (high : q ≤ 3) (cycle raw : Nat) :
    s.takePedal cycle q raw =
      if pedalMoved (s.pedalSense q) (s.pedalOf q).lastEmitted (pedalPosition (s.pedalSense q) raw) = true ∧
          s.capturing = true ∧ (s.time.mode = .duplex → s.pedalFree q = true) then
        (s.setPedal q { position := pedalPosition (s.pedalSense q) raw,
                        lastEmitted := some (pedalPosition (s.pedalSense q) raw) }).takeEvent
          { kind := .pedal, voice := 119 + q, stamp := 20 * s.takeCycleOf cycle,
            value := pedalPosition (s.pedalSense q) raw }
      else s.setPedal q { s.pedalOf q with position := pedalPosition (s.pedalSense q) raw } := by
  unfold State.takePedal
  dsimp only
  refine if_congr ?_ ?_ rfl
  · show (pedalMoved _ _ _ && s.capturing && (s.time.mode != .duplex || s.pedalFree q)) = true ↔ _
    rw [Bool.and_eq_true, Bool.and_eq_true, Bool.or_eq_true, bne_iff_ne, and_assoc, ← imp_iff_not_or]
  · rw [State.setPedal_setPedal, s.pedalOf_setPedal_self _ low high]
    rfl

/-- Settles O28: the folds of a hand-over as the statement writes them, and each key's rest count between those of the others. -/
theorem handOversAreTakenInOrder : Obligations.HandOversAreTakenInOrder := by
  refine ⟨fun cycle sections stations sensing s a b c d t hs hsense ha hb hc hd ht => ?_,
    fun cycle k s t ht => ?_, fun cycle q raw p e s low high he wide hp => ?_⟩
  · have present : stations = s.presentStations := hs
    have ha' : a = s.presentStations.foldl (fun s b => s.takeSection cycle sections b) s := by
      rw [ha, present]
      simp only [State.takeSection_eq]
    have hb' : b = s.presentStations.foldl (fun s b => s.takeFlag sections b) a := by
      rw [hb, hsense, present]
      simp only [foldl_filter_eq, State.takeFlag_eq]
    have hc' : c = s.presentStations.foldl (fun s b => s.takePedals cycle sections b) b := by
      rw [hc, hsense, present]
      simp only [foldl_filter_eq, State.takePedals_eq]
    have rest : t = d.restKeys sections allKeys := by rw [ht, s.handOver_eq, ← ha', ← hb', ← hc', ← hd]
    have rested := d.restKeys_rested sections allKeys
    rw [← rest] at rested
    refine ⟨rested.touches, rested.entries, rested.pedals, rested.windows, fun k seen hk hseen => ?_, ?_⟩
    · obtain ⟨u, before, after⟩ := d.restKeys_at sections hk
      rw [← rest] at after
      have shown : d.readable sections k = true ↔ seen := (d.readable_iff sections k).trans hseen.symm
      refine ⟨fun idle => ?_, fun y hy positive there => ?_⟩
      · have kept : u.restKey (d.readable sections k) k = u := State.restKey_idle (idle.imp
          (fun free => by rw [before.yield]; exact free)
          (fun unseen => Bool.eq_false_iff.mpr fun h => unseen (shown.mp h)))
        rw [kept] at after
        exact ⟨after.yield.trans before.yield, after.drive.trans before.drive⟩
      · have tracker : u.trackerOf k = d.trackerOf k := before.rested.touches.trackerOf rfl k
        have count : u.restCount k = d.restCount k := by rw [State.restCount, tracker, before.yield]; rfl
        rw [shown.mpr there, State.restKey_waiting hk (by rw [before.yield]; exact hy), count, before.yield] at after
        have counting : ∀ n, n < y → d.restCount k = n →
            t.yieldOf k = { d.yieldOf k with rest := n } ∧ t.driveOf k = d.driveOf k := fun n short hn => by
          rw [hn, if_neg (Nat.not_le.mpr short)] at after
          exact ⟨after.yield.trans (u.yieldOf_setYield_self _ hk.1 hk.2), after.drive.trans before.drive⟩
        refine ⟨fun moving => counting 0 positive (if_neg moving), fun still short => counting _ short (if_pos still),
          fun still served => ?_⟩
        rw [State.restCount, if_pos still, if_pos served] at after
        obtain ⟨yields, -, -⟩ := (u.setYield k { d.yieldOf k with rest := (d.yieldOf k).rest + 1 }).endYield_keys hk
        rw [u.yieldOf_setYield_self _ hk.1 hk.2] at yields
        refine ⟨after.yield.trans yields, after.drive.trans ?_⟩
        rw [after.state, State.endYield, State.driveOf_redecide _ hk]
        show ({ u.driveOf k with state := _ } : KeyDrive) = _
        rw [before.drive]
    · rw [hsense, present]
      unfold State.handOverLost
      simp only [foldl_filter_eq]
      rfl
  · have counted : t = if s.capturing then (s.bump .crossingsLost).summarise
        (fun x => { x with lost := countUp x.lost, incomplete := true }) else s.bump .crossingsLost := ht
    have port : t.port = (s.bump .crossingsLost).port := by
      rw [counted]
      split
      · exact (State.summarise_touches _ _).port rfl
      · rfl
    refine ⟨?_, fun n hn => ?_, ?_, ?_, ht ▸ s.trackerCount_touches _, s.abandonAll_touches cycle, ?_, fun spared => ?_⟩
    · rw [State.count_congr (congrArg ScorePort.counters port)]
      exact s.count_bump_self _
    · rw [State.count_congr (congrArg ScorePort.counters port)]
      exact s.count_bump_ne hn
    · rw [counted]
      split
      · unfold State.summarise
        split <;> rfl
      · rfl
    · rw [counted]
      unfold State.summarise
      by_cases on : s.capturing = true <;> by_cases opened : s.capture.summary.takeOpen = true <;> simp [on, opened]
    · unfold State.abandonAll
      exact s.abandons_pedals _ allKeys
    · by_cases hk : Keyed k
      · obtain ⟨u, before, after⟩ := s.trackerOf_abandonAll cycle hk
        rw [after, State.abandon_of_within (fun i hi rising => ?_), before]
        rw [before] at hi rising
        rcases spared with still | none
        · exact absurd rising still
        · rw [none] at hi; cases hi
      · rw [State.trackerOf_of_not_keyed _ hk, State.trackerOf_of_not_keyed _ hk]
  · obtain rfl : e = s.pedalSense q := he.symm
    obtain rfl := hp
    refine ⟨fun h => if_pos h, fun h => ?_, fun low high => pedalPosition_bounds low high, fun moved hm => ?_⟩
    · rw [pedalPosition, if_neg (by omega), if_pos h]
    · have moves := pedalMoved_iff (s.pedalSense q) (s.pedalOf q).lastEmitted (pedalPosition (s.pedalSense q) raw)
      refine ⟨fun hmoved capturing free => ?_, fun still => ?_⟩
      · rw [s.takePedal_eq low high, if_pos ⟨moves.mpr (hm.mp hmoved), capturing, fun d => (s.pedalFree_iff q).mpr (free d)⟩]
        refine ⟨_, rfl, ?_, fun r hr => ?_, ?_, State.takeEvent_capture_congr (s := s.setPedal q _) (t := s) rfl _⟩
        · rw [State.pedalOf_congr (congrArg CaptureTracker.pedals ((State.takeEvent_touches _ _).tracker rfl))]
          exact s.pedalOf_setPedal_self _ low high
        · rw [State.pedalOf_congr (congrArg CaptureTracker.pedals ((State.takeEvent_touches _ _).tracker rfl))]
          exact s.pedalOf_setPedal_ne _ hr
        · rw [(State.takeEvent_touches _ _).tracker rfl]; rfl
      · rw [s.takePedal_eq low high, if_neg]
        rintro ⟨hmoved, capturing, free⟩
        exact still ⟨hm.mpr (moves.mp hmoved), capturing, fun d => (s.pedalFree_iff q).mp (free d)⟩

end Sys2Proof.Machine
end

section
/-! PROOFS. The Capture Queue's insertion, release and flush (R76, R77, R80 to R82): O29. -/

namespace Sys2Proof.Machine

/-! ### Insertion (R76, R80) -/

/-- Of a list with an element of a property the last one leaves. -/
theorem dropLastThat_eq {p : CaptureEvent → Bool} {l : List CaptureEvent} (h : ∃ x ∈ l, p x = true) :
    ∃ before x behind, l = before ++ x :: behind ∧ p x = true ∧ (∀ y ∈ behind, ¬p y = true) ∧
      dropLastThat p l = before ++ behind := by
  obtain ⟨a, ha, pa⟩ := h
  obtain ⟨x, behind, before, spared, px, split, dropped⟩ := List.exists_of_eraseP (List.mem_reverse.mpr ha) pa
  refine ⟨before.reverse, x, behind.reverse, ?_, px, fun y hy => spared y (List.mem_reverse.mp hy), ?_⟩
  · rw [← List.reverse_reverse l, split]
    simp
  · rw [dropLastThat, dropped, List.reverse_append]

theorem CaptureEvent.pedalOf_iff (voice : Nat) (x : CaptureEvent) :
    x.pedalOf voice = true ↔ x.kind = .pedal ∧ x.voice = voice := by
  simp only [CaptureEvent.pedalOf, Bool.and_eq_true, beq_iff_eq]

theorem State.markGap_of_other (s : State) {e : CaptureEvent} (h : e.kind ≠ .linkGap) : s.markGap e = s := if_neg h

theorem State.markGap_events (s : State) (e : CaptureEvent) : (s.markGap e).capture.events = s.capture.events := by
  unfold State.markGap State.summarise
  split
  · split <;> rfl
  · rfl

theorem State.summarise_summary {s : State} (h : s.capture.summary.takeOpen = true) (f : TakeSummary → TakeSummary) :
    (s.summarise f).capture.summary = f s.capture.summary := by
  rw [State.summarise, if_pos h]

theorem State.summarise_events (s : State) (f : TakeSummary → TakeSummary) :
    (s.summarise f).capture.events = s.capture.events := by
  unfold State.summarise
  split <;> rfl

theorem State.takeEvent_of_room {s : State} (h : s.capture.events.length < 256) (e : CaptureEvent) :
    s.takeEvent e = (s.setEvents (insertEvent e s.capture.events)).markGap e := if_pos h

/-- At a full queue a Pedal event takes the place of the last one of its voice (R76). -/
theorem State.takeEvent_of_pedal {s : State} {e : CaptureEvent} (full : ¬s.capture.events.length < 256) (kind : e.kind = .pedal)
    (held : ∃ x ∈ s.capture.events, x.pedalOf e.voice = true) :
    s.takeEvent e = s.setEvents (insertEvent e (dropLastThat (CaptureEvent.pedalOf e.voice) s.capture.events)) := by
  rw [State.takeEvent, if_neg full]
  exact if_pos ⟨kind, List.any_eq_true.mpr held⟩

/-- Every other event is dropped, counted and marks the take (R76, R80). -/
theorem State.takeEvent_of_full {s : State} {e : CaptureEvent} (full : ¬s.capture.events.length < 256)
    (other : ¬(e.kind = .pedal ∧ ∃ x ∈ s.capture.events, x.pedalOf e.voice = true)) :
    s.takeEvent e =
      ((s.bump .captureOverflow).summarise (fun t => { t with overflow := countUp t.overflow, incomplete := true })).markGap e := by
  rw [State.takeEvent, if_neg full]
  exact if_neg fun both => other ⟨both.1, List.any_eq_true.mp both.2⟩

/-! ### The release of a cycle start (R77) -/

theorem State.sendEvents_time (s : State) (n : Nat) : (s.sendEvents n).time = s.time := (State.hand_touches _ _).time rfl

/-- The events at the head that have settled. -/
def State.settled (s : State) : List CaptureEvent :=
  s.capture.events.takeWhile (fun e => decide (e.stamp + 50 ≤ 20 * s.takeCycle))

theorem State.settledCount_eq (s : State) : s.settledCount = s.settled.length := rfl

theorem takeWhile_drop_of_le {α : Type} (p : α → Bool) {l : List α} {n : Nat} (h : n ≤ (l.takeWhile p).length) :
    (l.drop n).takeWhile p = (l.takeWhile p).drop n := by
  induction l generalizing n with
  | nil => simp
  | cons a l ih =>
    cases n with
    | zero => rfl
    | succ n =>
      by_cases ha : p a = true
      · rw [List.takeWhile_cons_of_pos ha] at h ⊢
        exact ih (Nat.le_of_succ_le_succ h)
      · rw [List.takeWhile_cons_of_neg ha] at h
        cases h

theorem take_of_takeWhile {α : Type} (p : α → Bool) {l : List α} {n : Nat} (h : n ≤ (l.takeWhile p).length) :
    l.take n = (l.takeWhile p).take n := by
  rw [← List.take_append_of_le_length (l₂ := l.dropWhile p) h, List.takeWhile_append_dropWhile]

/-- What the release has done when it leaves some frames: the settled events from the head, until none is left or the
transmit queue holds 48 frames (R77, R171). -/
structure Released (s t : State) (frames : List (List CaptureEvent)) : Prop where
  packed : packed frames
  settled : frames.flatten <+: s.settled
  events : t.capture.events = s.capture.events.drop frames.flatten.length
  summary : t.capture.summary = frames.flatten.foldl TakeSummary.sent s.capture.summary
  port : t.port = { s.port with
    queue := s.port.queue ++ frames.map Upstream.capture
    line := if frames ≠ [] ∧ s.port.line = none ∧ s.port.restart ≠ .due then some (64 - s.intake.length) else s.port.line }
  full : frames.flatten = s.settled ∨ 48 ≤ t.queued
  touches : Touches { capture := true, port := true } s t

theorem Released.stop {s : State} (h : s.settled = [] ∨ 48 ≤ s.queued) : Released s s [] where
  packed := nofun
  settled := List.nil_prefix
  events := rfl
  summary := rfl
  port := by simp
  full := h.imp Eq.symm id
  touches := .refl _ s

/-- One frame of settled events, then the rest. -/
theorem Released.cons {s t : State} {n : Nat} {frames : List (List CaptureEvent)} (positive : 1 ≤ n) (small : n ≤ 30)
    (few : n ≤ s.settled.length) (h : Released (s.sendEvents n) t frames) :
    Released s t (s.capture.events.take n :: frames) := by
  have chunk : s.capture.events.take n = s.settled.take n := take_of_takeWhile _ few
  have length : (s.capture.events.take n).length = n := by rw [chunk, List.length_take]; omega
  have sent := State.hand_touches { s with capture :=
    { events := s.capture.events.drop n
      summary := (s.capture.events.take n).foldl TakeSummary.sent s.capture.summary } } (.capture (s.capture.events.take n))
  have left : (s.sendEvents n).settled = s.settled.drop n := by
    unfold State.settled State.takeCycle
    rw [s.sendEvents_capture, State.takeCycleOf_congr (s.sendEvents_time n), s.sendEvents_time]
    exact takeWhile_drop_of_le _ few
  have port : (s.sendEvents n).port = { s.port with
      queue := s.port.queue ++ [.capture (s.capture.events.take n)]
      line := if s.port.line = none ∧ s.port.restart ≠ .due then some (64 - s.intake.length) else s.port.line } :=
    congrArg State.port (State.hand_eq _ _)
  have intake : (s.sendEvents n).intake = s.intake := sent.intake rfl
  refine ⟨?_, ?_, ?_, ?_, ?_, ?_, ?_⟩
  · intro l hl
    rcases List.mem_cons.mp hl with rfl | hl
    · rw [length]; exact ⟨positive, small⟩
    · exact h.packed l hl
  · rw [List.flatten_cons, chunk]
    have tail := h.settled
    rw [left] at tail
    have whole := (List.prefix_append_right_inj (s.settled.take n)).mpr tail
    rwa [List.take_append_drop] at whole
  · rw [h.events, s.sendEvents_capture, List.flatten_cons, List.length_append, length, List.drop_drop]
  · rw [h.summary, s.sendEvents_capture, List.flatten_cons, List.foldl_append]
  · rw [h.port, port, intake]
    dsimp only
    by_cases free : s.port.line = .none ∧ s.port.restart ≠ .due
    · rw [if_pos free, if_neg (by nofun), if_pos ⟨by nofun, free⟩, List.append_assoc]
      rfl
    · rw [if_neg free, if_neg (fun both => free both.2), if_neg (fun both => free both.2), List.append_assoc]
      rfl
  · refine h.full.imp_left fun whole => ?_
    rw [List.flatten_cons, whole, left, chunk, List.take_append_drop]
  · exact (((Touches.refl _ s).on_capture rfl).seq (sent.mono rfl)).seq h.touches

theorem State.releaseFrames_released (fuel : Nat) (s : State) (h : s.settled.length ≤ fuel) :
    ∃ frames, Released s (State.releaseFrames fuel s) frames := by
  induction fuel generalizing s with
  | zero => exact ⟨[], .stop (.inl (List.eq_nil_of_length_eq_zero (Nat.le_zero.mp h)))⟩
  | succ fuel ih =>
    unfold State.releaseFrames
    dsimp only
    rw [s.settledCount_eq]
    split
    · next none => exact ⟨[], .stop (.inl (List.eq_nil_of_length_eq_zero (by omega)))⟩
    · next some =>
      split
      · have few : min 30 s.settled.length ≤ s.settled.length := Nat.min_le_right ..
        obtain ⟨frames, released⟩ := ih (s.sendEvents (min 30 s.settled.length)) (by
          unfold State.settled State.takeCycle at *
          rw [s.sendEvents_capture, State.takeCycleOf_congr (s.sendEvents_time _), s.sendEvents_time, takeWhile_drop_of_le _ few,
            List.length_drop]
          omega)
        exact ⟨_, .cons (by omega) (Nat.min_le_left ..) few released⟩
      · next full => exact ⟨[], .stop (.inr (Nat.not_lt.mp full))⟩

/-- The release never fills the transmit queue beyond 48 frames (R171). -/
theorem State.releaseFrames_queued (fuel : Nat) (s : State) : (State.releaseFrames fuel s).queued ≤ max 48 s.queued := by
  induction fuel generalizing s with
  | zero => exact Nat.le_max_right ..
  | succ fuel ih =>
    unfold State.releaseFrames
    dsimp only
    split
    · exact Nat.le_max_right ..
    · split
      · next room =>
        refine (ih _).trans ?_
        have one : (s.sendEvents (min 30 s.settledCount)).queued = s.queued + 1 := by
          rw [State.queued, s.sendEvents_queue, List.length_append]
          rfl
        omega
      · exact Nat.le_max_right ..

theorem State.releaseFrames_of_full {s : State} (h : 48 ≤ s.queued) (fuel : Nat) : State.releaseFrames fuel s = s := by
  cases fuel with
  | zero => rfl
  | succ fuel =>
    unfold State.releaseFrames
    dsimp only
    split
    · rfl
    · exact if_neg (Nat.not_lt.mpr h)

/-- Settles O29: the cases of an insertion; the release by the frames it leaves, one after the other. -/
theorem theCaptureQueueHoldsAndSends : Obligations.TheCaptureQueueHoldsAndSends := by
  refine ⟨fun e s => ⟨fun room => ?_, fun full => ⟨fun pedal held => ?_, fun other => ?_⟩⟩,
    fun s => ⟨fun stopped => ?_, fun full => ?_, ?_, fun going => ?_, fun down recovery waiting left job => ?_⟩,
    fun cause s => ⟨s.flush_flushed cause, s.flush_touches cause⟩⟩
  · rw [State.takeEvent_of_room room]
    refine ⟨State.markGap_events _ _, fun other => by rw [State.markGap_of_other _ other]; rfl, fun gap opened => ?_⟩
    rw [State.markGap, if_pos gap]
    exact State.summarise_summary (s := s.setEvents (insertEvent e s.capture.events)) opened _
  · obtain ⟨x, hx, kind, voice⟩ := held
    have there : ∃ y ∈ s.capture.events, y.pedalOf e.voice = true := ⟨x, hx, (x.pedalOf_iff e.voice).mpr ⟨kind, voice⟩⟩
    obtain ⟨before, y, behind, split, py, spared, dropped⟩ := dropLastThat_eq there
    obtain ⟨pedal', voice'⟩ := (y.pedalOf_iff e.voice).mp py
    refine ⟨before, y, behind, split, pedal', voice', fun z hz both => spared z hz ((z.pedalOf_iff e.voice).mpr both), ?_⟩
    rw [State.takeEvent_of_pedal (Nat.not_lt.mpr full) pedal there, dropped]
  · have dropped : ¬(e.kind = .pedal ∧ ∃ x ∈ s.capture.events, x.pedalOf e.voice = true) := by
      rintro ⟨pedal, x, hx, px⟩
      rcases other with kind | none
      · exact kind pedal
      · exact none x hx ((x.pedalOf_iff e.voice).mp px)
    rw [State.takeEvent_of_full (Nat.not_lt.mpr full) dropped]
    have marking := State.markGap_touches ((s.bump .captureOverflow).summarise
      (fun t => { t with overflow := countUp t.overflow, incomplete := true })) e
    have summed := (s.bump .captureOverflow).summarise_touches
      (fun t => { t with overflow := countUp t.overflow, incomplete := true })
    refine ⟨?_, ?_, fun opened => ?_⟩
    · rw [State.markGap_events, State.summarise_events]; rfl
    · rw [State.count_congr (congrArg ScorePort.counters ((marking.port rfl).trans (summed.port rfl)))]
      exact s.count_bump_self _
    · have counted := State.summarise_summary (s := s.bump .captureOverflow) opened
        (fun t => { t with overflow := countUp t.overflow, incomplete := true })
      unfold State.markGap
      split
      · rw [State.summarise_summary (by rw [counted]; exact opened), counted]
        rfl
      · exact counted
  · exact if_neg (by rw [State.taking, stopped]; nofun)
  · unfold State.captureRelease
    split
    · exact State.releaseFrames_of_full full _
    · rfl
  · unfold State.captureRelease
    split
    · exact State.releaseFrames_queued _ s
    · exact Nat.le_max_right ..
  · obtain ⟨frames, released⟩ := State.releaseFrames_released s.capture.events.length s (List.takeWhile_sublist _).length_le
    have same : s.captureRelease = State.releaseFrames s.capture.events.length s := if_pos (s.taking_iff.mpr going)
    rw [same]
    exact ⟨frames, released.packed, released.settled, released.events, released.summary, released.port, released.full,
      released.touches⟩
  · have frame : s.advanceCycle.buildFrame = s.advanceCycle := if_pos down
    have waits : s.strikeWaits = false := by simp [State.strikeWaits, job]
    refine congrArg Host.Outcome.next ((State.cycleStart_nil_of_quiet left waiting).trans ?_)
    rw [waits, frame, if_neg (by decide)]
    simp only [State.advanceCycle, recovery, left, if_true, Option.map_none, cycleModulus]
    rw [← left, ← recovery]

end Sys2Proof.Machine
end

section
/-! PROOFS. The Replay Intake and the Table Walker (R86, R97 to R100, R121, R122, R133): O44, O39, O43. -/

namespace Sys2Proof.Machine

/-! ### Records handed over (R121) -/

/-- Records taken one by one: the intake fills up to 64, each further one counts. -/
theorem State.takeRecords_intake (records : List EventRecord) (s : State) (few : s.intake.length ≤ 64)
    (room : s.count .intakeOverrun + records.length ≤ 65535) :
    (records.foldl State.takeRecord s).intake = s.intake ++ records.take (64 - s.intake.length) ∧
      (records.foldl State.takeRecord s).count .intakeOverrun =
        s.count .intakeOverrun + (records.length - (64 - s.intake.length)) ∧
      ∀ c, c ≠ .intakeOverrun → (records.foldl State.takeRecord s).count c = s.count c := by
  induction records generalizing s with
  | nil => simp
  | cons r records ih =>
    rw [List.length_cons] at room
    rw [List.foldl_cons]
    by_cases free : s.intake.length < 64
    · have taken : s.takeRecord r = { s with intake := s.intake ++ [r] } := if_pos free
      obtain ⟨intake, overrun, others⟩ := ih (s.takeRecord r)
        (by rw [taken]; show (s.intake ++ [r]).length ≤ 64; rw [List.length_append]; exact free)
        (by rw [taken]; show s.count .intakeOverrun + _ ≤ _; omega)
      have held : (s.takeRecord r).intake.length = s.intake.length + 1 := by rw [taken]; exact List.length_append
      obtain ⟨left, hl⟩ : ∃ left, 64 - s.intake.length = left + 1 := ⟨63 - s.intake.length, by omega⟩
      have less : 64 - (s.intake.length + 1) = left := by omega
      rw [held, less] at intake overrun
      refine ⟨?_, ?_, fun c hc => (others c hc).trans (by rw [taken]; rfl)⟩
      · rw [intake, hl, List.take_succ_cons, taken, List.append_assoc]
        rfl
      · rw [overrun, hl, List.length_cons, Nat.add_sub_add_right, taken]
        rfl
    · have full : 64 - s.intake.length = 0 := by omega
      have taken : s.takeRecord r = s.bump .intakeOverrun := if_neg free
      have counted : (s.takeRecord r).count .intakeOverrun = s.count .intakeOverrun + 1 := by
        rw [taken, State.count_bump_self, countUp, if_pos (by omega)]
      obtain ⟨intake, overrun, others⟩ := ih (s.takeRecord r) (by rw [taken]; exact few) (by rw [counted]; omega)
      have held : (s.takeRecord r).intake = s.intake := by rw [taken]; rfl
      rw [held, full] at intake overrun
      refine ⟨by rw [intake, full]; rfl, ?_, fun c hc => (others c hc).trans ?_⟩
      · rw [overrun, counted, full, List.length_cons]
        omega
      · rw [taken]; exact s.count_bump_ne hc

/-- Settles O44: the mode decides between the records taken one by one and all of them counted. -/
theorem anEventsFrameFillsTheIntake : Obligations.AnEventsFrameFillsTheIntake := by
  intro tag records s heard some few small room
  have received : exec (.eventsFrame tag records) s = .next ((s.setReceived []).takeEvents records) := by
    refine congrArg Host.Outcome.next ?_
    rw [State.receiveEvents, if_neg (by omega)]
    exact if_pos heard
  refine ⟨_, received, fun mode => ?_, fun replay duplex => ?_, fun c hc => ?_⟩
  · have taken : (s.setReceived []).takeEvents records = records.foldl State.takeRecord (s.setReceived []) := if_pos mode
    rw [taken]
    obtain ⟨intake, overrun, -⟩ := State.takeRecords_intake records (s.setReceived []) small room
    exact ⟨intake, overrun⟩
  · have counted : (s.setReceived []).takeEvents records = (s.setReceived []).bumpTimes .intakeOverrun records.length :=
      if_neg (by rintro (h | h); exacts [replay h, duplex h])
    rw [counted]
    exact ⟨(State.bumpTimes_touches _ _ _).intake rfl, State.count_bumpTimes_self (s.setReceived []) .intakeOverrun _ room⟩
  · unfold State.takeEvents
    split
    · exact (State.takeRecords_intake records (s.setReceived []) small room).2.2 c hc
    · exact State.count_bumpTimes_ne (s.setReceived []) hc _

/-! ### The head of the intake (R97, R122) -/

theorem State.admissible_iff (s : State) (r : EventRecord) :
    s.admissible r = true ↔ s.time.transport = .running ∧ s.voices.walk = none ∧
      r.time + s.time.preroll + s.time.shift ≤ s.now + s.port.options.lookAhead ∧ recordNeeds r.kind ≤ s.freeEntries := by
  unfold State.admissible
  rw [Bool.and_eq_true, Bool.and_eq_true, Bool.and_eq_true, decide_eq_true_iff, decide_eq_true_iff, beq_iff_eq,
    Option.isNone_iff_eq_none, and_assoc, and_assoc]
  rfl

section
variable {s : State} {r : EventRecord} {rest : List EventRecord} (h : s.intake = r :: rest)
include h

theorem State.testHead_waits (waits : ¬s.admissible r = true) : s.testHead = s := by
  rw [State.testHead, h]
  exact if_neg waits

theorem State.testHead_admits (met : s.admissible r = true) : s.testHead = s.admitHead r := by
  rw [State.testHead, h]
  exact if_pos met

theorem State.popIntake_eq : s.popIntake = { s with intake := rest } := by
  rw [State.popIntake, h]
  rfl

end

/-- The entry of a Marker or End record (R133). -/
def State.markEntry (s : State) (r : EventRecord) : Entry :=
  { kind := if r.kind = .marker then .marker else .endOfReplay, onset := markerOnset (s.clocking r.time), target := 0,
    level := 0, holdLevel := 0, attack := 0, rearm := 0, via := none, note := none,
    marker := if r.kind = .marker then r.value else 0, strike := 0, velocity := 0 }

theorem State.admitMarker_eq (s : State) (r : EventRecord) :
    s.admitMarker r = s.setEntries (insertEntry (s.markEntry r) s.sched.entries) := rfl

theorem State.admitHead_marks (s : State) {r : EventRecord} (kind : r.kind = .marker ∨ r.kind = .endOfReplay) :
    s.admitHead r = s.popIntake.admitMarker r := by
  unfold State.admitHead
  rcases kind with kind | kind <;> rw [kind]

section
variable (s : State) {r : EventRecord} (marker : r.kind ≠ .marker) (ends : r.kind ≠ .endOfReplay)
include marker ends

/-- What a record of a voice does at the head. -/
theorem State.admitHead_plays : s.admitHead r =
    if r.voice = 0 ∨ 127 < r.voice then s.popIntake.bump .voiceAbsent
    else
      match s.voices.find r.voice with
      | some e => ((s.touch e).popIntake).proceed r e
      | none =>
        { s with voices := { s.voices with
          walk := some { voice := r.voice, set := s.voices.activeSet, descriptor := none, page := none } } } := by
  unfold State.admitHead
  split
  · next kind => exact absurd kind marker
  · next kind => exact absurd kind ends
  · rfl

theorem State.admitHead_cached (low : 1 ≤ r.voice) (high : r.voice ≤ 127) {e : CacheEntry}
    (he : s.voices.find r.voice = some e) : s.admitHead r = ((s.touch e).popIntake).proceed r e := by
  rw [s.admitHead_plays marker ends, if_neg (by omega), he]

end

/-- Settles O39: the head's conditions, and the cases of `State.admitHead`. -/
theorem theHeadOfTheIntakeIsTested : Obligations.TheHeadOfTheIntakeIsTested := by
  intro r rest s h
  refine ⟨fun waits => ?_, fun running walk due room => ?_⟩
  · refine congrArg Host.Outcome.next (State.testHead_waits h fun met => ?_)
    obtain ⟨running, walk, due, room⟩ := (s.admissible_iff r).mp met
    rcases waits with w | w | w | w
    · exact w running
    · exact w walk
    · omega
    · omega
  · have head : exec .admitRecord s = .next (s.admitHead r) :=
      congrArg Host.Outcome.next (State.testHead_admits h ((s.admissible_iff r).mpr ⟨running, walk, due, room⟩))
    refine ⟨fun kind => ?_, fun marker ends voice => ?_, fun marker ends low high absent => ?_,
      fun e marker ends low high cached => ?_⟩
    · refine ⟨_, s.markEntry r, head, ?_⟩
      rw [s.admitHead_marks kind, State.popIntake_eq h, State.admitMarker_eq]
      refine ⟨rfl, fun m => ⟨if_pos m, if_pos m⟩, fun m => if_neg (by rw [m]; nofun), rfl, rfl, ?_⟩
      exact ((Touches.refl _ s).on_intake rfl).on_sched rfl
    · rw [head, s.admitHead_plays marker ends, if_pos voice, State.popIntake_eq h]
    · rw [head, s.admitHead_plays marker ends, if_neg (by omega), absent]
    · rw [head, s.admitHead_cached marker ends low high cached, State.popIntake_eq (s := s.touch e) h]
      rfl

/-! ### The walk (R98 to R100) -/

theorem TableMemory.descriptor_range {m : TableMemory} {set voice : Nat} {d : VoiceDescriptor}
    (h : m.descriptor set voice = some d) : set ≤ 3 ∧ voice ≤ 127 := by
  unfold TableMemory.descriptor at h
  split at h
  · cases h
  · next v hv =>
    obtain ⟨hs, -⟩ := Vector.getElem?_eq_some_iff.mp hv
    obtain ⟨hd, -⟩ := Vector.getElem?_eq_some_iff.mp h
    omega

theorem State.modDescriptor_eq (s : State) (set voice : Nat) (f : VoiceDescriptor → VoiceDescriptor) :
    s.modDescriptor set voice f = { s with mem := (s.modDescriptor set voice f).mem } := by
  unfold State.modDescriptor
  split <;> rfl

theorem State.modDescriptor_self {s : State} {set voice : Nat} {d : VoiceDescriptor} (h : s.mem.descriptor set voice = some d)
    (f : VoiceDescriptor → VoiceDescriptor) : (s.modDescriptor set voice f).mem.descriptor set voice = some (f d) := by
  obtain ⟨hs, hv⟩ := TableMemory.descriptor_range h
  rw [State.modDescriptor, h]
  exact s.mem.descriptor_setDescriptor_self (f d) hs hv

theorem State.modDescriptor_ne (s : State) {set voice i j : Nat} (h : (i, j) ≠ (set, voice))
    (f : VoiceDescriptor → VoiceDescriptor) : (s.modDescriptor set voice f).mem.descriptor i j = s.mem.descriptor i j := by
  unfold State.modDescriptor
  split
  · rfl
  · exact s.mem.descriptor_setDescriptor_ne _ h

theorem State.modDescriptor_tables (s : State) (set voice : Nat) (f : VoiceDescriptor → VoiceDescriptor) :
    (s.modDescriptor set voice f).mem.pages = s.mem.pages ∧ (s.modDescriptor set voice f).mem.sense = s.mem.sense := by
  unfold State.modDescriptor
  split
  · exact ⟨rfl, rfl⟩
  · exact ⟨s.mem.setDescriptor_pages _ _ _, s.mem.setDescriptor_sense _ _ _⟩

section
variable {s : State} {w : Walk} (h : s.voices.walk = some w)
include h

theorem State.walkRead_of_walk :
    s.walkRead =
      match w.descriptor, w.page with
      | none, _ => s.walkDescriptor w
      | some d, none => s.walkPage w d.page
      | some _, some _ => s := by
  rw [State.walkRead, h] <;> rfl

theorem State.walkEnd_of_unread (unread : w.descriptor = none) : s.walkEnd = s := by
  rw [State.walkEnd, h]
  dsimp only
  rw [unread]

theorem State.walkEnd_of_read {d : VoiceDescriptor} (read : w.descriptor = some d) :
    s.walkEnd =
      if d.kind = .key ∧ s.keyCount < d.target then s.walkAbsent
      else
        match w.content s.mem d.page with
        | none => s.walkAbsent
        | some p =>
          if pageSuits d.kind p then
            let e : CacheEntry :=
              { voice := w.voice, set := w.set, kind := d.kind, target := d.target, slot := d.page, trim := d.trim, page := p }
            let s1 := { s with voices := { s.voices with entries := insertCache e s.voices.entries, walk := none } }
            let s2 := s1.modDescriptor w.set w.voice (fun d => { d with accessed := true })
            match s.intake with
            | [] => s2
            | r :: _ => s2.popIntake.proceed r e
          else s.walkAbsent := by
  rw [State.walkEnd, h]
  dsimp only
  rw [read] <;> rfl

end

/-- Settles O43: the reads and the completion of the walk in flight, case by case. -/
theorem walksReadAndFill : Obligations.WalksReadAndFill := by
  refine ⟨fun s idle => ⟨?_, ?_⟩, fun w d s hw => ⟨fun unread there present => ?_, fun unread there absent => ?_,
    fun read bare => ?_, fun read held => ?_, fun read bad => ?_, fun unread => ?_⟩,
    fun w d p r rest s hw read known content suits hr => ?fills⟩
  · refine congrArg Host.Outcome.next ?_
    rw [State.walkRead, idle]
  · refine congrArg Host.Outcome.next ?_
    rw [State.walkEnd, idle]
  · refine congrArg Host.Outcome.next ?_
    rw [State.walkRead_of_walk hw, unread]
    dsimp only
    rw [State.walkDescriptor, there]
    exact if_pos present
  · refine congrArg Host.Outcome.next ?_
    rw [State.walkRead_of_walk hw, unread]
    dsimp only
    rw [State.walkDescriptor, there]
    exact if_neg (by rw [absent]; nofun)
  · refine congrArg Host.Outcome.next ?_
    have page : s.walkRead = s.walkPage w d.page := by rw [State.walkRead_of_walk hw, read, bare]
    rw [page]
    rfl
  · refine congrArg Host.Outcome.next ?_
    obtain ⟨x, hx⟩ := Option.ne_none_iff_exists'.mp read
    obtain ⟨q, hq⟩ := Option.ne_none_iff_exists'.mp held
    rw [State.walkRead_of_walk hw, hx, hq]
  · refine congrArg Host.Outcome.next ?_
    rw [State.walkEnd_of_read hw read]
    by_cases above : d.kind = .key ∧ s.keyCount < d.target
    · rw [if_pos above]; rfl
    · rw [if_neg above, Walk.content]
      rcases bad with bad | none | ⟨p, some, unsuited⟩
      · exact absurd bad above
      · rw [none]; rfl
      · rw [some]
        dsimp only
        rw [unsuited]
        rfl
  · exact congrArg Host.Outcome.next (State.walkEnd_of_unread hw unread)
  case fills =>
    obtain ⟨e, he⟩ : ∃ e : CacheEntry, e =
      { voice := w.voice, set := w.set, kind := d.kind, target := d.target, slot := d.page, trim := d.trim, page := p } := ⟨_, rfl⟩
    obtain ⟨v, hv⟩ : ∃ v : State, v =
      { s with voices := { s.voices with entries := insertCache e s.voices.entries, walk := none } } := ⟨_, rfl⟩
    obtain ⟨m, hm⟩ : ∃ m : State, m = v.modDescriptor w.set w.voice (fun d => { d with accessed := true }) := ⟨_, rfl⟩
    have ended : s.walkEnd = m.popIntake.proceed r e := by
      have first : (match s.intake with | [] => m | r :: _ => m.popIntake.proceed r e) = m.popIntake.proceed r e := by rw [hr]
      refine Eq.trans ?_ first
      rw [State.walkEnd_of_read hw read, if_neg known, Walk.content, content]
      dsimp only
      rw [suits, hm, hv, he]
      rfl
    have mem : v.mem = s.mem := by rw [hv]
    have only : m = { v with mem := m.mem } := by rw [hm]; exact v.modDescriptor_eq _ _ _
    have popped : m.popIntake = { m with intake := rest } := State.popIntake_eq (by rw [only, hv]; exact hr)
    have proceeding := m.popIntake.proceed_touches r e
    refine ⟨_, m.popIntake, e, congrArg Host.Outcome.next ended, rfl, he, ?_, fun x hx => ?_, fun n j hn => ?_, ?_, ?_, ?_,
      proceeding.voices rfl, proceeding.mem rfl⟩
    · rw [popped, only, hv]
      rfl
    · rw [popped, hm]
      exact State.modDescriptor_self (by rw [mem]; exact hx) _
    · rw [popped, hm, ← mem]
      exact v.modDescriptor_ne hn _
    · rw [popped, hm, ← mem]
      exact (v.modDescriptor_tables _ _ _).1
    · rw [popped, hm, ← mem]
      exact (v.modDescriptor_tables _ _ _).2
    · rw [proceeding.intake rfl, popped]

end Sys2Proof.Machine
end

section
/-! PROOFS. The spacing of notes (O40), and the notes of Strike and SilentPress records (O41). -/

namespace Sys2Proof.Machine

/-! ### The moved entries, as a rearrangement -/

theorem insertEntry_perm (e : Entry) (l : List Entry) : (insertEntry e l).Perm (e :: l) := by
  induction l with
  | nil => exact .refl _
  | cons x xs ih =>
    unfold insertEntry
    split
    · exact .refl _
    · exact (ih.cons x).trans (.swap e x xs)

theorem insertEntries_perm (es l : List Entry) : (insertEntries es l).Perm (es ++ l) := by
  induction es generalizing l with
  | nil => exact .refl _
  | cons e es ih =>
    exact (ih (insertEntry e l)).trans (((insertEntry_perm e l).append_left es).trans List.perm_middle)

/-- Changing the elements of one kind and putting them before the others rearranges the changed list. -/
theorem filter_map_append_perm (p : Entry → Bool) (f : Entry → Entry) (l : List Entry) :
    ((l.filter p).map f ++ l.filter (fun x => !p x)).Perm (l.map (fun x => if p x then f x else x)) := by
  have split : (l.filter p).map f ++ l.filter (fun x => !p x) =
      (l.filter p ++ l.filter (fun x => !p x)).map (fun x => if p x then f x else x) := by
    rw [List.map_append]
    congr 1
    · exact List.map_congr_left fun x hx => by rw [if_pos (List.mem_filter.1 hx).2]
    · refine (List.map_id _).symm.trans (List.map_congr_left fun x hx => ?_)
      have : p x = false := by simpa using (List.mem_filter.1 hx).2
      rw [if_neg (by rw [this]; exact Bool.false_ne_true)]; rfl
  rw [split]
  exact (List.filter_append_perm p l).map _

/-- A moved Off's entry stands at its new tick; every other stays as it is. -/
theorem State.moveOff_entries_perm (s : State) (k id tick : Nat) (origin : OffOrigin) :
    (s.moveOff k id tick origin).sched.entries.Perm (s.sched.entries.map (fun e =>
      if e.offOf k && e.note == some id then { e with onset := tick } else e)) := by
  rw [State.moveOff_entries]
  exact (insertEntries_perm _ _).trans
    (filter_map_append_perm (fun e => e.offOf k && e.note == some id) (fun e => { e with onset := tick }) _)

/-! ### The open note (R128) -/

/-- The open note is the last of the list whose Off has not been dispatched. -/
theorem KeyDrive.openNote_of_split {d : KeyDrive} {before after : List Note} {p : Note}
    (notes : d.notes = before ++ p :: after) (hp : p.offDispatched = false)
    (ha : ∀ n ∈ after, n.offDispatched = true) : d.openNote = some p := by
  have none_after : after.filter (fun n => !n.offDispatched) = [] :=
    List.filter_eq_nil_iff.2 fun n hn => by simp [ha n hn]
  simp [KeyDrive.openNote, notes, List.filter_append, hp, none_after]

theorem KeyDrive.openNote_of_all {d : KeyDrive} (h : ∀ n ∈ d.notes, n.offDispatched = true) : d.openNote = none := by
  have : d.notes.filter (fun n => !n.offDispatched) = [] := List.filter_eq_nil_iff.2 fun n hn => by simp [h n hn]
  simp [KeyDrive.openNote, this]

theorem State.spaceNote_of_open {s : State} {k onset rearm : Nat} {p : Note} (h : (s.driveOf k).openNote = some p) :
    s.spaceNote k onset rearm =
      if onset < max (p.onset + p.attack) s.earliest + rearm then
        ((s.moveOff k p.id (max (p.onset + p.attack) s.earliest) .advanced).bump .deferred,
          max (p.onset + p.attack) s.earliest + rearm - onset)
      else if onset - rearm < p.off then (s.moveOff k p.id (onset - rearm) .advanced, 0)
      else (s, 0) := by
  unfold State.spaceNote
  rw [h]

theorem State.spaceNote_of_base {s : State} {k onset rearm base : Nat} (h : (s.driveOf k).openNote = none)
    (hb : (s.driveOf k).rearmBase = some base) :
    s.spaceNote k onset rearm = if onset < base + rearm then (s.bump .deferred, base + rearm - onset) else (s, 0) := by
  unfold State.spaceNote
  rw [h]
  dsimp only
  rw [hb]

theorem State.spaceNote_of_free {s : State} {k onset rearm : Nat} (h : (s.driveOf k).openNote = none)
    (hb : (s.driveOf k).rearmBase = none) : s.spaceNote k onset rearm = (s, 0) := by
  unfold State.spaceNote
  rw [h]
  dsimp only
  rw [hb]

/-- Settles O40: behind an open note, behind a rearm base alone, and free, each as the arithmetic of R128 and R129 decides;
a moved Off is the one entry and the one note's tick that change. -/
theorem notesAreSpaced : Obligations.NotesAreSpaced := by
  refine ⟨fun k onset rearm s keyed => ⟨fun before p after floor notes hp ha hfloor => ?_, fun all => ⟨fun base hb => ?_,
    fun hb => State.spaceNote_of_free (KeyDrive.openNote_of_all all) hb⟩⟩, fun k id tick origin s keyed =>
    ⟨s.driveOf_moveOff_self id tick origin keyed.1 keyed.2, fun j hj => s.driveOf_moveOff_ne id tick origin hj,
      s.moveOff_entries_perm k id tick origin, s.ordered_moveOff k id tick origin, rfl,
      State.moveOff_touches s k id tick origin⟩⟩
  · have space := s.spaceNote_of_open (onset := onset) (rearm := rearm) (KeyDrive.openNote_of_split notes hp ha)
    rw [← hfloor] at space
    have deferred : onset < floor + rearm → s.spaceNote k onset rearm =
        ((s.moveOff k p.id floor .advanced).bump .deferred, floor + rearm - onset) := fun h => by
      rw [space, if_pos h]
    refine ⟨deferred, fun h g => ?_, fun h g => ?_, ?_⟩
    · rw [space, if_neg (by omega), if_pos (by omega)]
    · rw [space, if_neg (by omega), if_neg (by omega)]
    · by_cases h : onset < floor + rearm
      · rw [deferred h]; dsimp only; omega
      · omega
  · have space := s.spaceNote_of_base (onset := onset) (rearm := rearm) (KeyDrive.openNote_of_all all) hb
    refine ⟨fun h => by rw [space, if_pos h], fun h => by rw [space, if_neg (by omega)], ?_⟩
    rw [space]
    split
    · dsimp only; omega
    · omega

end Sys2Proof.Machine
end

section
/-! PROOFS. The notes of Strike and SilentPress records, and the arithmetic of their computations (O41). -/

namespace Sys2Proof.Machine

/-! ### What is counted (R108, R111, R113) -/

theorem State.count_bumpIf_self (s : State) (b : Bool) (c : Counter) :
    (s.bumpIf b c).count c = if b then countUp (s.count c) else s.count c := by
  cases b
  · rfl
  · exact s.count_bump_self c

theorem State.count_bumpIf_ne (s : State) (b : Bool) {c d : Counter} (h : d ≠ c) : (s.bumpIf b c).count d = s.count d := by
  cases b
  · rfl
  · exact s.count_bump_ne h

theorem State.bumpIf_options (s : State) (b : Bool) (c : Counter) : (s.bumpIf b c).port.options = s.port.options := by
  cases b <;> rfl

section
variable (s : State) (c : Computation)

theorem State.countComputation_clamped :
    (s.countComputation c).count .clamped = if c.clamped then countUp (s.count .clamped) else s.count .clamped := by
  unfold State.countComputation
  rw [State.count_bumpIf_ne _ _ (by decide), State.count_bumpIf_ne _ _ (by decide), State.count_bumpIf_ne _ _ (by decide),
    State.count_bumpIf_ne _ _ (by decide), State.count_bumpIf_self]

theorem State.countComputation_saturated :
    (s.countComputation c).count .saturated =
      if c.saturatedLevel && c.saturatedHold then countUp (countUp (s.count .saturated))
      else if c.saturatedLevel || c.saturatedHold then countUp (s.count .saturated) else s.count .saturated := by
  unfold State.countComputation
  rw [State.count_bumpIf_ne _ _ (by decide), State.count_bumpIf_ne _ _ (by decide), State.count_bumpIf_self,
    State.count_bumpIf_self, State.count_bumpIf_ne _ _ (by decide)]
  cases c.saturatedLevel <;> cases c.saturatedHold <;> rfl

theorem State.countComputation_late :
    (s.countComputation c).count .late = if c.outcome = .late then countUp (s.count .late) else s.count .late := by
  unfold State.countComputation
  rw [State.count_bumpIf_ne _ _ (by decide), State.count_bumpIf_self, State.count_bumpIf_ne _ _ (by decide),
    State.count_bumpIf_ne _ _ (by decide), State.count_bumpIf_ne _ _ (by decide)]
  exact if_congr beq_iff_eq rfl rfl

theorem State.countComputation_stale :
    (s.countComputation c).count .stale = if c.outcome = .stale then countUp (s.count .stale) else s.count .stale := by
  unfold State.countComputation
  rw [State.count_bumpIf_self, State.count_bumpIf_ne _ _ (by decide), State.count_bumpIf_ne _ _ (by decide),
    State.count_bumpIf_ne _ _ (by decide), State.count_bumpIf_ne _ _ (by decide)]
  exact if_congr beq_iff_eq rfl rfl

theorem State.countComputation_deferred : (s.countComputation c).count .deferred = s.count .deferred := by
  unfold State.countComputation
  rw [State.count_bumpIf_ne _ _ (by decide), State.count_bumpIf_ne _ _ (by decide), State.count_bumpIf_ne _ _ (by decide),
    State.count_bumpIf_ne _ _ (by decide), State.count_bumpIf_ne _ _ (by decide)]

theorem State.countComputation_options : (s.countComputation c).port.options = s.port.options := by
  unfold State.countComputation
  rw [State.bumpIf_options, State.bumpIf_options, State.bumpIf_options, State.bumpIf_options, State.bumpIf_options]

end

/-! ### What the spacing leaves alone, and what it reads -/

theorem State.moveOff_sched_congr {s t : State} (h : t.sched = s.sched) (k id tick : Nat) (origin : OffOrigin) :
    (t.moveOff k id tick origin).sched = (s.moveOff k id tick origin).sched := by
  cases s; cases t
  dsimp only at h
  subst h
  rfl

/-- The spacing reads the schedule and E alone. -/
theorem State.spaceNote_congr {s t : State} (h : t.sched = s.sched) (time : t.time = s.time) (k onset rearm : Nat) :
    (t.spaceNote k onset rearm).2 = (s.spaceNote k onset rearm).2 ∧
      (t.spaceNote k onset rearm).1.sched = (s.spaceNote k onset rearm).1.sched := by
  have drive : t.driveOf k = s.driveOf k := State.driveOf_congr (congrArg DriveSchedule.keys h) k
  have earliest : t.earliest = s.earliest := State.earliest_congr time
  rcases ho : (s.driveOf k).openNote with _ | p
  · rcases hb : (s.driveOf k).rearmBase with _ | base
    · rw [State.spaceNote_of_free ho hb, State.spaceNote_of_free (s := t) (by rw [drive]; exact ho) (by rw [drive]; exact hb)]
      exact ⟨rfl, h⟩
    · rw [State.spaceNote_of_base ho hb, State.spaceNote_of_base (s := t) (by rw [drive]; exact ho) (by rw [drive]; exact hb)]
      split
      · exact ⟨rfl, h⟩
      · exact ⟨rfl, h⟩
  · rw [State.spaceNote_of_open ho, State.spaceNote_of_open (s := t) (by rw [drive]; exact ho), earliest]
    split
    · exact ⟨rfl, State.moveOff_sched_congr h ..⟩
    · split
      · exact ⟨rfl, State.moveOff_sched_congr h ..⟩
      · exact ⟨rfl, h⟩

section
variable (s : State) (k onset rearm : Nat)

/-- The spacing changes the key's notes and counts a deferral; no other key and no pedal. -/
theorem State.spaceNote_leaves (hk : Keyed k) :
    (s.spaceNote k onset rearm).1.sched.pedals = s.sched.pedals ∧
      (∀ j, j ≠ k → (s.spaceNote k onset rearm).1.driveOf j = s.driveOf j) ∧
      ((s.spaceNote k onset rearm).1.driveOf k).driven = (s.driveOf k).driven := by
  have moved : ∀ id tick, ((s.moveOff k id tick .advanced).driveOf k).driven = (s.driveOf k).driven := fun id tick => by
    rw [s.driveOf_moveOff_self id tick .advanced hk.1 hk.2]
  rcases s.spaceNote_cases k onset rearm with
    ⟨p, floor, -, -, ⟨-, h⟩ | ⟨-, -, h⟩ | ⟨-, -, h⟩⟩ | ⟨-, ⟨base, -, -, h⟩ | ⟨-, h⟩⟩ <;> rw [h]
  · exact ⟨rfl, fun j hj => s.driveOf_moveOff_ne p.id floor .advanced hj, moved _ _⟩
  · exact ⟨rfl, fun j hj => s.driveOf_moveOff_ne p.id _ .advanced hj, moved _ _⟩
  · exact ⟨rfl, fun _ _ => rfl, rfl⟩
  · exact ⟨rfl, fun _ _ => rfl, rfl⟩
  · exact ⟨rfl, fun _ _ => rfl, rfl⟩

/-- Deferred counts exactly the notes deferred; no other counter changes. -/
theorem State.spaceNote_counts :
    (s.spaceNote k onset rearm).1.count .deferred =
        (if (s.spaceNote k onset rearm).2 = 0 then s.count .deferred else countUp (s.count .deferred)) ∧
      ∀ d, d ≠ .deferred → (s.spaceNote k onset rearm).1.count d = s.count d := by
  rcases s.spaceNote_cases k onset rearm with
    ⟨p, floor, -, -, ⟨lt, h⟩ | ⟨-, -, h⟩ | ⟨-, -, h⟩⟩ | ⟨-, ⟨base, -, lt, h⟩ | ⟨-, h⟩⟩ <;> rw [h]
  · refine ⟨?_, fun d hd => State.count_bump_ne _ hd⟩
    rw [if_neg (by dsimp only; omega)]
    exact State.count_bump_self _ _
  · exact ⟨rfl, fun _ _ => rfl⟩
  · exact ⟨rfl, fun _ _ => rfl⟩
  · refine ⟨?_, fun d hd => State.count_bump_ne _ hd⟩
    rw [if_neg (by dsimp only; omega)]
    exact State.count_bump_self _ _
  · exact ⟨rfl, fun _ _ => rfl⟩

end

/-! ### The note made (R125, R130, R134) -/

/-- The Attack or Hold that a new note puts into the schedule. -/
def NewNote.strikeEntry (m : NewNote) (k id : Nat) : Entry :=
  { kind := m.kind, onset := m.onset, target := k, level := m.level, holdLevel := m.holdLevel, attack := m.attack,
    rearm := m.rearm, via := m.via, note := some id, marker := 0, strike := m.strike.getD 0,
    velocity := m.velocity.getD 0 }

/-- The Off that a new note puts into the schedule. -/
def NewNote.offEntry (m : NewNote) (k id : Nat) : Entry :=
  { kind := .off, onset := m.off, target := k, level := 0, holdLevel := 0, attack := 0, rearm := m.rearm, via := none,
    note := some id, marker := 0, strike := 0, velocity := 0 }

/-- The note itself. -/
def NewNote.note (m : NewNote) (id : Nat) : Note :=
  { id := id, onset := m.onset, attack := m.attack, rearm := m.rearm, strike := m.strike, off := m.off,
    origin := m.origin, attackDispatched := false, offDispatched := false, owed := m.owed, via := m.via,
    velocity := m.velocity }

section
variable (s : State) {k : Nat} (m : NewNote)

theorem State.makeNote_sched_entries : (s.makeNote k m).sched.entries =
    insertEntry (m.offEntry k s.sched.nextNote) (insertEntry (m.strikeEntry k s.sched.nextNote)
      (s.sched.entries.filter (fun x => !(x.offOf k && x.note == none)))) := rfl

theorem State.makeNote_pedals : (s.makeNote k m).sched.pedals = s.sched.pedals := rfl

theorem State.driveOf_makeNote (hk : Keyed k) :
    ((s.makeNote k m).driveOf k).notes = appendNote (s.driveOf k).notes (m.note s.sched.nextNote) ∧
      ((s.makeNote k m).driveOf k).driven = (s.driveOf k).driven ∧
      ((s.makeNote k m).driveOf k).state = (s.makeNote k m).stateBy126 k := by
  unfold State.makeNote
  dsimp only
  rw [State.driveOf_redecide _ hk, State.driveOf_setDrive_self _ _ hk.1 hk.2]
  exact ⟨rfl, rfl, rfl⟩

/-- A key that no test of R127 refuses is Sounding where it is driven, and else Armed by its new Attack or Hold. -/
theorem State.makeNote_state (hk : Keyed k) (faulted : s.faulted k = false) (waiting : s.waitingYield k = false)
    (kind : m.kind = .attack ∨ m.kind = .hold) :
    ((s.makeNote k m).driveOf k).state = if (s.driveOf k).driven then .sounding else .armed := by
  obtain ⟨-, driven, state⟩ := s.driveOf_makeNote m hk
  have blocks := State.makeNote_touches s k m
  have faulted' : (s.makeNote k m).faulted k = false :=
    (State.faulted_congr (congrArg ActionLink.faults (blocks.link rfl)) k).trans faulted
  have waiting' : (s.makeNote k m).waitingYield k = false :=
    (State.waitingYield_congr (congrArg DuplexMonitor.yields (blocks.duplex rfl)) k).trans waiting
  have armed : (s.makeNote k m).armed k = true := by
    refine List.any_eq_true.mpr ⟨m.strikeEntry k s.sched.nextNote, ?_, ?_⟩
    · rw [State.makeNote_sched_entries]
      exact mem_insertEntry.mpr (.inr (mem_insertEntry.mpr (.inl rfl)))
    · show ((m.kind == EntryKind.attack || m.kind == EntryKind.hold) && k == k) = true
      rcases kind with h | h <;> rw [h] <;> simp
  rw [state, ← State.decideDrive_eq, State.decideDrive, faulted', waiting', armed, driven]
  rfl

end

/-! ### A computed strike placed -/

/-- The note of a computed strike or silent press, deferred by `d` ticks. -/
def Computation.newNote (c : Computation) (kind : EntryKind) (via : Via) (d holdCap : Nat) : NewNote :=
  { kind := kind, onset := c.onset + d, strike := c.strike.map (· + d), level := c.level, holdLevel := c.holdLevel,
    attack := c.attack, rearm := c.rearm, off := c.onset + d + holdCap, origin := .provisional, owed := true,
    via := some via, velocity := some c.velocity }

theorem State.placeComputed_stale (s : State) (k : Nat) (kind : EntryKind) (via : Via) {c : Computation}
    (h : c.outcome = .stale) : s.placeComputed k kind via c = s.countComputation c := by
  unfold State.placeComputed
  exact if_pos h

theorem State.placeComputed_fresh (s : State) (k : Nat) (kind : EntryKind) (via : Via) {c : Computation}
    (h : c.outcome ≠ .stale) :
    s.placeComputed k kind via c = ((s.countComputation c).spaceNote k c.onset c.rearm).1.makeNote k
      (c.newNote kind via ((s.countComputation c).spaceNote k c.onset c.rearm).2
        (s.countComputation c).port.options.holdCap) := by
  unfold State.placeComputed
  exact if_neg h

/-- Placing counts what the computation counts, and beside that deferrals alone. -/
theorem State.placeComputed_count (s : State) (k : Nat) (kind : EntryKind) (via : Via) (c : Computation) {d : Counter}
    (hd : d ≠ .deferred) : (s.placeComputed k kind via c).count d = (s.countComputation c).count d := by
  by_cases h : c.outcome = .stale
  · rw [s.placeComputed_stale k kind via h]
  · rw [s.placeComputed_fresh k kind via h]
    exact (State.count_congr (congrArg ScorePort.counters ((State.makeNote_touches _ _ _).port rfl)) d).trans
      ((State.spaceNote_counts _ k c.onset c.rearm).2 d hd)

/-- Placing changes no other key and no pedal. -/
theorem State.placeComputed_leaves (s : State) {k : Nat} (hk : Keyed k) (kind : EntryKind) (via : Via) (c : Computation) :
    (s.placeComputed k kind via c).sched.pedals = s.sched.pedals ∧
      ∀ j, j ≠ k → (s.placeComputed k kind via c).driveOf j = s.driveOf j := by
  have counted : (s.countComputation c).sched = s.sched := (s.countComputation_touches c).sched rfl
  by_cases h : c.outcome = .stale
  · rw [s.placeComputed_stale k kind via h]
    exact ⟨congrArg DriveSchedule.pedals counted, fun j _ => State.driveOf_congr (congrArg DriveSchedule.keys counted) j⟩
  · rw [s.placeComputed_fresh k kind via h]
    obtain ⟨pedals, keys, -⟩ := State.spaceNote_leaves (s.countComputation c) k c.onset c.rearm hk
    exact ⟨pedals.trans (congrArg DriveSchedule.pedals counted), fun j hj => (State.driveOf_makeNote_ne _ _ hj).trans
      ((keys j hj).trans (State.driveOf_congr (congrArg DriveSchedule.keys counted) j))⟩

/-- The note, its Attack or Hold, its Off, and the key's state, of a strike that is not Stale. -/
theorem State.placeComputed_note {s : State} {k : Nat} (hk : Keyed k) (faulted : s.faulted k = false)
    (waiting : s.waitingYield k = false) {kind : EntryKind} (via : Via) {c : Computation} (h : c.outcome ≠ .stale)
    (hkind : kind = .attack ∨ kind = .hold) {v : State × Nat} (hv : v = s.spaceNote k c.onset c.rearm) {t : State}
    (ht : t = s.placeComputed k kind via c) {m : NewNote} (hm : m = c.newNote kind via v.2 s.port.options.holdCap) :
    t.count .deferred = (if v.2 = 0 then s.count .deferred else countUp (s.count .deferred)) ∧
      (t.driveOf k).notes = appendNote (v.1.driveOf k).notes (m.note v.1.sched.nextNote) ∧
      (t.driveOf k).state = (if (s.driveOf k).driven then .sounding else .armed) ∧
      t.sched.entries = insertEntry (m.offEntry k v.1.sched.nextNote) (insertEntry (m.strikeEntry k v.1.sched.nextNote)
        (v.1.sched.entries.filter (fun x => !(x.offOf k && x.note == none)))) := by
  have counted : (s.countComputation c).sched = s.sched := (s.countComputation_touches c).sched rfl
  have same := (s.countComputation_touches c)
  obtain ⟨later, sched⟩ := State.spaceNote_congr counted (same.time rfl) k c.onset c.rearm
  obtain ⟨-, -, driven⟩ := State.spaceNote_leaves (s.countComputation c) k c.onset c.rearm hk
  have blocks := State.spaceNote_touches (s.countComputation c) k c.onset c.rearm
  have counts := (State.spaceNote_counts (s.countComputation c) k c.onset c.rearm).1
  rw [s.countComputation_deferred] at counts
  rw [s.placeComputed_fresh k kind via h, s.countComputation_options, later, ← hv, ← hm] at ht
  rw [← hv] at later sched
  rw [later] at counts
  obtain ⟨w, hw⟩ : ∃ w, w = ((s.countComputation c).spaceNote k c.onset c.rearm).1 := ⟨_, rfl⟩
  rw [← hw] at ht sched driven counts blocks
  have faulted' : w.faulted k = false := (State.faulted_congr
    (congrArg ActionLink.faults ((blocks.link rfl).trans (same.link rfl))) k).trans faulted
  have waiting' : w.waitingYield k = false := (State.waitingYield_congr
    (congrArg DuplexMonitor.yields ((blocks.duplex rfl).trans (same.duplex rfl))) k).trans waiting
  have kind' : m.kind = .attack ∨ m.kind = .hold := by rw [hm]; exact hkind
  have drive : w.driveOf k = v.1.driveOf k := State.driveOf_congr (congrArg DriveSchedule.keys sched) k
  rw [ht]
  refine ⟨(State.count_congr (congrArg ScorePort.counters ((State.makeNote_touches _ _ _).port rfl)) _).trans counts,
    ?_, ?_, ?_⟩
  · rw [← sched, ← drive]; exact (w.driveOf_makeNote m hk).1
  · rw [w.makeNote_state m hk faulted' waiting' kind', driven,
      State.driveOf_congr (congrArg DriveSchedule.keys counted) k]
  · rw [← sched]; exact w.makeNote_sched_entries m

theorem State.refusal_none {s : State} {k : Nat} (h : s.refusal k = none) : s.faulted k = false := by
  unfold State.refusal at h
  split at h
  · cases h
  · next g => exact Bool.eq_false_iff.mpr g

/-! ### The arithmetic of a computation -/

/-- R111: derated and limited, and whether the limit changed it. -/
theorem derate_eq (d : Nat) (f : Feed) {level top : Nat}
    (hl : level = d * (1000 + f.alpha * (f.temperature - 25).toNat) / 1000) (ht : top = if f.hot then 768 else 1023) :
    derate d f = (min level top, decide (top < level)) := by
  simp only [derate, derateFactor, ← hl, Config.topLevel, Config.hotCap]
  rw [ht]
  by_cases h1 : 1023 < level <;> by_cases h2 : 768 < level <;> cases f.hot <;>
    simp [h1, h2] <;> omega

/-- R113: in time with its own onset, late at E while the tolerance allows, and else stale. -/
theorem lateness_eq (due lead earliest tolerance : Nat) :
    (earliest + lead ≤ due → lateness ((due : Int) - lead) earliest tolerance = (.computed, due - lead, 0)) ∧
      (due < earliest + lead → lateness ((due : Int) - lead) earliest tolerance =
        (if earliest + lead ≤ due + tolerance then .late else .stale, earliest, earliest + lead - due)) := by
  unfold lateness
  refine ⟨fun h => ?_, fun h => ?_⟩
  · rw [if_pos (by omega)]
    congr 2; omega
  · rw [if_neg (by omega)]
    have behind : ((earliest : Int) - ((due : Int) - lead)).toNat = earliest + lead - due := by omega
    dsimp only
    rw [behind]
    by_cases g : earliest + lead ≤ due + tolerance
    · rw [if_pos (by omega), if_pos g]
    · rw [if_neg (by omega), if_neg g]

end Sys2Proof.Machine
end

section
/-! PROOFS. What a Strike or SilentPress record through a cached voice becomes (O41). -/

namespace Sys2Proof.Machine

/-- The state in which a record of a cached voice proceeds: it has left the intake, and its entry is at the front (R96, R97). -/
def State.played (s : State) (rest : List EventRecord) (e : CacheEntry) : State :=
  { s with
    intake := rest,
    voices := { s.voices with entries := e :: s.voices.entries.filter (fun x => x.voice != e.voice) } }

theorem State.popIntake_touch {s : State} {r : EventRecord} {rest : List EventRecord} (intake : s.intake = r :: rest)
    (e : CacheEntry) : (s.touch e).popIntake = s.played rest e :=
  State.popIntake_eq (s := s.touch e) intake

theorem State.played_touches {s : State} {r : EventRecord} {rest : List EventRecord} (intake : s.intake = r :: rest)
    (e : CacheEntry) : Touches { voices := true, intake := true } s (s.played rest e) := by
  rw [← State.popIntake_touch intake]
  exact (State.popIntake_touches _).via ((s.touch_touches e).mono rfl) rfl

/-- A head of the intake that is admitted, is played and has a cached voice proceeds with its entry. -/
theorem exec_admitRecord_of_cached {s : State} {r : EventRecord} {rest : List EventRecord} {e : CacheEntry}
    (intake : s.intake = r :: rest) (met : s.admissible r = true) (marker : r.kind ≠ .marker)
    (ends : r.kind ≠ .endOfReplay) (low : 1 ≤ r.voice) (high : r.voice ≤ 127) (cached : s.voices.find r.voice = some e) :
    exec .admitRecord s = .next ((s.played rest e).proceed r e) := by
  refine congrArg Host.Outcome.next ?_
  rw [State.testHead_admits intake met, State.admitHead_cached s marker ends low high cached, State.popIntake_touch intake]

/-- A Strike or SilentPress of a key that no test of R127 refuses is placed as computed. -/
theorem State.proceed_strikes {s : State} {r : EventRecord} {e : CacheEntry} {points : List Breakpoint} {sc : Scalars}
    (hk : e.kind = .key) (hp : e.page = .strike points sc) (met : s.refusal e.target = none) :
    (r.kind = .strike → s.proceed r e = s.placeComputed e.target .attack ⟨e.voice, e.set⟩
        (computeStrike points sc e.trim r.value (s.feed (s.driverOf e.target)) (s.clocking r.time))) ∧
      (r.kind = .silentPress → s.proceed r e = s.placeComputed e.target .hold ⟨e.voice, e.set⟩
        (computeSilent sc e.trim (s.feed (s.driverOf e.target)) (s.clocking r.time))) := by
  refine ⟨fun h => ?_, fun h => ?_⟩
  · rw [State.proceed, h, hk, hp]
    dsimp only
    rw [State.admitStrike, met]
    exact if_pos h
  · rw [State.proceed, h, hk, hp]
    dsimp only
    rw [State.admitStrike, met]
    exact if_neg (by rw [h]; decide)

/-- The ends of a curve are its first and last inputs. -/
theorem curveEnds_of {points : List Breakpoint} {first last : Breakpoint} (hf : points.head? = some first)
    (hl : points.getLast? = some last) : curveEnds points = (first.input, last.input) := by
  simp [curveEnds, hf, hl]

/-- R115. -/
theorem computeSilent_eq (sc : Scalars) (trim lead level : Nat) (f : Feed) (c : Clocking)
    (hlead : lead = (sc.silentLead + f.arrival + f.latency + 9) / 10)
    (hlevel : level = max 1 (sc.hold * trim / 1000) * (1000 + f.alpha * (f.temperature - 25).toNat) / 1000) :
    computeSilent sc trim f c =
      { outcome := (lateness ((c.due : Int) - lead) c.earliest c.tolerance).1,
        onset := (lateness ((c.due : Int) - lead) c.earliest c.tolerance).2.1, strike := none,
        level := min level (if f.hot then 768 else 1023), holdLevel := 0, attack := 0, rearm := (sc.rearm + 9) / 10,
        velocity := 0, clamped := false, saturatedLevel := decide ((if f.hot then 768 else 1023) < level),
        saturatedHold := false } := by
  have hold : derate (trimStrike sc.hold trim) f = _ := derate_eq _ f hlevel rfl
  have ticks : leadTicks sc.silentLead f = lead := hlead.symm
  rw [computeSilent, hold, ticks]
  rfl

/-- R108 to R114. -/
theorem computeStrike_eq {points : List Breakpoint} {sc : Scalars} {trim value v1 v2 i span d drive flight level hold top lead : Nat}
    {first last a b : Breakpoint} {f : Feed} {c : Clocking} (valid : pageValid (.strike points sc) = true)
    (hf : points.head? = some first) (hl : points.getLast? = some last) (hv1 : v1 = max 1 (value * c.scale / 1000))
    (hv2 : v2 = if v1 < first.input then first.input else if last.input < v1 then last.input else v1)
    (ha : points[i]? = some a) (hb : points[i + 1]? = some b) (low : a.input ≤ v2)
    (greatest : ∀ j q, points[j]? = some q → q.input ≤ v2 → j + 2 ≤ points.length → j ≤ i)
    (hspan : span = b.input - a.input) (hd : d = v2 - a.input)
    (hdrive : drive = (2 * (a.drive * (span - d) + b.drive * d) + span) / (2 * span))
    (hflight : flight = (2 * (a.time * (span - d) + b.time * d) + span) / (2 * span))
    (hlevel : level = max 1 (drive * trim / 1000) * (1000 + f.alpha * (f.temperature - 25).toNat) / 1000)
    (hhold : hold = max 1 (sc.hold * trim / 1000) * (1000 + f.alpha * (f.temperature - 25).toNat) / 1000)
    (htop : top = if f.hot then 768 else 1023) (hlead : lead = (flight + f.arrival + f.latency + 9) / 10) :
    computeStrike points sc trim value f c =
      { outcome := (lateness ((c.due : Int) - lead) c.earliest c.tolerance).1,
        onset := (lateness ((c.due : Int) - lead) c.earliest c.tolerance).2.1,
        strike := some (c.due + (lateness ((c.due : Int) - lead) c.earliest c.tolerance).2.2),
        level := min level top, holdLevel := min hold top, attack := (sc.attack + 9) / 10, rearm := (sc.rearm + 9) / 10,
        velocity := v2, clamped := decide (v1 ≠ v2), saturatedLevel := decide (top < level),
        saturatedHold := decide (top < hold) } := by
  have limited : limitTo points (scaleVelocity value c.scale) = (v2, decide (v1 ≠ v2)) := by
    rw [limitTo, curveEnds_of hf hl, scaleVelocity, ← hv1]
    dsimp only
    rw [← hv2]
    refine Prod.ext rfl ?_
    rw [Bool.eq_iff_iff, bne_iff_ne, decide_eq_true_iff]
    exact ne_comm
  have read : readCurve points v2 = (drive, flight) := by
    rw [readCurve, segment_eq (rising_of_pageValid valid) ha hb low greatest, hdrive, hflight, hspan, hd]
    rfl
  have attackLevel : derate (trimStrike drive trim) f = (min level top, decide (top < level)) := derate_eq _ f hlevel htop
  have holdLevel : derate (trimStrike sc.hold trim) f = (min hold top, decide (top < hold)) := derate_eq _ f hhold htop
  have ticks : leadTicks flight f = lead := hlead.symm
  rw [computeStrike, limited]
  dsimp only
  rw [read]
  dsimp only
  rw [attackLevel, holdLevel, ticks]
  rfl

/-- Settles O41: the computed strike is placed behind the spacing of O40, and the two computations are read off stage by
stage. -/
theorem strikesAndSilentPressesBecomeNotes : Obligations.StrikesAndSilentPressesBecomeNotes := by
  refine ⟨fun r rest e points sc k c v s intake met low high cached key page target keyed refusal waiting computed hv => ?_,
    fun sc trim lead level f c hlead hlevel => ?_,
    fun points sc trim value v1 v2 i span d drive flight level hold top lead first last a b f c x valid hf hl hv1 hv2 ha hb
      low greatest hspan hd hdrive hflight hlevel hhold htop hlead hx => ?_⟩
  · have plays : r.kind ≠ .marker ∧ r.kind ≠ .endOfReplay := by
      rcases computed with ⟨h, -⟩ | ⟨h, -⟩ <;> rw [h] <;> decide
    obtain ⟨u, hu⟩ : ∃ u : State, u = s.played rest e := ⟨_, rfl⟩
    obtain ⟨kind, hkind⟩ : ∃ kind : EntryKind, kind = if r.kind = .strike then .attack else .hold := ⟨_, rfl⟩
    have refusal' : u.refusal k = none := by rw [hu]; exact refusal
    have run : exec .admitRecord s = .next (u.placeComputed k kind ⟨e.voice, e.set⟩ c) := by
      rw [exec_admitRecord_of_cached intake met plays.1 plays.2 low high cached, ← hu]
      obtain ⟨strikes, silent⟩ := State.proceed_strikes (r := r) key page (target ▸ refusal')
      rcases computed with ⟨h, hc⟩ | ⟨h, hc⟩
      · rw [strikes h, target, hc, hkind, if_pos h, hu]; rfl
      · rw [silent h, target, hc, hkind, if_neg (by rw [h]; decide), hu]; rfl
    obtain ⟨t, ht⟩ : ∃ t, t = u.placeComputed k kind ⟨e.voice, e.set⟩ c := ⟨_, rfl⟩
    have blocks : Touches { sched := true, port := true } u t := by rw [ht]; exact u.placeComputed_touches _ _ _ _
    have counts : ∀ d, d ≠ .deferred → t.count d = (u.countComputation c).count d := fun d hd => by
      rw [ht]; exact u.placeComputed_count _ _ _ _ hd
    have leaves : t.sched.pedals = u.sched.pedals ∧ ∀ j, j ≠ k → t.driveOf j = u.driveOf j := by
      rw [ht]; exact u.placeComputed_leaves keyed _ _ _
    have counted : ∀ d, u.count d = s.count d := fun d => by rw [hu]; rfl
    have drive : ∀ j, u.driveOf j = s.driveOf j := fun j => by rw [hu]; rfl
    have before : Touches { voices := true, intake := true } s u := by
      rw [hu]; exact State.played_touches intake e
    refine ⟨t, run.trans (by rw [ht]), (blocks.intake rfl).trans (by rw [hu]; rfl), blocks.via (before.mono rfl) rfl,
      (blocks.voices rfl).trans (by rw [hu]; rfl), leaves.1.trans (by rw [hu]; rfl), fun j hj => (leaves.2 j hj).trans (drive j),
      ?_, ?_, ?_, ?_, fun stale => ?_, fun fresh => ?_⟩
    · rw [counts _ (by decide), u.countComputation_clamped, counted]
    · rw [counts _ (by decide), u.countComputation_saturated, counted]
    · rw [counts _ (by decide), u.countComputation_late, counted]
    · rw [counts _ (by decide), u.countComputation_stale, counted]
    · rw [ht, u.placeComputed_stale k kind _ stale]
      exact ⟨((u.countComputation_touches c).sched rfl).trans (by rw [hu]; rfl), (u.countComputation_deferred c).trans (counted _)⟩
    · have spaced := State.spaceNote_congr (s := s) (t := u) (by rw [hu]; rfl) (by rw [hu]; rfl) k c.onset c.rearm
      rw [← hv] at spaced
      have faulted : u.faulted k = false := State.refusal_none refusal'
      have waiting' : u.waitingYield k = false := by rw [hu]; exact waiting
      have kinds : kind = .attack ∨ kind = .hold := by
        rw [hkind]; split
        · exact .inl rfl
        · exact .inr rfl
      obtain ⟨deferred, notes, state, entries⟩ :=
        State.placeComputed_note keyed faulted waiting' ⟨e.voice, e.set⟩ fresh kinds rfl ht rfl
      rw [spaced.1, spaced.2] at entries
      rw [spaced.1, spaced.2, State.driveOf_congr (congrArg DriveSchedule.keys spaced.2) k] at notes
      rw [spaced.1, counted] at deferred
      rw [drive] at state
      have holdCap : u.port.options.holdCap = s.port.options.holdCap := by rw [hu]; rfl
      exact ⟨_, _, _, deferred, notes, state, rfl, rfl, rfl, rfl, congrArg (c.onset + v.2 + ·) holdCap, rfl, rfl, rfl, rfl,
        rfl, rfl, hkind, rfl, rfl, rfl, rfl, rfl, rfl, rfl, rfl, rfl, rfl, rfl, rfl, rfl, rfl, rfl, entries⟩
  · rw [computeSilent_eq sc trim lead level f c hlead hlevel]
    obtain ⟨early, late⟩ := lateness_eq c.due lead c.earliest c.tolerance
    refine ⟨rfl, rfl, rfl, rfl, rfl, rfl, rfl, rfl, fun h => ?_, fun h => ?_⟩
    · rw [early h]; exact ⟨rfl, rfl⟩
    · rw [late h]; exact ⟨rfl, rfl⟩
  · rw [hx, computeStrike_eq valid hf hl hv1 hv2 ha hb low greatest hspan hd hdrive hflight hlevel hhold htop hlead]
    obtain ⟨early, late⟩ := lateness_eq c.due lead c.earliest c.tolerance
    refine ⟨rfl, rfl, rfl, rfl, rfl, rfl, rfl, rfl, fun h => ?_, fun h g => ?_, fun h => ?_⟩
    · rw [early h]; exact ⟨rfl, rfl, rfl⟩
    · rw [late h, if_pos g]
      exact ⟨rfl, rfl, congrArg some (by dsimp only; omega)⟩
    · rw [late (by omega), if_neg (by omega)]

end Sys2Proof.Machine
end

section
/-! PROOFS. Releases, Pedal records and the records dropped at admission (O42). -/

namespace Sys2Proof.Machine

/-! ### A station available to drive (R33, R47) -/

theorem State.available_of_gone {s : State} {driver : Option Nat}
    (h : driver = none ∨ ∃ b, driver = some b ∧
      (s.supplyIsLow b = true ∨ ∀ x, s.stationOf b = some x → x.present = false)) : s.available driver = false := by
  rcases h with rfl | ⟨b, rfl, low | absent⟩
  · rfl
  · simp [State.available, low]
  · rcases hx : s.stationOf b with _ | x
    · simp [State.available, hx]
    · simp [State.available, hx, absent x hx]

theorem State.available_of_present {s : State} {b : Nat} {x : RosterEntry} (low : s.supplyIsLow b = false)
    (hx : s.stationOf b = some x) (present : x.present = true) : s.available (some b) = true := by
  simp [State.available, low, hx, present]

theorem State.feed_of_station {s : State} {b : Nat} {x : RosterEntry} (hx : s.stationOf b = some x) :
    s.feed (some b) = { arrival := x.arrival, latency := x.latency, alpha := x.alpha, temperature := x.temperature,
                        hot := s.isHot b } := by
  unfold State.feed
  rw [State.driverEntry, Option.bind_some, hx]
  rfl

/-! ### The tests of R127 -/

section
variable {s : State} {k : Nat}

theorem State.refusal_of_faulted (h : s.faulted k = true) : s.refusal k = some .keyFault := by
  rw [State.refusal, if_pos h]

theorem State.refusal_of_gone (faulted : s.faulted k = false) (h : s.available (s.driverOf k) = false) :
    s.refusal k = some .keyUnavailable := by
  rw [State.refusal, if_neg (by simp [faulted]), if_pos (by simp [h])]

theorem State.refusal_of_yielded (faulted : s.faulted k = false) (h : s.available (s.driverOf k) = true)
    (yielded : (s.driveOf k).state = .yielded) : s.refusal k = some .yielded := by
  rw [State.refusal, if_neg (by simp [faulted]), if_neg (by simp [h]), if_pos yielded]

end

/-- A refused Strike or SilentPress is dropped and counted. -/
theorem State.proceed_refused {s : State} {r : EventRecord} {e : CacheEntry} {points : List Breakpoint} {sc : Scalars}
    {counter : Counter} (hr : r.kind = .strike ∨ r.kind = .silentPress) (hk : e.kind = .key)
    (hp : e.page = .strike points sc) (refused : s.refusal e.target = some counter) : s.proceed r e = s.bump counter := by
  have dropped : s.admitStrike r e points sc = s.bump counter := by rw [State.admitStrike, refused]
  rcases hr with h | h <;> rw [State.proceed, h, hk, hp] <;> exact dropped

/-- A record whose entry is of the other kind is dropped (R127, R131, R132). -/
theorem State.proceed_otherKind {s : State} {r : EventRecord} {e : CacheEntry}
    (h : ((r.kind = .strike ∨ r.kind = .silentPress ∨ r.kind = .release) ∧ e.kind ≠ .key) ∨
      (r.kind = .pedal ∧ e.kind = .key)) : s.proceed r e = s.bump .voiceAbsent := by
  rcases h with ⟨hr, hk⟩ | ⟨hr, hk⟩
  · cases hkind : e.kind with
    | key => exact absurd hkind hk
    | pedal => rcases hr with h | h | h <;> (rw [State.proceed, h, hkind])
    | invertedPedal => rcases hr with h | h | h <;> (rw [State.proceed, h, hkind])
  · rw [State.proceed, hr, hk]

/-! ### Releases (R116, R131) -/

theorem State.proceed_release (s : State) {r : EventRecord} {e : CacheEntry} (hr : r.kind = .release) (hk : e.kind = .key) :
    s.proceed r e = s.admitRelease r e.target := by
  rw [State.proceed, hr, hk]

/-- The note of a key is owed no more. -/
def State.disowned (s : State) (k id : Nat) : State := s.modNote k id (fun n => { n with owed := false })

/-- The oldest note still owed. -/
theorem find?_owed_of_split {before after : List Note} {n : Note} (hb : ∀ m ∈ before, m.owed = false) (hn : n.owed = true) :
    (before ++ n :: after).find? Note.owed = some n := by
  rw [List.find?_append, List.find?_eq_none.mpr fun m hm => by simp [hb m hm]]
  simp [hn]

section
variable {s : State} {r : EventRecord} {k : Nat}

theorem State.admitRelease_orphan (h : ∀ n ∈ (s.driveOf k).notes, n.owed = false) :
    s.admitRelease r k = s.bump .orphan := by
  have none : (s.driveOf k).notes.find? Note.owed = none := List.find?_eq_none.mpr fun n hn => by simp [h n hn]
  rw [State.admitRelease, none]

variable {n : Note} (owed : (s.driveOf k).notes.find? Note.owed = some n)
include owed

theorem State.admitRelease_eq : s.admitRelease r k =
    if n.offDispatched then s.disowned k n.id
    else
      match s.driverOf k with
      | none => s.disowned k n.id
      | some b =>
        if releaseTick n.onset n.attack (s.feed (some b)) (s.clocking r.time) < n.off then
          (s.disowned k n.id).moveOff k n.id (releaseTick n.onset n.attack (s.feed (some b)) (s.clocking r.time)) .stream
        else s.disowned k n.id := by
  rw [State.admitRelease, owed] <;> rfl

/-- The note is owed no more; its Off stands or moves. -/
theorem State.admitRelease_cases :
    s.admitRelease r k = s.disowned k n.id ∨
      ∃ tick, s.admitRelease r k = (s.disowned k n.id).moveOff k n.id tick .stream := by
  rw [State.admitRelease_eq owed]
  split
  · exact .inl rfl
  · split
    · exact .inl rfl
    · split
      · exact .inr ⟨_, rfl⟩
      · exact .inl rfl

theorem State.admitRelease_kept (h : n.offDispatched = true ∨ s.driverOf k = none) :
    s.admitRelease r k = s.disowned k n.id := by
  rw [State.admitRelease_eq owed]
  rcases h with h | h
  · exact if_pos h
  · rw [h]; exact ite_self _

theorem State.admitRelease_driven {b : Nat} {x : RosterEntry} {tick : Nat} (open_ : n.offDispatched = false)
    (hb : s.driverOf k = some b) (hx : s.stationOf b = some x)
    (ht : tick = max (max (r.time + s.time.preroll + s.time.shift - (x.arrival + x.latency + 9) / 10) (n.onset + n.attack))
      s.earliest) :
    s.admitRelease r k =
      if tick < n.off then (s.disowned k n.id).moveOff k n.id tick .stream else s.disowned k n.id := by
  have same : releaseTick n.onset n.attack (s.feed (some b)) (s.clocking r.time) = tick := by
    rw [State.feed_of_station hx, ht, releaseTick, Int.toNat_sub]
    rfl
  rw [State.admitRelease_eq owed, if_neg (by simp [open_]), hb]
  dsimp only
  rw [same]

end

section
variable (s : State) {k : Nat} (id : Nat) (hk : Keyed k)

theorem State.disowned_touches : Touches { sched := true } s (s.disowned k id) := State.modNote_touches s k id _

theorem State.disowned_entries : (s.disowned k id).sched.entries = s.sched.entries := rfl

theorem State.disowned_pedals : (s.disowned k id).sched.pedals = s.sched.pedals := rfl

theorem State.driveOf_disowned_ne {j : Nat} (h : j ≠ k) : (s.disowned k id).driveOf j = s.driveOf j :=
  s.driveOf_modNote_ne id _ h

include hk

theorem State.driveOf_disowned : (s.disowned k id).driveOf k = { s.driveOf k with
    notes := (s.driveOf k).notes.map (fun m => if m.id = id then { m with owed := false } else m) } :=
  s.driveOf_mapNotes_self _ hk.1 hk.2

/-- Both changes of a Release to the key's record. -/
theorem State.driveOf_moveOff_disowned (tick : Nat) :
    ((s.disowned k id).moveOff k id tick .stream).driveOf k = { s.driveOf k with
      notes := (s.driveOf k).notes.map (fun m =>
        if m.id = id then { m with owed := false, off := tick, origin := .stream } else m) } := by
  rw [State.driveOf_moveOff_self _ id tick .stream hk.1 hk.2, s.driveOf_disowned id hk, List.map_map]
  refine congrArg (fun l => ({ s.driveOf k with notes := l } : KeyDrive)) (List.map_congr_left fun m _ => ?_)
  by_cases h : m.id = id
  · simp only [Function.comp_apply, if_pos h]
  · simp only [Function.comp_apply, if_neg h]

end

/-! ### Pedal records (R117, R118, R132) -/

theorem State.proceed_pedal (s : State) {r : EventRecord} {e : CacheEntry} {points : List Breakpoint} (hr : r.kind = .pedal)
    (hk : e.kind ≠ .key) (hp : e.page = .pedal points) : s.proceed r e = s.admitPedal r e points := by
  cases h : e.kind with
  | key => exact absurd h hk
  | pedal => rw [State.proceed, hr, h, hp]
  | invertedPedal => rw [State.proceed, hr, h, hp]

/-- The setting of a Pedal record, each stage as it is formed. -/
theorem computePedal_eq {points : List Breakpoint} {inverted : Bool} {trim input first last value position level lead : Nat}
    {read : Nat × Nat} {f : Feed} {c : Clocking} (hf : (points.head?.map Breakpoint.input).getD 0 = first)
    (hl : (points.getLast?.map Breakpoint.input).getD 0 = last) (ends : first ≤ last)
    (hv : value = if inverted then 255 - min input 255 else min input 255) (hp : position = max first (min value last))
    (hr : read = readCurve points position)
    (hlevel : level = read.1 * trim / 1000 * (1000 + f.alpha * (f.temperature - 25).toNat) / 1000)
    (hlead : lead = (read.2 + f.arrival + f.latency + 9) / 10) :
    computePedal points inverted trim input f c =
      { onset := max (c.due - lead) c.earliest, level := min level (if f.hot then 768 else 1023),
        late := decide (c.due < c.earliest + lead), clamped := decide (255 < input ∨ position ≠ value),
        saturated := decide ((if f.hot then 768 else 1023) < level) } := by
  have limited : limitTo points value = (position, decide (position ≠ value)) := by
    rw [limitTo, curveEnds, hf, hl]
    dsimp only
    have limit : (if value < first then first else if last < value then last else value) = position := by
      rw [hp]; split_ifs <;> omega
    rw [limit]
    refine Prod.ext rfl ?_
    rw [Bool.eq_iff_iff, bne_iff_ne, decide_eq_true_iff]
  have derated : derate (read.1 * trim / 1000) f = _ := derate_eq _ f hlevel rfl
  have ticks : leadTicks read.2 f = lead := hlead.symm
  rw [computePedal, ← hv, limited]
  dsimp only
  rw [← hr, derated, ticks]
  congr 1
  · split_ifs <;> omega
  · rw [decide_eq_decide]; omega
  · rw [Bool.eq_iff_iff, Bool.or_eq_true, bne_iff_ne, decide_eq_true_iff, decide_eq_true_iff]
    refine or_congr ?_ Iff.rfl
    omega

/-- The PedalSet of a Pedal record (R132). -/
def CacheEntry.pedalSet (e : CacheEntry) (p : PedalSetting) : Entry :=
  { kind := .pedalSet, onset := p.onset, target := e.target, level := p.level, holdLevel := 0, attack := 0, rearm := 0,
    via := some ⟨e.voice, e.set⟩, note := none, marker := 0, strike := 0, velocity := 0 }

theorem State.setEntries_sched (s : State) (l : List Entry) : (s.setEntries l).sched = { s.sched with entries := l } := rfl

/-- A Pedal record's counts (R117, R118). -/
def State.countPedal (s : State) (p : PedalSetting) : State :=
  ((s.bumpIf p.clamped .clamped).bumpIf p.saturated .saturated).bumpIf p.late .late

theorem State.countPedal_touches (s : State) (p : PedalSetting) : Touches { port := true } s (s.countPedal p) :=
  ((s.bumpIf_touches _ _).seq (State.bumpIf_touches _ _ _)).seq (State.bumpIf_touches _ _ _)

theorem State.countPedal_count (s : State) (p : PedalSetting) :
    (s.countPedal p).count .clamped = (if p.clamped then countUp (s.count .clamped) else s.count .clamped) ∧
      (s.countPedal p).count .saturated = (if p.saturated then countUp (s.count .saturated) else s.count .saturated) ∧
      (s.countPedal p).count .late = (if p.late then countUp (s.count .late) else s.count .late) ∧
      ∀ n, n ≠ .clamped → n ≠ .saturated → n ≠ .late → (s.countPedal p).count n = s.count n := by
  unfold State.countPedal
  refine ⟨?_, ?_, ?_, fun n hc hs hl => ?_⟩
  · rw [State.count_bumpIf_ne _ _ (by decide), State.count_bumpIf_ne _ _ (by decide), State.count_bumpIf_self]
  · rw [State.count_bumpIf_ne _ _ (by decide), State.count_bumpIf_self, State.count_bumpIf_ne _ _ (by decide)]
  · rw [State.count_bumpIf_self, State.count_bumpIf_ne _ _ (by decide), State.count_bumpIf_ne _ _ (by decide)]
  · rw [State.count_bumpIf_ne _ _ hl, State.count_bumpIf_ne _ _ hs, State.count_bumpIf_ne _ _ hc]

section
variable {s : State} {r : EventRecord} {e : CacheEntry} {points : List Breakpoint}

theorem State.admitPedal_gone (h : s.available (s.pedalDriverOf e.target) = false) : s.admitPedal r e points = s := by
  unfold State.admitPedal
  exact if_pos (by rw [h]; rfl)

theorem State.admitPedal_driven {p : PedalSetting} (h : s.available (s.pedalDriverOf e.target) = true)
    (hp : p = computePedal points (e.kind == .invertedPedal) e.trim r.value (s.feed (s.pedalDriverOf e.target))
      (s.clocking r.time)) :
    s.admitPedal r e points =
      (s.countPedal p).setEntries (insertEntry (e.pedalSet p) (s.countPedal p).sched.entries) := by
  unfold State.admitPedal
  rw [hp]
  exact if_neg (by rw [h]; decide)

end

/-- Settles O42: each of the other records through its lemma about `State.proceed`. -/
theorem releasesPedalsAndDropsAtAdmission : Obligations.ReleasesPedalsAndDropsAtAdmission := by
  intro r rest e s u intake met low high cached hu
  replace hu : u = s.played rest e := hu
  have run : r.kind ≠ .marker → r.kind ≠ .endOfReplay → exec .admitRecord s = .next (u.proceed r e) := fun marker ends => by
    rw [hu]; exact exec_admitRecord_of_cached intake met marker ends low high cached
  have before : Touches { voices := true, intake := true } s u := by rw [hu]; exact State.played_touches intake e
  have played : u.intake = rest := by rw [hu]; rfl
  have station : ∀ b, u.stationOf b = s.stationOf b :=
    fun b => State.stationOf_congr (congrArg ActionLink.roster (before.link rfl)) b
  have drive : ∀ j, u.driveOf j = s.driveOf j :=
    fun j => State.driveOf_congr (congrArg DriveSchedule.keys (before.sched rfl)) j
  have driver : ∀ j, u.driverOf j = s.driverOf j :=
    fun j => State.driverOf_congr (congrArg ActionLink.roster (before.link rfl)) j
  have faulted : ∀ j, u.faulted j = s.faulted j :=
    fun j => State.faulted_congr (congrArg ActionLink.faults (before.link rfl)) j
  have available : ∀ d, u.available d = s.available d := fun d => by rw [hu]; rfl
  refine ⟨fun points sc k hr hk hp target => ?_, fun other => ?_, fun k hr hk target keyed => ?_,
    fun points q hr hk hp target => ?_⟩
  · have plays : r.kind ≠ .marker ∧ r.kind ≠ .endOfReplay := by rcases hr with h | h <;> rw [h] <;> decide
    rw [run plays.1 plays.2]
    have drops : ∀ {c : Counter}, u.refusal k = some c → u.proceed r e = u.bump c :=
      fun refused => State.proceed_refused hr hk hp (target ▸ refused)
    refine ⟨fun h => by rw [drops (State.refusal_of_faulted ((faulted k).trans h))], fun h => ⟨fun gone => ?_,
      fun b x hb hlow hx present yielded => ?_⟩⟩
    · refine congrArg Host.Outcome.next (drops (State.refusal_of_gone ((faulted k).trans h) ?_))
      rw [driver, available]
      exact State.available_of_gone gone
    · refine congrArg Host.Outcome.next
        (drops (State.refusal_of_yielded ((faulted k).trans h) ?_ (by rw [drive]; exact yielded)))
      rw [driver, available, hb]
      exact State.available_of_present hlow hx present
  · have plays : r.kind ≠ .marker ∧ r.kind ≠ .endOfReplay := by
      rcases other with ⟨h | h | h, -⟩ | ⟨h, -⟩ <;> rw [h] <;> decide
    rw [run plays.1 plays.2, State.proceed_otherKind other]
  · rw [run (by rw [hr]; decide) (by rw [hr]; decide), u.proceed_release hr hk, target]
    refine ⟨fun none_owed => congrArg Host.Outcome.next (State.admitRelease_orphan (by rw [drive]; exact none_owed)),
      fun before' n after notes hb hn => ?_⟩
    have owed : (u.driveOf k).notes.find? Note.owed = some n := by rw [drive, notes]; exact find?_owed_of_split hb hn
    have disowned := u.disowned_touches (k := k) n.id
    have kept : (u.disowned k n.id).sched.entries = s.sched.entries ∧ (u.disowned k n.id).driveOf k =
        { s.driveOf k with notes := (s.driveOf k).notes.map (fun m =>
          if m.id = n.id then { m with owed := false } else m) } := by
      refine ⟨show u.sched.entries = s.sched.entries from congrArg DriveSchedule.entries (before.sched rfl), ?_⟩
      rw [u.driveOf_disowned n.id keyed, drive]
    obtain ⟨t, ht⟩ : ∃ t, t = u.admitRelease r k := ⟨_, rfl⟩
    have blocks : Touches { sched := true } u t ∧ t.sched.pedals = u.sched.pedals ∧
        ∀ j, j ≠ k → t.driveOf j = u.driveOf j := by
      rcases State.admitRelease_cases (r := r) owed with h | ⟨tick, h⟩ <;> rw [ht, h]
      · exact ⟨disowned, rfl, fun j hj => u.driveOf_disowned_ne n.id hj⟩
      · exact ⟨disowned.seq (State.moveOff_touches _ _ _ _ _), rfl, fun j hj =>
          (State.driveOf_moveOff_ne _ n.id tick .stream hj).trans (u.driveOf_disowned_ne n.id hj)⟩
    obtain ⟨touched, pedals, keys⟩ := blocks
    refine ⟨t, by rw [ht], (touched.intake rfl).trans played, touched.voices rfl, (touched.port rfl).trans (before.port rfl),
      fun j hj => (keys j hj).trans (drive j), pedals.trans (congrArg DriveSchedule.pedals (before.sched rfl)),
      (before.mono rfl).seq (touched.mono rfl), fun h => ?_, fun b x tick hopen hb' hx htick => ⟨fun h => ?_, fun h => ?_⟩⟩
    · rw [ht, State.admitRelease_kept owed (by rw [driver]; exact h)]
      exact kept
    · rw [ht, State.admitRelease_driven owed hopen ((driver k).trans hb') ((station b).trans hx)
        (htick.trans (by rw [hu]; rfl)), if_neg (by omega)]
      exact kept
    · rw [ht, State.admitRelease_driven owed hopen ((driver k).trans hb') ((station b).trans hx)
        (htick.trans (by rw [hu]; rfl)), if_pos h]
      refine ⟨?_, fun ordered => ?_, ?_⟩
      · rw [← kept.1]; exact State.moveOff_entries_perm _ k n.id tick .stream
      · exact State.ordered_moveOff _ k n.id tick .stream (by rw [kept.1]; exact ordered)
      · rw [u.driveOf_moveOff_disowned n.id keyed tick, drive]
  · rw [run (by rw [hr]; decide) (by rw [hr]; decide), u.proceed_pedal hr hk hp]
    have pedalDriver : u.pedalDriverOf e.target = s.pedalDriverOf q := by rw [target, hu]; rfl
    refine ⟨fun gone => ?_, fun b x first last value position read level lead due hb hlow hx present hf hl ends hv hpos hread
      hlevel hlead hdue => ?_⟩
    · rw [State.admitPedal_gone (by rw [pedalDriver, available]; exact State.available_of_gone gone)]
    · obtain ⟨p, hp'⟩ : ∃ p, p = computePedal points (e.kind == .invertedPedal) e.trim r.value
          (u.feed (u.pedalDriverOf e.target)) (u.clocking r.time) := ⟨_, rfl⟩
      have set := State.admitPedal_driven (s := u)
        (by rw [pedalDriver, available, hb]; exact State.available_of_present hlow hx present) hp'
      have hot : u.isHot b = s.isHot b := by rw [hu]; rfl
      rw [pedalDriver, hb, State.feed_of_station ((station b).trans hx), hot] at hp'
      have setting := computePedal_eq (trim := e.trim) (input := r.value) (inverted := e.kind == .invertedPedal)
        (f := ⟨x.arrival, x.latency, x.alpha, x.temperature, s.isHot b⟩) (c := u.clocking r.time) hf hl ends
        (by rw [hv]; exact if_congr beq_iff_eq.symm rfl rfl) hpos hread hlevel hlead
      have clock : (u.clocking r.time).due = due ∧ (u.clocking r.time).earliest = s.earliest := by
        rw [hu, hdue]; exact ⟨rfl, rfl⟩
      rw [← hp', clock.1, clock.2] at setting
      have counted : ∀ n, u.count n = s.count n := fun n => by rw [hu]; rfl
      obtain ⟨clamped, saturated, late, others⟩ := u.countPedal_count p
      have counts := u.countPedal_touches p
      have sched : (u.countPedal p).sched = s.sched := (counts.sched rfl).trans (before.sched rfl)
      refine ⟨_, e.pedalSet p, congrArg Host.Outcome.next set, (counts.intake rfl).trans played, counts.voices rfl, rfl, target,
        by rw [setting]; rfl, by rw [setting]; rfl, rfl, rfl, ?_, clamped.trans ?_, saturated.trans ?_, late.trans ?_,
        fun n h1 h2 h3 => (others n h1 h2 h3).trans (counted n), ?_⟩
      · rw [State.setEntries_sched, sched]
      · rw [setting, counted]; exact if_congr decide_eq_true_iff rfl rfl
      · rw [setting, counted]; exact if_congr decide_eq_true_iff rfl rfl
      · rw [setting, counted]; exact if_congr decide_eq_true_iff rfl rfl
      · exact ((before.mono rfl).seq (counts.mono rfl)).seq ((State.setEntries_touches _ _).mono rfl)

end Sys2Proof.Machine
end

section
/-! PROOFS. A store operation in flight: what it leaves alone (O38). -/

namespace Sys2Proof.Machine

/-! ### The part while a store operation is in flight (R185) -/

/-- What `State.storeLawful` says while a store operation is in flight: the mode is Idle, and nothing is scheduled, expected, walked
or struck. -/
structure State.Dormant (s : State) : Prop where
  busy : s.storeBusy = true
  mode : s.time.mode = .idle
  stopped : s.time.transport = .stopped
  entries : s.sched.entries = []
  windows : s.duplex.windows = Vector.replicate 97 none
  walk : s.voices.walk = none
  current : s.calib.current = none

theorem State.dormant_of_busy {s : State} (lawful : s.storeLawful) (busy : s.storeBusy = true) : s.Dormant := by
  obtain ⟨mode, idle, rest, -, -⟩ := lawful
  obtain ⟨entries, windows, walk, current⟩ := rest (.inr (idle (mode busy)))
  exact ⟨busy, mode busy, idle (mode busy), entries, windows, walk, current⟩

/-- The step leaves a part with a store operation in flight so, with its Table Memory. -/
structure Sleeps (s t : State) : Prop where
  keeps : s.Dormant → t.Dormant ∧ t.mem = s.mem

theorem Sleeps.refl (s : State) : Sleeps s s := ⟨fun h => ⟨h, rfl⟩⟩

theorem Sleeps.trans {s t u : State} (h : Sleeps s t) (k : Sleeps t u) : Sleeps s u :=
  ⟨fun d =>
    have ⟨dt, mt⟩ := h.keeps d
    have ⟨du, mu⟩ := k.keeps dt
    ⟨du, mu.trans mt⟩⟩

theorem Sleeps.foldl {α : Type} {f : State → α → State} (h : ∀ s a, Sleeps s (f s a)) (l : List α) (s : State) :
    Sleeps s (l.foldl f s) := by
  induction l generalizing s with
  | nil => exact .refl s
  | cons a l ih => exact (h s a).trans (ih (f s a))

theorem Sleeps.ite {p : Prop} [Decidable p] {s t u : State} (h : p → Sleeps s t) (k : ¬p → Sleeps s u) :
    Sleeps s (if p then t else u) := by
  split
  · next hp => exact h hp
  · next hp => exact k hp

/-- What a dormant part answers may be looked up under that hypothesis. -/
theorem Sleeps.of_dormant {s t : State} (h : s.Dormant → Sleeps s t) : Sleeps s t := ⟨fun d => (h d).keeps d⟩

theorem Sleeps.of_eq {s t : State} (h : s.Dormant → t = s) : Sleeps s t := .of_dormant fun d => by rw [h d]; exact .refl s

/-- A quiet change that leaves Table Memory alone. -/
theorem Quiet.sleeps {b : Blocks} {s t : State} (h : Quiet s t) (k : Touches b s t) (hb : b.mem = false) : Sleeps s t := by
  refine ⟨fun d => ?_⟩
  obtain ⟨-, -, -, transport, -, mode⟩ := h.clock
  have size := h.sched.length
  rw [d.entries] at size
  exact ⟨⟨(State.storeBusy_congr h.op).trans d.busy, mode.trans d.mode, transport.trans d.stopped,
    List.length_eq_zero_iff.1 (by simpa using size), h.windows d.windows, eq_none_of_isSome_imp (fun x => (h.walk x).1) d.walk,
    eq_none_of_isSome_imp h.current d.current⟩, k.mem hb⟩

theorem State.Dormant.not_taking {s : State} (d : s.Dormant) : s.taking = false := by
  simp [State.taking, d.stopped]

theorem State.Dormant.windowOf {s : State} (d : s.Dormant) (k : Nat) : s.windowOf k = none := by
  unfold State.windowOf
  rw [d.windows]
  exact nth_replicate none k

/-- A change of the other blocks that adds no entry to an empty schedule. -/
theorem Sleeps.of_touches {s t : State}
    (k : Touches { link := true, tracker := true, capture := true, intake := true, sched := true, port := true,
                   pending := true } s t)
    (he : s.sched.entries = [] → t.sched.entries = []) : Sleeps s t :=
  ⟨fun d => ⟨⟨(State.storeBusy_congr (congrArg CalibrationStore.op (k.store rfl))).trans d.busy,
    (congrArg TimeBase.mode (k.time rfl)).trans d.mode, (congrArg TimeBase.transport (k.time rfl)).trans d.stopped,
    he d.entries, (congrArg DuplexMonitor.windows (k.duplex rfl)).trans d.windows,
    (congrArg VoiceUnit.walk (k.voices rfl)).trans d.walk, (congrArg Sequencer.current (k.calib rfl)).trans d.current⟩,
    k.mem rfl⟩⟩

theorem State.reply_sleeps (s : State) (tag : Byte) (request : Nat) (result : Result) (data : ReplyData) :
    Sleeps s (s.reply tag request result data) :=
  (s.reply_quiet ..).sleeps (s.reply_touches ..) rfl

theorem State.setLink_sleeps (s : State) (l : ActionLink) : Sleeps s { s with link := l } :=
  ⟨fun d => ⟨⟨d.busy, d.mode, d.stopped, d.entries, d.windows, d.walk, d.current⟩, rfl⟩⟩

/-! ### The hand-over of a return (R22, R51) -/

/-- Nothing is handed on while Stopped (R52). -/
theorem State.routeStrike_sleeps (s : State) (k v stamp strike : Nat) : Sleeps s (s.routeStrike k v stamp strike) :=
  .of_eq fun d => by
    unfold State.routeStrike
    exact if_pos (by rw [d.not_taking]; rfl)

theorem State.trackerCount_sleeps (s : State) (c : Counter) : Sleeps s (s.trackerCount c) :=
  (s.trackerCount_quiet c).sleeps (s.trackerCount_touches c) rfl

theorem State.setTracker_sleeps (s : State) (k : Nat) (r : TrackerRecord) : Sleeps s (s.setTracker k r) :=
  (s.setTracker_quiet k r).sleeps (s.setTracker_touches k r) rfl

theorem State.strokeStruck_sleeps (s : State) (k raw : Nat) : Sleeps s (s.strokeStruck k raw) :=
  (s.setTracker_sleeps k _).trans ((State.bumpIf_quiet _ _ _).sleeps (State.bumpIf_touches _ _ _) rfl)

theorem State.h2Up_sleeps (s : State) (k : Nat) (x : Instant) : Sleeps s (s.h2Up k x) := by
  unfold State.h2Up
  split
  · rw [s.endStroke_eq k x _ _ _ _ rfl rfl rfl rfl]
    exact .ite (fun _ => (s.setTracker_sleeps k _).trans (State.trackerCount_sleeps _ _)) fun _ =>
      .ite (fun _ => (s.strokeStruck_sleeps k _).trans (State.trackerCount_sleeps _ _))
        (fun _ => (s.strokeStruck_sleeps k _).trans (State.routeStrike_sleeps _ _ _ _ _))
  · exact s.trackerCount_sleeps _
  · exact s.trackerCount_sleeps _
  · exact .refl s

theorem State.takeCrossing_sleeps (s : State) (cycle : Nat) (x : Crossing) : Sleeps s (s.takeCrossing cycle x) := by
  unfold State.takeCrossing
  refine ((s.abandon_quiet { cycle := cycle, fine := x.fine } x.key).sleeps (s.abandon_touches _ _) rfl).trans ?_
  simp only
  split
  · exact (State.krOut_quiet _ _).sleeps (State.krOut_touches _ _) rfl
  · exact (State.krIn_quiet _ _ _).sleeps (State.krIn_touches _ _ _) rfl
  · exact (State.kdDown_quiet _ _ _).sleeps (State.kdDown_touches _ _ _) rfl
  · exact (State.h1Up_quiet _ _ _).sleeps (State.h1Up_touches _ _ _) rfl
  · exact (State.h1Down_quiet _ _).sleeps (State.h1Down_touches _ _) rfl
  · exact State.h2Up_sleeps _ _ _
  · exact .refl _

theorem State.takeSection_sleeps (s : State) (cycle : Nat) (sections : Vector (Option SectionReport) 8)
    (b : Nat × RosterEntry) : Sleeps s (s.takeSection cycle sections b) := by
  unfold State.takeSection
  split
  · exact .refl s
  · refine Sleeps.foldl (fun s c => ?_) _ s
    unfold State.judgeCrossing
    exact .ite (fun _ => .refl s) fun _ => .ite (fun _ => s.trackerCount_sleeps _) fun _ => s.takeCrossing_sleeps cycle c

theorem State.handOver_sleeps (s : State) (cycle : Nat) (sections : Vector (Option SectionReport) 8) :
    Sleeps s (s.handOver cycle sections) := by
  rw [s.handOver_eq]
  exact (((Sleeps.foldl (fun s b => s.takeSection_sleeps cycle sections b) s.presentStations s).trans
    (Sleeps.foldl (fun s b => (s.takeFlag_quiet sections b).sleeps (s.takeFlag_touches sections b) rfl) s.presentStations _)).trans
    ((Sleeps.foldl (fun s b => (s.takePedals_quiet cycle sections b).sleeps (s.takePedals_touches cycle sections b) rfl)
      s.presentStations _).trans
      ((State.abandonAll_quiet _ cycle).sleeps (State.abandonAll_touches _ cycle) rfl))).trans
    (Sleeps.foldl (fun s k => (s.restKey_quiet (s.readable sections k) k).sleeps (s.restKey_touches _ k) rfl) allKeys _)

/-! ### A return (R21, R22) -/

theorem State.slotAndSlow_sleeps (s : State) (cycle : Nat) (r : Return) :
    Sleeps s ((s.takeSlot cycle r.slot).slowChannel cycle r) :=
  ((s.takeSlot_quiet cycle r.slot).sleeps (s.takeSlot_touches _ _) rfl).trans
    ((State.slowChannel_quiet _ cycle r).sleeps (State.slowChannel_touches _ cycle r) rfl)

theorem State.handUp_sleeps (s : State) (cycle : Nat) (r : Return) :
    Sleeps s (((allStations.foldl (fun s b => s.countSection r.sections b) (s.takeSlot cycle r.slot)).handOver cycle
      r.sections).slowChannel cycle r) :=
  ((((s.takeSlot_quiet cycle r.slot).sleeps (s.takeSlot_touches _ _) rfl).trans
    (Sleeps.foldl (fun s b => (s.countSection_quiet r.sections b).sleeps (s.countSection_touches _ b) rfl) allStations _)).trans
    (State.handOver_sleeps _ cycle r.sections)).trans
    ((State.slowChannel_quiet _ cycle r).sleeps (State.slowChannel_touches _ cycle r) rfl)

theorem State.enterLink_sleeps (s : State) (into : LinkState) (cause : LinkCause) : Sleeps s (s.enterLink into cause) :=
  (s.enterLink_quiet into cause).sleeps (s.enterLink_touches into cause) rfl

theorem State.takeReturn_sleeps (s : State) (elapsed : Nat) (bytes : List Byte) : Sleeps s (s.takeReturn elapsed bytes) := by
  unfold State.takeReturn
  split
  · exact .refl s
  · refine .ite (fun _ => .refl s) fun _ => .ite (fun _ => ?_) fun _ =>
      (s.missingReturn_quiet _).sleeps (s.missingReturn_touches _) rfl
    rw [State.validReturn_eq]
    refine (show Sleeps s (s.returnTaken elapsed) from s.setLink_sleeps _).trans ?_
    unfold State.handReturn
    split
    · exact .refl _
    · exact (State.setLink_sleeps _ _).trans (.ite (fun _ => State.enterLink_sleeps _ _ _) fun _ => .refl _)
    · exact State.slotAndSlow_sleeps _ _ _
    · exact State.handUp_sleeps _ _ _
    · exact State.handUp_sleeps _ _ _
    · exact (State.slotAndSlow_sleeps _ _ _).trans
        (.ite (fun _ => (State.recover_quiet _).sleeps (State.recover_touches _) rfl) fun _ => .refl _)

/-! ### The frame of a cycle start: with the transport Stopped nothing is dispatched (R135) -/

theorem State.itemSent_touchesSched (s : State) (i : Item) : Touches { sched := true } s (s.itemSent i) := by
  cases i with
  | offNow k => exact s.offNowSent_touches k
  | rest q => exact s.restSent_touches q
  | entry n e => exact .refl _ s

theorem State.itemSent_entries (s : State) (i : Item) : (s.itemSent i).sched.entries = s.sched.entries := by
  cases i <;> rfl

theorem State.fillNothing_sleeps (s : State) : Sleeps s (s.fillSections s.sched.entries []).1 := by
  obtain ⟨u, hu⟩ : ∃ u, u = s.cleared (commandsIn []) := ⟨_, rfl⟩
  have cleared : Touches { sched := true } s u := by rw [hu]; exact s.cleared_touches _
  have entries : u.sched.entries = s.sched.entries := by rw [hu]; exact s.cleared_entries _
  rw [s.fillSections_eq s.sched.entries [] hu]
  have postponed : (u.postpones s.sched.entries (commandsIn [])).sched.entries =
      (State.moveEntries (u.setEntries s.sched.entries) (fun _ => 0)).sched.entries := rfl
  obtain ⟨items, hitems⟩ : ∃ items, items = (u.itemsFor (commandsIn [])).flatten := ⟨_, rfl⟩
  rw [← hitems]
  have sent : ∀ w : State, (u.sentOf []).foldl State.sent w = w := fun _ => rfl
  rw [sent]
  have placed := Touches.foldl State.itemSent_touchesSched items (u.postpones s.sched.entries (commandsIn []))
  refine Sleeps.of_touches ((cleared.mono rfl).seq
    (((u.postpones_touches s.sched.entries (commandsIn [])).mono rfl).seq (placed.mono rfl))) fun he => ?_
  rw [foldl_entries State.itemSent_entries, postponed, State.moveEntries_entries, State.setEntries_sched_entries, he]
  rfl

theorem State.takeCommands_sleeps (s : State) : Sleeps s s.takeCommands.1 := by
  unfold State.takeCommands
  split
  · exact .refl s
  · exact .refl s
  · exact .refl s
  · exact s.fillNothing_sleeps
  · exact s.fillNothing_sleeps
  · refine .of_dormant fun d => ?_
    rw [if_neg (by simp [State.dispatches, d.stopped])]
    exact s.fillNothing_sleeps

theorem State.buildFrame_sleeps (s : State) : Sleeps s s.buildFrame := by
  unfold State.buildFrame
  exact .ite (fun _ => .refl s) fun _ => s.takeCommands_sleeps.trans (State.setLink_sleeps _ _)

/-! ### What else a cycle start takes -/

/-- A change of the Time Base that keeps the mode and the transport. -/
theorem State.setTime_sleeps (s : State) {x : TimeBase} (mode : x.mode = s.time.mode)
    (transport : x.transport = s.time.transport) : Sleeps s (s.setTime x) :=
  ⟨fun d => ⟨⟨d.busy, mode.trans d.mode, transport.trans d.stopped, d.entries, d.windows, d.walk, d.current⟩, rfl⟩⟩

theorem State.advanceCycle_sleeps (s : State) : Sleeps s s.advanceCycle :=
  ⟨fun d => ⟨⟨d.busy, d.mode, d.stopped, d.entries, d.windows, d.walk, d.current⟩, rfl⟩⟩

theorem State.linkLeftPause_sleeps (s : State) : Sleeps s s.linkLeftPause := by
  unfold State.linkLeftPause
  refine .ite (fun _ => .of_dormant fun d => ?_) fun _ => .refl s
  dsimp only
  rw [if_neg (by show s.time.transport ≠ .running; rw [d.stopped]; decide)]
  exact s.setTime_sleeps (by rfl) (by rfl)

theorem State.reachCue_eq_self {s : State} (d : s.Dormant) : s.reachCue = s := by
  have due : s.cueDue = none := by
    unfold State.cueDue
    exact if_neg (by rw [d.not_taking]; decide)
  rw [State.reachCue, due]

theorem State.reachEnd_eq_self {s : State} (d : s.Dormant) : s.reachEnd = s := by
  unfold State.reachEnd
  split
  · rfl
  · exact if_neg fun h => absurd (h.1.symm.trans d.stopped) (by decide)

theorem State.reachClockEnd_eq_self {s : State} (d : s.Dormant) : s.reachClockEnd = s := by
  unfold State.reachClockEnd
  exact if_neg (by simp [d.not_taking])

theorem State.expireWindow_eq_self {s : State} (d : s.Dormant) (k : Nat) : s.expireWindow k = s := by
  rw [State.expireWindow, d.windowOf k]

theorem State.testHead_eq_self {s : State} (d : s.Dormant) : s.testHead = s := by
  cases hr : s.intake with
  | nil => rw [State.testHead, hr]
  | cons r rest =>
    refine State.testHead_waits hr fun met => ?_
    exact absurd (((s.admissible_iff r).mp met).1.symm.trans d.stopped) (by decide)

theorem State.walkEnd_eq_self {s : State} (d : s.Dormant) : s.walkEnd = s := by rw [State.walkEnd, d.walk]

theorem State.walkRead_eq_self {s : State} (d : s.Dormant) : s.walkRead = s := by rw [State.walkRead, d.walk]

theorem State.retryStrike_eq_self {s : State} (d : s.Dormant) : s.retryStrike = s := by rw [State.retryStrike, d.current]

/-- The job test of Idle finds nothing to run (R157). -/
theorem State.startJob_sleeps (s : State) : Sleeps s s.startJob := by
  refine .of_dormant fun d => ?_
  have runs : s.jobsRun = false := by simp [State.jobsRun, d.stopped]
  have tested : Sleeps s { s with calib := { s.calib with testDue := false } } :=
    ⟨fun d => ⟨⟨d.busy, d.mode, d.stopped, d.entries, d.windows, d.walk, d.current⟩, rfl⟩⟩
  unfold State.startJob
  rw [runs]
  refine .ite (fun _ => .refl s) fun _ => ?_
  split
  · next h => exact absurd h (by decide)
  · exact tested

/-! ### The requests that wait for a cycle start, while a store operation is in flight (R185) -/

theorem State.Dormant.restoring_or_saving {s : State} (d : s.Dormant) : s.restoring = true ∨ s.saving = true :=
  Bool.or_eq_true_iff.mp d.busy

theorem Sleeps.unlessRestoring {s : State} {tag : Byte} {code : Nat} {owner : State → State} (h : Sleeps s (owner s)) :
    Sleeps s (s.unlessRestoring tag code owner) :=
  .ite (fun _ => s.reply_sleeps ..) fun _ => h

theorem State.takeMode_sleeps (s : State) (tag : Byte) (code : Nat) : Sleeps s (s.takeMode tag code) := by
  unfold State.takeMode
  refine .ite (fun _ => s.reply_sleeps ..) fun restoring => .of_dormant fun d => ?_
  have saving : s.saving = true := d.restoring_or_saving.resolve_left restoring
  refine .ite (fun _ => s.reply_sleeps ..) fun other => .ite (fun _ => s.reply_sleeps ..) fun idle => absurd ?_ idle
  rw [d.mode]
  exact show code = 1 by simpa [saving] using other

theorem State.transportStart_sleeps (s : State) (tag : Byte) (preroll : Nat) : Sleeps s (s.transportStart tag preroll) :=
  .unlessRestoring (.of_dormant fun d => by
    rw [if_neg (by simp [State.mayStart, d.mode])]
    exact s.reply_sleeps ..)

theorem State.transportPause_sleeps (s : State) (tag : Byte) : Sleeps s (s.transportPause tag) :=
  .unlessRestoring (.of_dormant fun d => by
    rw [if_neg (by simp [d.stopped])]
    exact s.reply_sleeps ..)

theorem State.transportResume_sleeps (s : State) (tag : Byte) : Sleeps s (s.transportResume tag) :=
  .unlessRestoring (.of_dormant fun d => by
    rw [if_neg (by simp [d.stopped])]
    exact s.reply_sleeps ..)

theorem State.transportStop_sleeps (s : State) (tag : Byte) : Sleeps s (s.transportStop tag) :=
  .unlessRestoring (.of_dormant fun d => by
    rw [if_neg (by simp [d.not_taking])]
    exact s.reply_sleeps ..)

theorem State.takeCue_sleeps (s : State) (tag : Byte) (presence tick : Nat) : Sleeps s (s.takeCue tag presence tick) :=
  .unlessRestoring (.ite (fun _ => (s.setTime_sleeps (by rfl) (by rfl)).trans (State.reply_sleeps ..)) fun _ =>
    .ite (fun _ => s.reply_sleeps ..) fun _ => .ite (fun _ => s.reply_sleeps ..) fun _ =>
      (s.setTime_sleeps (by rfl) (by rfl)).trans (State.reply_sleeps ..))

theorem State.takeTimed_sleeps (s : State) (r : Byte × Request) : Sleeps s (s.takeTimed r) := by
  unfold State.takeTimed
  split
  · exact s.takeMode_sleeps _ _
  · exact s.transportStart_sleeps _ _
  · exact s.transportPause_sleeps _
  · exact s.transportResume_sleeps _
  · exact s.transportStop_sleeps _
  · exact s.takeCue_sleeps _ _ _
  · exact .refl s

theorem State.takeNext_sleeps (s : State) : Sleeps s s.takeNext := by
  unfold State.takeNext
  split
  · exact .refl s
  · exact (s.setTime_sleeps (by rfl) (by rfl)).trans (State.takeTimed_sleeps _ _)

theorem State.startAction_sleeps (s : State) (a : StartAction) : Sleeps s (s.startAction a) := by
  cases a with
  | frame => exact s.linkLeftPause_sleeps.trans (State.buildFrame_sleeps _)
  | request => exact s.takeNext_sleeps
  | release => exact s.captureRelease_quiet.sleeps s.captureRelease_touches rfl
  | retry => exact .of_eq State.retryStrike_eq_self
  | pauseLinkLeft => exact s.linkLeftPause_sleeps
  | cueReached => exact .of_eq State.reachCue_eq_self
  | endTick => exact .of_eq State.reachEnd_eq_self
  | clockEnd => exact .of_eq State.reachClockEnd_eq_self
  | windowExpiry k => exact .of_eq fun d => State.expireWindow_eq_self d k
  | jobStart => exact s.startJob_sleeps
  | recoveryLimit => exact s.expireRecovery_quiet.sleeps s.expireRecovery_touches rfl
  | admitRecord => exact .of_eq State.testHead_eq_self
  | walkRead => exact .of_eq State.walkRead_eq_self
  | walkEnd => exact .of_eq State.walkEnd_eq_self

theorem State.cycleStart_sleeps (s : State) (order : List StartAction) : Sleeps s (s.cycleStart order) :=
  (s.advanceCycle_sleeps.trans (Sleeps.foldl State.startAction_sleeps _ _)).trans
    ((State.setTime_sleeps _ (by rfl) (by rfl)).trans (Sleeps.foldl State.takeTimed_sleeps _ _))

end Sys2Proof.Machine
end

section
/-! PROOFS. The bounds of the store operations (O38). -/

namespace Sys2Proof.Machine

/-! ### What a request leaves of the store -/

/-- No block of the store is written; and while a store operation is in flight it stays so, and Table Memory stands. -/
structure Stored (s t : State) : Prop where
  blocks : t.store.blocks = s.store.blocks
  busy : s.storeBusy = true → t.store.op = s.store.op ∧ t.mem = s.mem

theorem Stored.refl (s : State) : Stored s s := ⟨rfl, fun _ => ⟨rfl, rfl⟩⟩

theorem Stored.trans {s t u : State} (h : Stored s t) (k : Stored t u) : Stored s u :=
  ⟨k.blocks.trans h.blocks, fun b =>
    have ⟨op, mem⟩ := h.busy b
    have ⟨op', mem'⟩ := k.busy ((State.storeBusy_congr op).trans b)
    ⟨op'.trans op, mem'.trans mem⟩⟩

theorem Stored.foldl {α : Type} {f : State → α → State} (h : ∀ s a, Stored s (f s a)) (l : List α) (s : State) :
    Stored s (l.foldl f s) := by
  induction l generalizing s with
  | nil => exact .refl s
  | cons a l ih => exact (h s a).trans (ih (f s a))

theorem Touches.stored {b : Blocks} {s t : State} (h : Touches b s t) (store : b.store = false) (mem : b.mem = false) :
    Stored s t :=
  ⟨congrArg CalibrationStore.blocks (h.store store), fun _ => ⟨congrArg CalibrationStore.op (h.store store), h.mem mem⟩⟩

/-- What is refused while a store operation is in flight need only leave the blocks alone (R185). -/
theorem Stored.unlessStoring {s : State} {tag : Byte} {code : Nat} {owner : State → State}
    (h : (owner s).store.blocks = s.store.blocks) : Stored s (s.unlessStoring tag code owner) := by
  unfold State.unlessStoring
  split
  · exact (s.reply_touches ..).stored rfl rfl
  · next free => exact ⟨h, fun b => absurd b free⟩

theorem Stored.heard {s : State} {owner : State → State} (h : Stored s (owner s)) : Stored s (s.heard owner) := by
  unfold State.heard
  split
  · exact h
  · exact .refl s

theorem State.saveFrom_blocks (fuel : Nat) (s : State) (op : SaveOp) :
    (State.saveFrom fuel s op).store.blocks = s.store.blocks := by
  have ended : ∀ r, ((s.setOp .idle).report r).store.blocks = s.store.blocks := fun r =>
    (congrArg CalibrationStore.blocks ((State.report_touches (s.setOp .idle) r).store rfl)).trans rfl
  induction fuel generalizing op with
  | zero => exact ended _
  | succ n ih =>
    unfold State.saveFrom
    split
    · exact ended _
    · split
      · exact ih _
      · rfl

theorem State.storeSave_stored (s : State) (tag : Byte) (first last : Nat) : Stored s (s.storeSave tag first last) := by
  refine .unlessStoring ?_
  have replied : ∀ {u : State} (code : Nat) (r : Result) (d : ReplyData),
      (u.reply tag code r d).store.blocks = u.store.blocks := fun code r d =>
    congrArg CalibrationStore.blocks ((State.reply_touches _ tag code r d).store rfl)
  split
  · exact replied _ _ _
  · unfold State.judged
    split
    · exact replied _ _ _
    · exact (State.saveFrom_blocks _ _ _).trans (replied _ _ _)

theorem State.storeRestore_stored (s : State) (tag : Byte) : Stored s (s.storeRestore tag) := by
  refine .unlessStoring ?_
  have replied : ∀ (r : Result), (s.reply tag 28 r .nothing).store.blocks = s.store.blocks := fun r =>
    congrArg CalibrationStore.blocks ((State.reply_touches _ tag 28 r .nothing).store rfl)
  split
  · exact replied _
  · exact replied .done

/-- A reset with no save in flight leaves the blocks as they are (R186). -/
theorem CalibrationStore.afterReset_of_free {s : State} (free : ¬s.storeBusy = true) :
    s.store.afterReset = s.store.blocks := by
  unfold CalibrationStore.afterReset
  split
  · next op hop => exact absurd (State.storeBusy_of_save hop) free
  · rfl
  · rfl

theorem State.takeRestart_stored (s : State) (tag : Byte) : Stored s (s.takeRestart tag) := by
  unfold State.takeRestart State.unlessStoring
  split
  · exact (s.reply_touches ..).stored rfl rfl
  · next free =>
    refine ⟨?_, fun b => absurd b free⟩
    dsimp only
    split
    · exact congrArg CalibrationStore.blocks ((State.reply_touches _ tag 26 .done .nothing).store rfl)
    · exact CalibrationStore.afterReset_of_free free

/-- A write of Table Memory is refused while a store operation is in flight. -/
theorem Touches.stored_of_refused {b : Blocks} {s t : State} (h : Touches b s t) (store : b.store = false)
    (refused : s.storeBusy = true → t.mem = s.mem) : Stored s t :=
  ⟨congrArg CalibrationStore.blocks (h.store store),
    fun busy => ⟨congrArg CalibrationStore.op (h.store store), refused busy⟩⟩

theorem State.unlessStoring_mem {s : State} (tag : Byte) (code : Nat) (owner : State → State) (busy : s.storeBusy = true) :
    (s.unlessStoring tag code owner).mem = s.mem := by
  rw [State.unlessStoring, if_pos busy]
  exact (s.reply_touches ..).mem rfl

theorem State.takeAtOnce_stored (s : State) (tag : Byte) (r : Request) : Stored s (s.takeAtOnce tag r) := by
  cases r with
  | linkStart => exact (s.linkStart_touches ..).stored rfl rfl
  | linkStop => exact (s.linkStop_touches ..).stored rfl rfl
  | drivePermit => exact (s.drivePermit_touches ..).stored rfl rfl
  | readRoster => exact (s.readRoster_touches ..).stored rfl rfl
  | clearKeyFault key => exact (s.clearKeyFault_touches ..).stored rfl rfl
  | writeKeySense type number first second third =>
    exact (s.writeKeySense_touches ..).stored_of_refused rfl (State.unlessStoring_mem tag 12 _)
  | readKeySense type number => exact (s.readKeySense_touches ..).stored rfl rfl
  | writeDescriptor set voice fields =>
    exact (s.writeDescriptor_touches ..).stored_of_refused rfl (State.unlessStoring_mem tag 14 _)
  | readDescriptor set voice => exact (s.readDescriptor_touches ..).stored rfl rfl
  | writePage slot page => exact (s.writePage_touches ..).stored_of_refused rfl (State.unlessStoring_mem tag 16 _)
  | readPage slot => exact (s.readPage_touches ..).stored rfl rfl
  | selectVoicing set => exact (s.selectVoicing_touches ..).stored rfl rfl
  | invalidateVoice voice => exact (s.invalidateVoice_touches ..).stored rfl rfl
  | invalidateAll => exact (s.invalidateAll_touches ..).stored rfl rfl
  | calibrateQueue job => exact (s.calibrateQueue_touches ..).stored rfl rfl
  | calibrateAbort => exact (s.calibrateAbort_touches ..).stored rfl rfl
  | setProfile fields => exact (s.setProfile_touches ..).stored rfl rfl
  | setOptions values => exact (s.setOptions_touches ..).stored rfl rfl
  | readStatus clear => exact (s.readStatus_touches ..).stored rfl rfl
  | restart => exact s.takeRestart_stored tag
  | storeSave first last => exact s.storeSave_stored tag first last
  | storeRestore => exact s.storeRestore_stored tag
  | setMode _ => exact .refl s
  | transportStart _ => exact .refl s
  | transportPause => exact .refl s
  | transportResume => exact .refl s
  | transportStop => exact .refl s
  | setCue _ _ => exact .refl s

theorem State.takeFrame_stored (s : State) (f : Frame) : Stored s (s.takeFrame f) := by
  refine .heard ?_
  cases f with
  | bad => exact (s.bump_touches _).stored rfl rfl
  | events tag records => exact (s.takeEvents_touches records).stored rfl rfl
  | request tag payload =>
    dsimp only
    unfold State.takeRequest
    split
    · exact (s.reply_touches ..).stored rfl rfl
    · exact (s.reply_touches ..).stored rfl rfl
    · split
      · exact (s.setTime_touches _).stored rfl rfl
      · exact s.takeAtOnce_stored tag _

theorem State.setReceived_stored (s : State) (l : List Byte) : Stored s (s.setReceived l) :=
  (s.setReceived_touches l).stored rfl rfl

theorem State.takeFrames_stored (fuel : Nat) (s : State) : Stored s (State.takeFrames fuel s) := by
  induction fuel generalizing s with
  | zero => exact .refl s
  | succ n ih =>
    unfold State.takeFrames
    split
    · exact s.setReceived_stored _
    · split
      · exact s.setReceived_stored _
      · have taken : ∀ f rest, Stored s (s.handOn f rest) := fun f rest => by
          have frame := (s.setReceived_stored []).trans (State.takeFrame_stored _ f)
          unfold State.handOn
          dsimp only
          split
          · exact frame
          · exact frame.trans (State.setReceived_stored _ _)
        exact (taken _ _).trans (ih _)

theorem State.receiveBytes_stored (s : State) (bytes : List Byte) : Stored s (s.receiveBytes bytes) :=
  Stored.foldl (fun s _ => (s.setReceived_stored _).trans (State.takeFrames_stored _ _)) bytes s

theorem State.receiveRequest_stored (s : State) (tag : Byte) (payload : List Byte) :
    Stored s (s.receiveRequest tag payload) := (s.setReceived_stored []).trans (State.takeFrame_stored _ _)

/-! ### Protected blocks (R182) -/

/-- The block in progress of a save in flight lies below the boundary. -/
theorem State.saveLawful_below {s : State} {op : SaveOp} (lawful : s.saveLawful) (h : s.store.op = .save op) :
    op.block < s.boundary := by
  obtain ⟨boundary, below, -, -⟩ := (State.saveLawful_iff h).mp lawful
  omega

/-- A reset cuts the block in progress alone (R186). -/
theorem CalibrationStore.afterReset_protected {s : State} (lawful : s.saveLawful) {b : Nat} (hb : s.boundary ≤ b) :
    s.store.afterReset[b]?.getD .erased = s.storeBlock b := by
  unfold CalibrationStore.afterReset
  split
  · next op hop =>
    have ne : op.block ≠ b := by have := State.saveLawful_below lawful hop; omega
    split
    · rw [Vector.getElem?_setIfInBounds_ne ne]; rfl
    · rw [Vector.getElem?_setIfInBounds_ne ne]; rfl
    · rfl
  · rfl
  · rfl

theorem State.eraseDone_protected {s : State} (lawful : s.saveLawful) {b : Nat} (hb : s.boundary ≤ b) :
    s.eraseDone.storeBlock b = s.storeBlock b := by
  unfold State.eraseDone
  split
  · next op hop =>
    split
    · exact s.storeBlock_setStoreBlock_ne _ (Nat.ne_of_lt (Nat.lt_of_lt_of_le (State.saveLawful_below lawful hop) hb)).symm
    · rfl
  · rfl

theorem State.programDone_protected {s : State} (lawful : s.saveLawful) (medium : Option StoreBlock) {b : Nat}
    (hb : s.boundary ≤ b) : (s.programDone medium).storeBlock b = s.storeBlock b := by
  unfold State.programDone
  split
  · next op hop =>
    split
    · exact s.storeBlock_setStoreBlock_ne _ (Nat.ne_of_lt (Nat.lt_of_lt_of_le (State.saveLawful_below lawful hop) hb)).symm
    · rfl
  · rfl

theorem State.verifyDone_blocks (s : State) : s.verifyDone.store.blocks = s.store.blocks := by
  unfold State.verifyDone
  split
  · split
    · exact State.saveFrom_blocks _ _ _
    · rfl
  · rfl

theorem State.readDone_blocks (s : State) : s.readDone.store.blocks = s.store.blocks := by
  unfold State.readDone
  split
  · dsimp only
    split
    · rfl
    · exact (congrArg CalibrationStore.blocks ((State.report_touches (State.setOp _ .idle) _).store rfl)).trans rfl
  · rfl

/-- A command changes what its footprint lets it change. -/
theorem exec_touches {c : Instr} {s t : State} (h : exec c s = .next t) : Touches (footprint c) s t := by
  obtain ⟨u, hu, blocks⟩ := everyCommandKeepsToItsFootprint c s
  obtain rfl : u = t := by
    have := hu.symm.trans h
    cases this; rfl
  exact blocks

/-- Settles O38: the block in progress of a save lies below the boundary, and no other command writes a block; while a store
operation is in flight the part is dormant, and the writes of Table Memory are refused. -/
theorem storeOperationsKeepTheirBounds : Obligations.StoreOperationsKeepTheirBounds := by
  refine ⟨fun c s t lawful h b hb => ?_, fun c s t lawful busy h read power supply => ?_⟩
  · have kept : (footprint c).store = false → t.storeBlock b = s.storeBlock b := fun none =>
      State.storeBlock_congr (congrArg CalibrationStore.blocks ((exec_touches h).store none)) b
    have stored : Stored s t → t.storeBlock b = s.storeBlock b := fun k => State.storeBlock_congr k.blocks b
    cases c with
    | powerOn => cases h; exact CalibrationStore.afterReset_protected lawful hb
    | coldResetSupplyLow => cases h; exact CalibrationStore.afterReset_protected lawful hb
    | resetPin => cases h; exact CalibrationStore.afterReset_protected lawful hb
    | restartReset =>
      cases h
      unfold State.restartReset
      split
      · exact CalibrationStore.afterReset_protected lawful hb
      · rfl
    | frameErrors bytes => cases h; exact stored (s.receiveBytes_stored bytes)
    | requestFrame tag payload => cases h; exact stored (s.receiveRequest_stored tag payload)
    | restart tag => cases h; exact stored (.heard (s.takeRestart_stored tag))
    | storeSave tag first last => cases h; exact stored (.heard (s.storeSave_stored tag first last))
    | storeRestore tag => cases h; exact stored (.heard (s.storeRestore_stored tag))
    | storeEraseComplete => cases h; exact State.eraseDone_protected lawful hb
    | storeProgramComplete medium => cases h; exact State.programDone_protected lawful medium hb
    | storeVerifyComplete => cases h; exact State.storeBlock_congr s.verifyDone_blocks b
    | storeReadComplete => cases h; exact State.storeBlock_congr s.readDone_blocks b
    | _ => exact kept rfl
  · have dormant := State.dormant_of_busy lawful busy
    have kept : (footprint c).mem = false → t.mem = s.mem := (exec_touches h).mem
    have stored : Stored s t → t.mem = s.mem := fun k => (k.busy busy).2
    cases c with
    | powerOn => exact absurd rfl power
    | coldResetSupplyLow => exact absurd rfl supply
    | storeReadComplete => exact absurd rfl read
    | frameErrors bytes => cases h; exact stored (s.receiveBytes_stored bytes)
    | requestFrame tag payload => cases h; exact stored (s.receiveRequest_stored tag payload)
    | cycleStart order => cases h; exact ((s.cycleStart_sleeps order).keeps dormant).2
    | returnFrame elapsed bytes => cases h; exact ((s.takeReturn_sleeps elapsed bytes).keeps dormant).2
    | windowExpiry key => cases h; rw [State.expireWindow_eq_self dormant]
    | walkComplete => cases h; rw [State.walkEnd_eq_self dormant]
    | writeKeySense tag type number first second third =>
      cases h; exact stored (.heard (s.takeAtOnce_stored tag (.writeKeySense type number first second third)))
    | writeDescriptor tag set voice fields =>
      cases h; exact stored (.heard (s.takeAtOnce_stored tag (.writeDescriptor set voice fields)))
    | writePage tag slot page => cases h; exact stored (.heard (s.takeAtOnce_stored tag (.writePage slot page)))
    | _ => exact kept rfl

end Sys2Proof.Machine
end

section
/-! PROOFS. The ends of a Monitor window (O45). -/

namespace Sys2Proof.Machine

/-! ### The trim of a voice (R149, R150) -/

theorem State.trimOf_of_descriptor {s : State} {via : Via} {d : VoiceDescriptor}
    (h : s.mem.descriptor via.set via.voice = some d) : s.trimOf via = d.trim := by
  rw [State.trimOf, h]

theorem State.writeTrim_voices (s : State) (via : Via) (trim : Nat) : (s.writeTrim via trim).voices =
    { s.voices with
      entries := s.voices.entries.map (fun e =>
        if e.voice = via.voice ∧ e.set = via.set then { e with trim := trim } else e),
      walk := s.voices.walk.map (fun w =>
        if w.voice = via.voice ∧ w.set = via.set then
          { w with descriptor := w.descriptor.map (fun d => { d with trim := trim }) }
        else w) } := by
  unfold State.writeTrim
  dsimp only
  rw [s.modDescriptor_eq]

/-- With adaptive trim on, the voice's trim has become `after` in all its places. -/
theorem State.adapt_adapted {s : State} {via : Via} {d : VoiceDescriptor} {step : Int} {after : Nat}
    (h : s.mem.descriptor via.set via.voice = some d) (ha : after = newTrim d.trim step)
    (on : s.port.options.adaptiveTrim = true) : TrimAdapted s (s.adapt via step) via d after := by
  unfold State.adapt
  rw [State.trimOf_of_descriptor h, ← ha]
  by_cases same : after = d.trim
  · rw [if_pos same]
    refine ⟨?_, fun _ _ _ => rfl, rfl, rfl, rfl, fun _ => rfl, fun _ differs => absurd same differs⟩
    rw [if_pos on, same]
    exact h
  · rw [if_neg same]
    have voices := s.writeTrim_voices via after
    obtain ⟨pages, sense⟩ := s.modDescriptor_tables via.set via.voice (fun d => { d with trim := after })
    refine ⟨?_, fun n x hne => s.modDescriptor_ne hne _, pages, sense, ?_, fun off => ?_, fun _ _ => ?_⟩
    · rw [if_pos on]
      exact State.modDescriptor_self h _
    · rw [voices]
    · rcases off with off | off
      · exact absurd (off.symm.trans on) (by decide)
      · exact absurd off same
    · rw [voices]
      exact ⟨rfl, rfl⟩

/-- What is read of Table Memory, of the cache and of the option is all the trim's places. -/
theorem TrimAdapted.congr {s t u : State} {via : Via} {d : VoiceDescriptor} {after : Nat} (h : TrimAdapted s t via d after)
    (mem : u.mem = t.mem) (voices : u.voices = t.voices) : TrimAdapted s u via d after := by
  unfold TrimAdapted
  rw [mem, voices]
  exact h

theorem TrimAdapted.off {s t : State} {via : Via} {d : VoiceDescriptor} (after : Nat)
    (h : s.mem.descriptor via.set via.voice = some d) (off : s.port.options.adaptiveTrim = false) (mem : t.mem = s.mem)
    (voices : t.voices = s.voices) : TrimAdapted s t via d after := by
  unfold TrimAdapted
  rw [mem, voices, off]
  exact ⟨h, fun _ _ _ => rfl, rfl, rfl, rfl, fun _ => rfl, fun on => absurd on (by decide)⟩

/-! ### The record of a window's end (R148) -/

section
variable {s : State} {k : Nat} {w : Window} {commanded : Nat} {via : Via} {d : VoiceDescriptor} {step : Int} {after : Nat}
  (result : StrikeResult) (measured : Option Nat) (timing : Option Int)
  (h : s.mem.descriptor via.set via.voice = some d) (ha : after = newTrim d.trim step)
include h ha

theorem State.conclude_adapted :
    TrimAdapted s (s.conclude k w commanded via result measured timing step) via d after := by
  unfold State.conclude
  split
  · next on =>
    exact (State.adapt_adapted h ha on).congr ((State.outcome_touches _ _).mem rfl) ((State.outcome_touches _ _).voices rfl)
  · next off =>
    exact TrimAdapted.off after h (Bool.eq_false_iff.mpr off) ((State.outcome_touches _ _).mem rfl)
      ((State.outcome_touches _ _).voices rfl)

theorem State.conclude_port :
    (s.conclude k w commanded via result measured timing step).port =
      (s.outcomeSent result k via w.strike commanded measured timing d.trim step after).port := by
  have trim := State.trimOf_of_descriptor h
  have limited : trimLimited d.trim step = decide ((after : Int) ≠ (d.trim : Int) + step) := by
    rw [trimLimited, ← ha, Bool.eq_iff_iff, bne_iff_ne, decide_eq_true_iff]
  have adapted := s.adapt_touches via step
  unfold State.conclude State.outcomeSent State.outcome
  rw [trim, limited, ← ha]
  by_cases on : s.port.options.adaptiveTrim = true
  · rw [if_pos on, adapted.port rfl, if_pos on, if_pos on, on]
    split
    · exact State.report_port_congr _ (adapted.port rfl) (adapted.intake rfl) (congrArg TimeBase.linkCycle (adapted.time rfl))
    · exact adapted.port rfl
  · rw [if_neg on, if_neg on, if_neg on, Bool.eq_false_iff.mpr on]
    rfl

end

/-- Settles O45: both ends conclude the window, and a verification lowers the yield level as well. -/
theorem monitorWindowsEnd : Obligations.MonitorWindowsEnd := by
  refine ⟨fun k stamp v strike commanded via w d step after s keyed taking hw holder low high hd hstep hafter => ?_,
    fun k commanded via w d after s keyed hw holder hd hafter => ⟨fun running due => ?_, fun early => ?_⟩⟩
  · have routed : s.routeStrike k v stamp strike = s.verify k w commanded via v stamp := by
      rw [State.routeStrike_of_window v stamp strike ((s.taking_iff).mpr taking) (State.windowAt_of_inside hw low high), holder]
    obtain ⟨u, hu⟩ : ∃ u, u = s.conclude k w commanded via .verified (some v) (some ((stamp : Int) - w.strike)) step := ⟨_, rfl⟩
    have blocks : Touches { mem := true, voices := true, port := true } s u := by rw [hu]; exact s.conclude_touches ..
    have port := State.conclude_port (k := k) (w := w) (commanded := commanded) .verified (some v)
      (some ((stamp : Int) - w.strike)) hd hafter
    have adapted := State.conclude_adapted (k := k) (w := w) (commanded := commanded) .verified (some v)
      (some ((stamp : Int) - w.strike)) hd hafter
    rw [← hu] at port adapted
    have verified : s.verify k w commanded via v stamp =
        (u.setYield k { u.yieldOf k with level := 0 }).setWindow k none := by
      rw [hu, hstep]; rfl
    have yields : ∀ j, u.yieldOf j = s.yieldOf j :=
      fun j => State.yieldOf_congr (congrArg DuplexMonitor.yields (blocks.duplex rfl)) j
    refine ⟨_, routed.trans verified, State.windowOf_setWindow_none _ k, fun j hj => ?_, ?_, fun j hj => ?_,
      blocks.tracker rfl, blocks.capture rfl, blocks.sched rfl, adapted.congr rfl rfl, port⟩
    · rw [State.windowOf_setWindow_ne _ _ hj]
      exact State.windowOf_congr (congrArg DuplexMonitor.windows (blocks.duplex rfl)) j
    · refine (State.yieldOf_congr rfl k).trans ((u.yieldOf_setYield_self _ keyed.1 keyed.2).trans ?_)
      rw [yields]
    · exact (State.yieldOf_congr rfl j).trans ((u.yieldOf_setYield_ne _ hj).trans (yields j))
  · obtain ⟨u, hu⟩ : ∃ u, u = s.conclude k w commanded via .missed none none 25 := ⟨_, rfl⟩
    have blocks : Touches { mem := true, voices := true, port := true } s u := by rw [hu]; exact s.conclude_touches ..
    have port := State.conclude_port (k := k) (w := w) (commanded := commanded) .missed none none hd hafter
    have adapted := State.conclude_adapted (k := k) (w := w) (commanded := commanded) .missed none none hd hafter
    rw [← hu] at port adapted
    have missed : s.expireWindow k = u.setWindow k none := by
      rw [State.expireWindow, hw]
      dsimp only
      rw [if_pos ⟨running, due⟩, holder, hu]
      rfl
    refine ⟨_, congrArg Host.Outcome.next missed, State.windowOf_setWindow_none _ k, fun j hj => ?_,
      show u.duplex.yields = s.duplex.yields from congrArg DuplexMonitor.yields (blocks.duplex rfl), blocks.sched rfl, blocks.calib rfl, adapted.congr rfl rfl, port⟩
    rw [State.windowOf_setWindow_ne _ _ hj]
    exact State.windowOf_congr (congrArg DuplexMonitor.windows (blocks.duplex rfl)) j
  · refine congrArg Host.Outcome.next ?_
    rw [State.expireWindow, hw]
    refine if_neg fun h => ?_
    rcases early with stopped | early
    · exact stopped h.1
    · exact absurd h.2 (by omega)

end Sys2Proof.Machine
end

section
/-! PROOFS. The dispatch, measurement and expiry of a calibration strike, and the asking of the next (O46). -/

namespace Sys2Proof.Machine

/-- The failure of a job whose strike stands Pending: there is nothing to take back (R164, R165). -/
theorem State.failJob_of_pending {c : CurrentJob} (s : State) (h : c.state = .pending) (reason : JobReason) :
    s.failJob c reason = State.report
      { s with calib := { queue := s.calib.queue.drop 1, current := none, testDue := false } }
      (.jobFailed c.job.key c.job.slot reason c.level (c.samples.map (fun x => (x, none)))) := by
  have ended : s.endStrike c = s := by rw [State.endStrike, h]
  rw [State.failJob, ended]
  rfl

/-! ### The dispatch of a strike (R159) -/

section
variable {s : State} {k : Nat} {c : CurrentJob} (onset : Nat) (current : s.calib.current = some c) (key : c.job.key = k)
  (admitted : c.state = .admitted)
include current key admitted

theorem State.calibrationDispatched_of_admitted : s.calibrationDispatched k onset =
    if s.visible k then (s.openSequencer k onset).setJob { c with onset := some onset, state := .measuring }
    else s.failJob { c with onset := some onset, state := .pending } .noSensing := by
  rw [State.calibrationDispatched, current]
  exact if_pos ⟨key, admitted⟩

end

theorem State.visible_iff (s : State) (k : Nat) : s.visible k = true ↔ (s.trackerOf k).state ≠ .blind ∧ s.sensed k = true := by
  rw [State.visible, Bool.and_eq_true, bne_iff_ne]

/-! ### A measurement, and a window without one (R160, R161) -/

theorem State.measure_of_current {s : State} {k onset : Nat} {c : CurrentJob} {e : RosterEntry} (v strike : Nat)
    (current : s.calib.current = some c) (key : c.job.key = k) (start : c.onset = some onset)
    (driven : (s.driverOf k).bind s.stationOf = some e) :
    s.measure k v strike = (s.setWindow k none).advanceJob
      { c with measured := c.measured + 1, sumVelocity := c.sumVelocity + v,
               sumFlight := c.sumFlight +
                 (clampInt ((strike : Int) - onset * 10 - e.arrival - e.latency) 500 60000).toNat } := by
  obtain ⟨u, hu⟩ : ∃ u, u = s.setWindow k none := ⟨_, rfl⟩
  have job : u.calib.current = some c := by rw [hu]; exact current
  have feed : (u.feed (u.driverOf k)).arrival = e.arrival ∧ (u.feed (u.driverOf k)).latency = e.latency := by
    have entry : u.driverEntry (u.driverOf k) = some e := by rw [hu]; exact driven
    rw [State.feed, entry]
    exact ⟨rfl, rfl⟩
  have step : s.measure k v strike =
      match u.calib.current with
      | none => u
      | some c =>
        if c.job.key = k then
          u.advanceJob { c with
            measured := c.measured + 1, sumVelocity := c.sumVelocity + v,
            sumFlight := c.sumFlight + calibrationFlight strike (c.onset.getD 0) (u.feed (u.driverOf k)).arrival
              (u.feed (u.driverOf k)).latency }
        else u := by
    rw [hu]; rfl
  rw [step, job, ← hu]
  dsimp only
  rw [if_pos key, feed.1, feed.2, start]
  rfl

theorem State.noCrossing_of_current {s : State} {k : Nat} {c : CurrentJob} (current : s.calib.current = some c)
    (key : c.job.key = k) : s.noCrossing k = (s.setWindow k none).advanceJob c := by
  obtain ⟨u, hu⟩ : ∃ u, u = s.setWindow k none := ⟨_, rfl⟩
  have job : u.calib.current = some c := by rw [hu]; exact current
  have step : s.noCrossing k =
      match u.calib.current with
      | none => u
      | some c => if c.job.key = k then u.advanceJob c else u := by rw [hu]; rfl
  rw [step, job, ← hu]
  exact if_pos key

/-! ### The next strike (R162) -/

theorem State.advanceJob_eq (s : State) {c d : CurrentJob} {onset : Nat} (start : c.onset = some onset)
    (hd : d = { c with state := .pending, planned := onset + c.job.spacing * 100, onset := none }) :
    s.advanceJob c =
      if c.strike < c.job.repeats then s.askStrike { d with strike := c.strike + 1 }
      else if c.level + 1 < c.job.levels then
        s.askStrike { d with level := c.level + 1, strike := 1, measured := 0, sumVelocity := 0, sumFlight := 0,
                             samples := c.samples ++ [c.sample] }
      else
        s.finishSweep { d with level := c.level + 1, strike := 1, measured := 0, sumVelocity := 0, sumFlight := 0,
                               samples := c.samples ++ [c.sample] } := by
  have planned : c.nextPlanned = onset + c.job.spacing * 100 := by rw [CurrentJob.nextPlanned, start]; rfl
  rw [hd, State.advanceJob, planned]

/-! ### A strike asked (R158) -/

theorem State.strikeTooHot_of_cool {s : State} {c : CurrentJob}
    (h : (s.driverOf c.job.key).any s.isHot = false ∨ (jobLevel c.job c.level ≤ 768 ∧ c.scalars.hold ≤ 768)) :
    s.strikeTooHot c = false := by
  rw [State.strikeTooHot, Bool.and_eq_false_iff, Bool.or_eq_false_iff, decide_eq_false_iff_not, decide_eq_false_iff_not,
    Nat.not_lt, Nat.not_lt]
  exact h

/-- A strike too hot fails its job. -/
theorem State.askStrike_hot {s : State} {c : CurrentJob} (hot : s.strikeTooHot c = true) :
    s.askStrike c = s.failJob c .overTemperature := by
  rcases s.askStrike_cases c with ⟨-, e⟩ | ⟨cold, -⟩
  · exact e
  · rw [hot] at cold; cases cold

section
variable {s : State} {c : CurrentJob} (cold : s.strikeTooHot c = false)
include cold

theorem State.askStrike_refused {counter : Counter} (h : s.refusal c.job.key = some counter) :
    s.askStrike c = (s.bump counter).failJob c (dropReason counter) := by
  rcases s.askStrike_cases c with ⟨hot, -⟩ | ⟨-, ⟨counter', h', e⟩ | ⟨h', -⟩ | ⟨_, -, h', -⟩⟩
  · rw [cold] at hot; cases hot
  · rw [h] at h'; cases h'; exact e
  · rw [h] at h'; cases h'
  · rw [h] at h'; cases h'

theorem State.askStrike_full (h : s.refusal c.job.key = none) (full : s.freeEntries < 2) : s.askStrike c = s.setJob c := by
  rcases s.askStrike_cases c with ⟨hot, -⟩ | ⟨-, ⟨counter, h', -⟩ | ⟨-, -, e⟩ | ⟨_, -, -, room, -⟩⟩
  · rw [cold] at hot; cases hot
  · rw [h] at h'; cases h'
  · exact e
  · exact absurd full (Nat.not_lt.mpr room)

theorem State.askStrike_admitted (h : s.refusal c.job.key = none) (room : 2 ≤ s.freeEntries) :
    ∃ spaced, spaced = s.spaceNote c.job.key (max c.planned s.earliest) c.rearm ∧
      s.askStrike c = (spaced.1.makeNote c.job.key (calibrationNote (max c.planned s.earliest) spaced.2
        (jobLevel c.job c.level) c.scalars.hold c.attack c.rearm)).setJob { c with state := .admitted } := by
  rcases s.askStrike_cases c with ⟨hot, -⟩ | ⟨-, ⟨counter, h', -⟩ | ⟨-, full, -⟩ | ⟨spaced, hs, -, -, e⟩⟩
  · rw [cold] at hot; cases hot
  · rw [h] at h'; cases h'
  · exact absurd full (Nat.not_lt.mpr room)
  · exact ⟨spaced, hs, e⟩

end

/-- Settles O46: each part from the equation of its operation. -/
theorem measurementsAdvanceTheJob : Obligations.MeasurementsAdvanceTheJob := by
  refine ⟨fun k onset c s keyed current key admitted => ⟨fun seeing sensed => ?_, fun unseen => ?_⟩,
    fun k v stamp strike onset e c w s keyed hw holder current key => ⟨fun taking low high start driven => ?_,
      fun running due => ?_, fun early => ?_⟩,
    fun onset x c d s start hd hx => ⟨fun more => ?_, fun last more => ?_, fun last done => ?_⟩,
    fun k level c s keyed key pending current hlevel => ⟨fun hot high => ?_, fun cool =>
      ⟨fun counter reason refused why => ?_, fun willing full => ?_, fun willing room => ?_⟩⟩⟩
  · rw [State.calibrationDispatched_of_admitted onset current key admitted, if_pos ((s.visible_iff k).mpr ⟨seeing, sensed⟩)]
    rfl
  · have hidden : ¬s.visible k = true := fun h => by
      obtain ⟨seeing, sensed⟩ := (s.visible_iff k).mp h
      rcases unseen with blind | absent
      · exact seeing blind
      · rw [absent] at sensed; cases sensed
    rw [State.calibrationDispatched_of_admitted onset current key admitted, if_neg hidden, State.failJob_of_pending _ rfl, ← key]
  · rw [State.routeStrike_of_window v stamp strike ((s.taking_iff).mpr taking) (State.windowAt_of_inside hw low high), holder]
    exact State.measure_of_current v strike current key start driven
  · refine congrArg Host.Outcome.next ?_
    rw [State.expireWindow, hw]
    dsimp only
    rw [if_pos ⟨running, due⟩, holder]
    exact State.noCrossing_of_current current key
  · refine congrArg Host.Outcome.next ?_
    rw [State.expireWindow, hw]
    refine if_neg fun h => ?_
    rcases early with stopped | early
    · exact stopped h.1
    · exact absurd h.2 (by omega)
  · rw [s.advanceJob_eq start hd, if_pos more]
  · rw [s.advanceJob_eq start hd, if_neg (by omega), if_pos more, hx]
    rfl
  · rw [s.advanceJob_eq start hd, if_neg (by omega), if_neg (by omega), hx]
    rfl
  · have tooHot : s.strikeTooHot c = true := by
      rw [State.strikeTooHot, key, hot, ← hlevel]
      rcases high with h | h
      · simp [Config.hotCap, h]
      · simp [Config.hotCap, h]
    rw [State.askStrike_hot tooHot, s.failJob_of_pending pending, key]
  all_goals
    have cold : s.strikeTooHot c = false := State.strikeTooHot_of_cool (by rw [key, ← hlevel]; exact cool)
  · have named : reason = dropReason counter := by
      rcases why with ⟨rfl, rfl⟩ | ⟨rfl, rfl⟩ | ⟨rfl, rfl⟩ <;> rfl
    rw [State.askStrike_refused cold (key ▸ refused), State.failJob_of_pending _ pending, key, named]
    rfl
  · rw [State.askStrike_full cold (key ▸ willing) full]
    unfold State.setJob
    rw [← current]
  · obtain ⟨spaced, hs, asked⟩ := State.askStrike_admitted cold (key ▸ willing) room
    rw [key, ← hlevel] at asked
    rw [key] at hs
    have spacing : Touches { sched := true, port := true } s spaced.1 := hs ▸ s.spaceNote_touches _ _ _
    obtain ⟨m, hm⟩ : ∃ m, m = calibrationNote (max c.planned s.earliest) spaced.2 level c.scalars.hold c.attack c.rearm :=
      ⟨_, rfl⟩
    rw [← hm] at asked
    have noted := spaced.1.makeNote_sched_entries (k := k) m
    refine ⟨_, asked, ?_, m.strikeEntry k spaced.1.sched.nextNote, ?_, m.offEntry k spaced.1.sched.nextNote, ?_, ?_⟩
    · have calib : (spaced.1.makeNote k m).calib = s.calib :=
        ((State.makeNote_touches _ _ _).calib rfl).trans (spacing.calib rfl)
      unfold State.setJob
      dsimp only
      rw [calib]
    · show m.strikeEntry k spaced.1.sched.nextNote ∈ (spaced.1.makeNote k m).sched.entries
      rw [noted]
      exact mem_insertEntry.mpr (.inr (mem_insertEntry.mpr (.inl rfl)))
    · show m.offEntry k spaced.1.sched.nextNote ∈ (spaced.1.makeNote k m).sched.entries
      rw [noted]
      exact mem_insertEntry.mpr (.inl rfl)
    · rw [hm]
      exact ⟨rfl, rfl, rfl, rfl, rfl, Nat.le_add_right _ _, rfl, rfl, rfl, rfl, nofun⟩

end Sys2Proof.Machine
end

section
/-! PROOFS. The samples kept, the page built and committed, and the job's report (O47). -/

namespace Sys2Proof.Machine

/-! ### The samples kept (R163) -/

/-- A sample is kept behind a last kept reading: it has a reading, and one of greater velocity and no greater flight. -/
def Sample.keptAfter (last : Option (Nat × Nat)) (x : Sample) : Bool :=
  x.reading.any (fun r => last.all (fun l => decide (l.1 < r.1 ∧ r.2 ≤ l.2)))

/-- The last kept reading behind a sample. -/
def Sample.lastKept (last : Option (Nat × Nat)) (x : Sample) : Option (Nat × Nat) :=
  if x.keptAfter last then x.reading else last

theorem keepMarks_cons (last : Option (Nat × Nat)) (x : Sample) (xs : List Sample) :
    keepMarks last (x :: xs) = (x, x.keptAfter last) :: keepMarks (x.lastKept last) xs := by
  unfold Sample.lastKept Sample.keptAfter
  rcases hr : x.reading with _ | r
  · simp only [keepMarks, hr]; rfl
  · rcases last with _ | l
    · simp only [keepMarks, hr]; rfl
    · simp only [keepMarks, hr, Option.any_some, Option.all_some]
      by_cases h : l.1 < r.1 ∧ r.2 ≤ l.2
      · simp only [if_pos h, decide_eq_true h]; rfl
      · simp only [if_neg h, decide_eq_false h]; rfl

theorem keepMarks_append (last : Option (Nat × Nat)) (before after : List Sample) :
    keepMarks last (before ++ after) = keepMarks last before ++ keepMarks (before.foldl Sample.lastKept last) after := by
  induction before generalizing last with
  | nil => rfl
  | cons x xs ih => rw [List.cons_append, keepMarks_cons, keepMarks_cons, ih]; rfl

/-- The last kept reading is that of the last sample marked. -/
theorem foldl_lastKept (last : Option (Nat × Nat)) (before : List Sample) :
    before.foldl Sample.lastKept last =
      (((keepMarks last before).filter (fun m => m.2)).getLast?.map (fun m => m.1.reading)).getD last := by
  induction before generalizing last with
  | nil => rfl
  | cons x xs ih =>
    rw [List.foldl_cons, ih, keepMarks_cons, List.filter_cons]
    cases kept : x.keptAfter last with
    | false =>
      have same : x.lastKept last = last := by rw [Sample.lastKept, kept]; rfl
      rw [same, if_neg (by simp)]
    | true =>
      have next : x.lastKept last = x.reading := by rw [Sample.lastKept, kept]; rfl
      rw [next, if_pos rfl, List.getLast?_cons]
      cases ((keepMarks x.reading xs).filter (fun m => m.2)).getLast? with
      | none => rfl
      | some m => rfl

theorem Sample.keptAfter_iff (last : Option (Nat × Nat)) (x : Sample) :
    x.keptAfter last = true ↔ ∃ r, x.reading = some r ∧ ∀ l, last = some l → l.1 < r.1 ∧ r.2 ≤ l.2 := by
  unfold Sample.keptAfter
  rcases x.reading with _ | r
  · simp
  · rcases last with _ | l <;> simp

/-! ### The page of the kept samples -/

/-- The breakpoint of a sample with a reading. -/
theorem keptPoints_cons (x : Sample) (kept : Bool) (rest : List (Sample × Bool)) :
    keptPoints ((x, kept) :: rest) =
      if kept then
        match x.reading with
        | none => keptPoints rest
        | some r => { input := r.1, drive := x.level, time := r.2 } :: keptPoints rest
      else keptPoints rest := by
  unfold keptPoints
  cases kept
  · rfl
  · rcases h : x.reading with _ | r <;> simp [h]

theorem length_keptPoints (last : Option (Nat × Nat)) (samples : List Sample) :
    (keptPoints (keepMarks last samples)).length ≤ samples.length := by
  induction samples generalizing last with
  | nil => exact Nat.le_refl 0
  | cons x xs ih =>
    have rest := ih (x.lastKept last)
    rw [keepMarks_cons, keptPoints_cons, List.length_cons]
    split
    · split
      · omega
      · rw [List.length_cons]; omega
    · omega

/-- The last breakpoint of a page in the making is that of the last kept reading, its drive no later sample's level below it. -/
def Continues (before : Option Breakpoint) (last : Option (Nat × Nat)) (samples : List Sample) : Prop :=
  last = before.map (fun b => (b.input, b.time)) ∧ ∀ b, before = some b → ∀ x ∈ samples, b.drive ≤ x.level

/-- A breakpoint in its ranges that rises behind the one before it, its drive no lower and its flight no greater, fails nothing. -/
theorem breakpointFailure_eq_none {l : PageLimits} {before : Option Breakpoint} {p : Breakpoint} (i1 : l.inputLow ≤ p.input)
    (i2 : p.input ≤ l.inputHigh) (i3 : ∀ b, before = some b → b.input < p.input) (d1 : l.driveLow ≤ p.drive)
    (d2 : p.drive ≤ 1023) (d3 : ∀ b, before = some b → b.drive ≤ p.drive) (t1 : l.timeLow ≤ p.time) (t2 : p.time ≤ 60000)
    (t3 : ∀ b, before = some b → p.time ≤ b.time) : breakpointFailure l true before p = none := by
  have none_fails : ∀ f : Breakpoint → Bool, (∀ b, before = some b → f b = false) → before.any f = false := fun f h => by
    rcases before with _ | b
    · rfl
    · exact h b rfl
  unfold breakpointFailure
  rw [none_fails _ fun b hb => decide_eq_false (Nat.not_le.mpr (i3 b hb)),
    none_fails _ fun b hb => decide_eq_false (Nat.not_lt.mpr (d3 b hb)),
    none_fails _ fun b hb => decide_eq_false (Nat.not_lt.mpr (t3 b hb)),
    decide_eq_false (Nat.not_lt.mpr i1), decide_eq_false (Nat.not_lt.mpr i2), decide_eq_false (Nat.not_lt.mpr d1),
    decide_eq_false (Nat.not_lt.mpr d2), decide_eq_false (Nat.not_lt.mpr t1), decide_eq_false (Nat.not_lt.mpr t2)]
  rfl

/-- The kept samples of rising levels make breakpoints that meet R91. -/
theorem pointsFailure_keptPoints {samples : List Sample} {before : Option Breakpoint} {last : Option (Nat × Nat)} (i : Nat)
    (rising : samples.Pairwise (fun a b => a.level ≤ b.level)) (levels : ∀ x ∈ samples, 1 ≤ x.level ∧ x.level ≤ 1023)
    (readings : ∀ x ∈ samples, ∀ r, x.reading = some r → 1 ≤ r.1 ∧ r.1 ≤ 9999 ∧ 500 ≤ r.2 ∧ r.2 ≤ 60000)
    (h : Continues before last samples) :
    pointsFailure strikeLimits true before i (keptPoints (keepMarks last samples)) = none := by
  induction samples generalizing before last i with
  | nil => rfl
  | cons x xs ih =>
    obtain ⟨hlast, below⟩ := h
    obtain ⟨above, rising⟩ := List.pairwise_cons.mp rising
    have rest := fun {b l} (j : Nat) (c : Continues b l xs) => ih (before := b) (last := l) j rising
      (fun y hy => levels y (List.mem_cons_of_mem _ hy)) (fun y hy => readings y (List.mem_cons_of_mem _ hy)) c
    rw [keepMarks_cons, keptPoints_cons]
    cases kept : x.keptAfter last with
    | false =>
      have same : x.lastKept last = last := by rw [Sample.lastKept, kept]; rfl
      rw [same, if_neg (by simp)]
      exact rest i ⟨hlast, fun b hb y hy => below b hb y (List.mem_cons_of_mem _ hy)⟩
    | true =>
      obtain ⟨r, hr, behind⟩ := (x.keptAfter_iff last).mp kept
      have next : x.lastKept last = some r := by rw [Sample.lastKept, kept, ← hr]; rfl
      rw [next, if_pos rfl, hr]
      dsimp only
      have good : breakpointFailure strikeLimits true before { input := r.1, drive := x.level, time := r.2 } = none := by
        obtain ⟨r1, r2, r3, r4⟩ := readings x List.mem_cons_self r hr
        obtain ⟨l1, l2⟩ := levels x List.mem_cons_self
        refine breakpointFailure_eq_none r1 r2 (fun b hb => ?_) l1 l2 (fun b hb => below b hb x List.mem_cons_self) r3 r4
          (fun b hb => ?_)
        · exact (behind (b.input, b.time) (by rw [hlast, hb]; rfl)).1
        · exact (behind (b.input, b.time) (by rw [hlast, hb]; rfl)).2
      rw [pointsFailure, good]
      exact rest (i + 1) ⟨rfl, fun b hb y hy => by cases hb; exact above y hy⟩

/-! ### The end of a sweep -/

section
variable {s : State} {c : CurrentJob} {points : List Breakpoint} (hp : points = keptPoints (keepMarks none c.samples))
include hp

theorem State.finishSweep_page (enough : 2 ≤ points.length) (valid : pageValid (.strike points c.scalars) = true) :
    s.finishSweep c = State.report ((s.commitPage c.job.slot (.strike points c.scalars)).leaveJob)
      (.jobDone c.job.key c.job.slot c.level (keepMarks none c.samples) points.length) := by
  unfold State.finishSweep
  dsimp only
  rw [← hp, if_pos enough, if_pos valid]

theorem State.finishSweep_few (few : points.length < 2) :
    s.finishSweep c = s.leaveJob.report (.jobFailed c.job.key c.job.slot .fewSamples c.level
      ((keepMarks none c.samples).map (fun m => (m.1, some m.2)))) := by
  unfold State.finishSweep
  dsimp only
  rw [← hp, if_neg (by omega)]

end

/-- Settles O47: the marks by the last kept reading, the page's validity by induction over the samples, and the two ends of a
sweep. -/
theorem pagesAreBuiltFromKeptSamples : Obligations.PagesAreBuiltFromKeptSamples := by
  refine ⟨fun before after x => ?_, fun samples sc few scalars rising levels readings enough => ?_,
    fun c points s slot hp => ⟨fun enough valid => ?_, fun few => ?_⟩⟩
  · refine ⟨x.keptAfter (before.foldl Sample.lastKept none),
      keepMarks (x.lastKept (before.foldl Sample.lastKept none)) after, ?_, ?_⟩
    · rw [keepMarks_append, keepMarks_cons]
    · rw [Sample.keptAfter_iff, foldl_lastKept]
      refine exists_congr fun r => and_congr_right fun _ => ⟨fun h m l hm hl => h l (by rw [hm]; exact hl), fun h l hl => ?_⟩
      rcases hm : ((keepMarks none before).filter (fun m => m.2)).getLast? with _ | m
      · rw [hm] at hl; cases hl
      · rw [hm] at hl; exact h m l hm hl
  · have length : ¬((keptPoints (keepMarks none samples)).length < 2 ∨ 16 < (keptPoints (keepMarks none samples)).length) := by
      have := length_keptPoints none samples
      omega
    have points := pointsFailure_keptPoints (before := none) (last := none) 0 rising levels readings ⟨rfl, nofun⟩
    rw [pageValid, pageFailure, if_neg (by simpa using length), points, scalars]
    rfl
  · obtain ⟨u, hu⟩ : ∃ u, u = (s.commitPage c.job.slot (.strike points c.scalars)).leaveJob := ⟨_, rfl⟩
    have reported := u.report_touches (.jobDone c.job.key c.job.slot c.level (keepMarks none c.samples) points.length)
    have mem : (u.report (.jobDone c.job.key c.job.slot c.level (keepMarks none c.samples) points.length)).mem =
        s.mem.setPage c.job.slot (some (.strike points c.scalars)) := (reported.mem rfl).trans (by rw [hu]; rfl)
    refine ⟨_, (State.finishSweep_page hp enough valid).trans (by rw [← hu]), ?_, fun n hn => ?_, ?_, ?_, ?_, ?_⟩
    · rw [mem]; exact s.mem.page_setPage_self _ slot
    · rw [mem]; exact s.mem.page_setPage_ne _ hn
    · rw [mem]; exact s.mem.setPage_sets _ _
    · rw [reported.voices rfl, hu]; rfl
    · rw [reported.calib rfl, hu]; rfl
    · exact State.report_port_congr _ (by rw [hu]; rfl) (by rw [hu]; rfl) (by rw [hu]; rfl)
  · exact State.finishSweep_few hp few

end Sys2Proof.Machine
end

section
/-! PROOFS. The layouts of requests read back (O48). -/

namespace Sys2Proof.Machine

/-! ### Fields of concatenated bytes -/

theorem fieldAt_append_right {l x : List Byte} {i : Nat} (h : l.length ≤ i) (width : Nat) :
    fieldAt (l ++ x) i width = fieldAt x (i - l.length) width := by
  unfold fieldAt
  rw [List.drop_append, List.drop_eq_nil_of_le h, List.nil_append]

/-- A field behind another is read in what comes behind it. -/
@[simp] theorem fieldAt_behind (w n : Nat) (x : List Byte) {i : Nat} (h : w ≤ i) (width : Nat) :
    fieldAt (numBytes w n ++ x) i width = fieldAt x (i - w) width := by
  have := fieldAt_append_right (l := numBytes w n) (x := x) (i := i) (by rw [length_numBytes]; exact h) width
  rwa [length_numBytes] at this

@[simp] theorem fieldAt_first {w n : Nat} (x : List Byte) (h : n < 256 ^ w) : fieldAt (numBytes w n ++ x) 0 w = n :=
  fieldAt_numBytes x h

@[simp] theorem fieldAt_only {w n : Nat} (h : n < 256 ^ w) : fieldAt (numBytes w n) 0 w = n := by
  have := fieldAt_numBytes [] h
  rwa [List.append_nil] at this

theorem ofLength_of_length {payload : List Byte} {n : Nat} (h : payload.length = n) (r : Request) :
    ofLength payload n r = .good r := if_pos h

/-! ### Pages -/

/-- The breakpoints of a page are read back (R174, code 16). -/
theorem readPoints_flatMap {pre : List Byte} {points : List Breakpoint} (h : points.all Breakpoint.wellFormed = true)
    (post : List Byte) :
    readPoints (pre ++ (points.flatMap Breakpoint.bytes ++ post)) pre.length points.length = points := by
  unfold readPoints
  rw [List.drop_left, groups_flatMap Breakpoint.bytes 6 length_breakpointBytes, List.map_map]
  refine (List.map_congr_left fun p hp => ?_).trans (List.map_id points)
  have fits := List.all_eq_true.mp h p hp
  simp only [Breakpoint.wellFormed, fitsHalf, Bool.and_eq_true, decide_eq_true_iff] at fits
  obtain ⟨⟨input, drive⟩, time⟩ := fits
  simp [Breakpoint.bytes, input, drive, time]

theorem readRequest_writePage (slot : Nat) (page : RawPage) :
    readRequest (Request.payload (.writePage slot page)) = readWritePage (Request.payload (.writePage slot page)) := by
  simp [readRequest, Request.payload, Request.code]

/-- Code, slot, kind and count of a WritePage (R174, code 16). -/
def pageHead (slot kind count : Nat) : List Byte := numBytes 1 16 ++ (numBytes 2 slot ++ (numBytes 1 kind ++ numBytes 1 count))

theorem length_pageHead (slot kind count : Nat) : (pageHead slot kind count).length = 5 := by simp [pageHead]

/-- Slot, kind and count are read behind whatever follows them. -/
theorem fieldAt_pageHead {slot kind count : Nat} (hs : slot < 65536) (hk : kind < 256) (hc : count < 256) (post : List Byte) :
    fieldAt (pageHead slot kind count ++ post) 1 2 = slot ∧ fieldAt (pageHead slot kind count ++ post) 3 1 = kind ∧
      fieldAt (pageHead slot kind count ++ post) 4 1 = count := by
  have head : ∀ i w, i + w ≤ 5 → fieldAt (pageHead slot kind count ++ post) i w = fieldAt (pageHead slot kind count) i w :=
    fun i w h => fieldAt_append_left (by rw [length_pageHead]; exact h)
  rw [head 1 2 (by decide), head 3 1 (by decide), head 4 1 (by decide)]
  refine ⟨?_, ?_, ?_⟩
  · simp [pageHead, hs]
  · simp [pageHead, hk]
  · simp [pageHead, hc]

theorem length_pointBytes (points : List Breakpoint) : (points.flatMap Breakpoint.bytes).length = 6 * points.length :=
  length_flatMap_const _ 6 length_breakpointBytes points

/-- A Strike page in a WritePage is read back. -/
theorem readWritePage_strike {slot : Nat} {points : List Breakpoint} {x : Scalars} (hs : slot < 65536)
    (few : points.length ≤ 37) (fits : points.all Breakpoint.wellFormed = true) (hx : x.wellFormed = true) :
    readWritePage (Request.payload (.writePage slot (.strike points x))) = .good (.writePage slot (.strike points x)) := by
  have payload : Request.payload (.writePage slot (.strike points x)) =
      pageHead slot 1 points.length ++ (points.flatMap Breakpoint.bytes ++ Scalars.bytes x) := by
    simp [pageHead, Request.payload, Request.code, Request.fieldBytes, RawPage.bytes, numBytes]
  have scalars : ∀ i w, fieldAt (pageHead slot 1 points.length ++ (points.flatMap Breakpoint.bytes ++ Scalars.bytes x))
      (5 + 6 * points.length + i) w = fieldAt (Scalars.bytes x) i w := fun i w => by
    rw [← List.append_assoc, ← length_pointBytes, ← length_pageHead slot 1 points.length, ← List.length_append]
    exact fieldAt_append _ _ _ _
  obtain ⟨readSlot, readKind, readCount⟩ := fieldAt_pageHead (kind := 1) (count := points.length) hs (by decide) (by omega)
    (points.flatMap Breakpoint.bytes ++ Scalars.bytes x)
  have readBack := readPoints_flatMap (pre := pageHead slot 1 points.length) fits (Scalars.bytes x)
  rw [length_pageHead] at readBack
  have length : (pageHead slot 1 points.length ++ (points.flatMap Breakpoint.bytes ++ Scalars.bytes x)).length =
      15 + 6 * points.length := by
    rw [List.length_append, List.length_append, length_pageHead, length_pointBytes,
      show (Scalars.bytes x).length = 10 by simp [Scalars.bytes]]
    omega
  simp only [Scalars.wellFormed, fitsHalf, fitsWord, Bool.and_eq_true, decide_eq_true_iff] at hx
  obtain ⟨⟨⟨attack, hold⟩, rearm⟩, lead⟩ := hx
  have first := scalars 0 2
  rw [Nat.add_zero] at first
  rw [payload, readWritePage, readSlot, readKind, readCount, if_neg (by rw [length]; omega)]
  dsimp only
  rw [if_pos rfl, readBack, first, scalars 2 2, scalars 4 4, scalars 8 2, ofLength_of_length length]
  simp [Scalars.bytes, attack, hold, rearm, lead]

/-- A Pedal page in a WritePage is read back. -/
theorem readWritePage_pedal {slot : Nat} {points : List Breakpoint} (hs : slot < 65536)
    (few : points.length ≤ 39) (fits : points.all Breakpoint.wellFormed = true) :
    readWritePage (Request.payload (.writePage slot (.pedal points))) = .good (.writePage slot (.pedal points)) := by
  have payload : Request.payload (.writePage slot (.pedal points)) =
      pageHead slot 2 points.length ++ (points.flatMap Breakpoint.bytes ++ []) := by
    simp [pageHead, Request.payload, Request.code, Request.fieldBytes, RawPage.bytes, numBytes]
  obtain ⟨readSlot, readKind, readCount⟩ := fieldAt_pageHead (kind := 2) (count := points.length) hs (by decide) (by omega)
    (points.flatMap Breakpoint.bytes ++ [])
  have readBack := readPoints_flatMap (pre := pageHead slot 2 points.length) fits []
  rw [length_pageHead] at readBack
  have length : (pageHead slot 2 points.length ++ (points.flatMap Breakpoint.bytes ++ [])).length = 5 + 6 * points.length := by
    rw [List.length_append, List.length_append, length_pageHead, length_pointBytes]; rfl
  rw [payload, readWritePage, readSlot, readKind, readCount, if_neg (by rw [length]; omega)]
  dsimp only
  rw [if_neg (by decide), if_pos rfl, readBack, ofLength_of_length length]

/-- A WritePage is read back, whatever its kind. -/
theorem readWritePage_payload {slot : Nat} {page : RawPage} (hs : slot < 65536) (h : page.wellFormed = true) :
    readWritePage (Request.payload (.writePage slot page)) = .good (.writePage slot page) := by
  cases page with
  | strike points x =>
    obtain ⟨⟨few, fits⟩, hx⟩ := (Bool.and_eq_true_iff.mp h).imp_left Bool.and_eq_true_iff.mp
    exact readWritePage_strike hs (of_decide_eq_true few) fits hx
  | pedal points =>
    obtain ⟨few, fits⟩ := Bool.and_eq_true_iff.mp h
    exact readWritePage_pedal hs (of_decide_eq_true few) fits
  | empty =>
    have payload : Request.payload (.writePage slot .empty) = numBytes 1 16 ++ (numBytes 2 slot ++ numBytes 1 3) := rfl
    rw [payload]
    simp [readWritePage, ofLength, hs]
  | other code =>
    simp only [RawPage.wellFormed, fitsByte, Bool.and_eq_true, bne_iff_ne, decide_eq_true_iff] at h
    obtain ⟨⟨⟨small, h1⟩, h2⟩, h3⟩ := h
    have payload : Request.payload (.writePage slot (.other code)) =
        numBytes 1 16 ++ (numBytes 2 slot ++ numBytes 1 code) := rfl
    rw [payload]
    simp [readWritePage, hs, small, h1, h2, h3]

/-! ### Cues -/

theorem readRequest_setCue (presence tick : Nat) :
    readRequest (Request.payload (.setCue presence tick)) = readSetCue (Request.payload (.setCue presence tick)) := by
  simp [readRequest, Request.payload, Request.code]

theorem readSetCue_payload {presence tick : Nat} (h : cueWellFormed presence tick = true) :
    readSetCue (Request.payload (.setCue presence tick)) = .good (.setCue presence tick) := by
  simp only [cueWellFormed, fitsByte, fitsWord, Bool.and_eq_true, Bool.or_eq_true, bne_iff_ne, beq_iff_eq,
    decide_eq_true_iff] at h
  obtain ⟨⟨small, word⟩, absent⟩ := h
  by_cases none : presence = 0
  · have zero : tick = 0 := absent.resolve_left (fun h => h none)
    rw [none, zero]
    rfl
  · have payload : Request.payload (.setCue presence tick) = numBytes 1 6 ++ (numBytes 1 presence ++ numBytes 4 tick) := by
      rw [Request.payload, Request.fieldBytes, if_neg none]; rfl
    rw [payload]
    simp [readSetCue, small, word, none]

/-! ### Options -/

theorem readRequest_setOptions (values : List (OptionName × Nat)) :
    readRequest (Request.payload (.setOptions values)) = readSetOptions (Request.payload (.setOptions values)) := by
  simp [readRequest, Request.payload, Request.code]

section
variable {values : List (OptionName × Nat)}
  (h : allOptions.filter (values.map (fun x => x.1)).contains = values.map (fun x => x.1))
include h

/-- The set bits of the map of a SetOptions are the places of its options. -/
theorem bitIndices_optionsMap :
    (optionsMap values).bitIndices = (values.map (fun x => x.1)).map (fun o => allOptions.idxOf o) := by
  have places : (allOptions.map (fun o => allOptions.idxOf o)).Pairwise (· < ·) := by decide
  have named : ((values.map (fun x => x.1)).map (fun o => allOptions.idxOf o)).SortedLT := by
    rw [← h]
    exact (places.sublist (List.filter_sublist.map _)).sortedLT
  have map : optionsMap values = (((values.map (fun x => x.1)).map (fun o => allOptions.idxOf o)).map (2 ^ ·)).sum := by
    rw [optionsMap, List.map_map, List.map_map]; rfl
  rw [map]
  exact Nat.bitIndices_sum_map_two_pow named

theorem testBit_optionsMap (o : OptionName) :
    (optionsMap values).testBit (allOptions.idxOf o) = true ↔ o ∈ values.map (fun x => x.1) := by
  have injective : ∀ a b : OptionName, allOptions.idxOf a = allOptions.idxOf b → a = b := by
    intro a b
    cases a <;> cases b <;> decide
  rw [← Nat.mem_bitIndices, bitIndices_optionsMap h, List.mem_map]
  exact ⟨fun ⟨a, ha, e⟩ => injective a o e ▸ ha, fun ho => ⟨o, ho, rfl⟩⟩

theorem optionsMap_lt : optionsMap values < 1024 := by
  refine Nat.lt_pow_two_of_testBit (n := 10) _ fun i hi => Bool.eq_false_iff.mpr fun bit => ?_
  rw [← Nat.mem_bitIndices, bitIndices_optionsMap h] at bit
  obtain ⟨o, -, rfl⟩ := List.mem_map.mp bit
  have : allOptions.idxOf o < 10 := by cases o <;> decide
  omega

end

/-- The options that a map names. -/
theorem namedOptions_eq (map : Nat) :
    allOptions.zipIdx.filterMap (fun x => if map.testBit x.2 then some x.1 else none) =
      allOptions.filter (fun o => map.testBit (allOptions.idxOf o)) := by
  have places : allOptions.zipIdx = allOptions.map (fun o => (o, allOptions.idxOf o)) := by decide
  rw [places, List.filterMap_map, ← List.filterMap_eq_filter]
  rfl

theorem readSetOptions_payload {values : List (OptionName × Nat)} (h : optionsWellFormed values = true) :
    readSetOptions (Request.payload (.setOptions values)) = .good (.setOptions values) := by
  obtain ⟨order, fits⟩ := Bool.and_eq_true_iff.mp h
  have order := beq_iff_eq.mp order
  have small := optionsMap_lt order
  have payload : Request.payload (.setOptions values) =
      numBytes 1 24 ++ (numBytes 2 (optionsMap values) ++ (values.flatMap (fun x => numBytes 4 x.2) ++ [])) := by
    rw [List.append_nil]; rfl
  have map : fieldAt (Request.payload (.setOptions values)) 1 2 = optionsMap values := by
    have small : optionsMap values < 65536 := by omega
    rw [payload]
    simp [small]
  have length : (Request.payload (.setOptions values)).length = 3 + 4 * values.length := by
    rw [payload]
    simp only [List.length_append, length_numBytes, List.length_nil,
      length_flatMap_const (fun x : OptionName × Nat => numBytes 4 x.2) 4 (fun _ => length_numBytes _ _)]
    omega
  have named : allOptions.filter (fun o => (optionsMap values).testBit (allOptions.idxOf o)) = values.map (fun x => x.1) := by
    rw [← order]
    refine List.filter_congr fun o _ => ?_
    rw [Bool.eq_iff_iff, testBit_optionsMap order, List.contains_iff_mem]
  have numbers : (groups 4 (values.map (fun x => x.1)).length ((Request.payload (.setOptions values)).drop 3)).map bytesNum =
      values.map (fun x => x.2) := by
    have behind : (Request.payload (.setOptions values)).drop 3 = values.flatMap (fun x => numBytes 4 x.2) ++ [] := by
      rw [payload, ← List.append_assoc]
      exact List.drop_left' (by simp)
    rw [behind, List.length_map, groups_flatMap _ 4 (fun _ => length_numBytes _ _), List.map_map]
    refine List.map_congr_left fun x hx => ?_
    have fit : x.2 < 256 ^ 4 := of_decide_eq_true (List.all_eq_true.mp fits x hx)
    rw [Function.comp_apply, bytesNum_numBytes fit]
  have zipped : (values.map (fun x => x.1)).zip (values.map (fun x => x.2)) = values :=
    (List.zip_of_prod rfl rfl).symm
  rw [readSetOptions, map, namedOptions_eq, named, numbers, if_neg (by rw [length]; omega),
    ofLength_of_length (by rw [length, List.length_map]), zipped]

/-! ### Every request -/

/-- Settles O48: layout by layout, each field read where it was written. -/
theorem requestsAreReadBack : Obligations.RequestsAreReadBack := by
  intro r h
  cases r with
  | transportPause => rfl
  | transportResume => rfl
  | transportStop => rfl
  | linkStart => rfl
  | linkStop => rfl
  | drivePermit => rfl
  | readRoster => rfl
  | invalidateAll => rfl
  | calibrateAbort => rfl
  | restart => rfl
  | storeRestore => rfl
  | setCue presence tick => exact (readRequest_setCue presence tick).trans (readSetCue_payload h)
  | writePage slot page =>
    obtain ⟨hs, hp⟩ := Bool.and_eq_true_iff.mp h
    exact (readRequest_writePage slot page).trans (readWritePage_payload (of_decide_eq_true hs) hp)
  | setOptions values => exact (readRequest_setOptions values).trans (readSetOptions_payload h)
  | setMode mode =>
    have h : mode < 256 := of_decide_eq_true h
    simp [readRequest, Request.payload, Request.code, Request.fieldBytes, ofLength, h]
  | transportStart preroll =>
    have h : preroll < 65536 := of_decide_eq_true h
    simp [readRequest, Request.payload, Request.code, Request.fieldBytes, ofLength, h]
  | clearKeyFault key =>
    have h : key < 256 := of_decide_eq_true h
    simp [readRequest, Request.payload, Request.code, Request.fieldBytes, ofLength, h]
  | writeKeySense type number first second third =>
    simp only [Request.wellFormed, fitsByte, fitsHalf, Bool.and_eq_true, decide_eq_true_iff] at h
    obtain ⟨⟨⟨⟨h1, h2⟩, h3⟩, h4⟩, h5⟩ := h
    simp [readRequest, Request.payload, Request.code, Request.fieldBytes, ofLength, h1, h2, h3, h4, h5]
  | readKeySense type number =>
    simp only [Request.wellFormed, fitsByte, Bool.and_eq_true, decide_eq_true_iff] at h
    simp [readRequest, Request.payload, Request.code, Request.fieldBytes, ofLength, h.1, h.2]
  | writeDescriptor set voice fields =>
    simp only [Request.wellFormed, RawDescriptor.wellFormed, fitsByte, fitsHalf, Bool.and_eq_true, decide_eq_true_iff] at h
    obtain ⟨⟨hs, hv⟩, ⟨⟨⟨⟨⟨h1, h2⟩, h3⟩, h4⟩, h5⟩, h6⟩, h7⟩ := h
    simp [readRequest, Request.payload, Request.code, Request.fieldBytes, RawDescriptor.bytes, ofLength, hs, hv, h1, h2, h3,
      h4, h5, h6, h7]
  | readDescriptor set voice =>
    simp only [Request.wellFormed, fitsByte, Bool.and_eq_true, decide_eq_true_iff] at h
    simp [readRequest, Request.payload, Request.code, Request.fieldBytes, ofLength, h.1, h.2]
  | readPage slot =>
    have h : slot < 65536 := of_decide_eq_true h
    simp [readRequest, Request.payload, Request.code, Request.fieldBytes, ofLength, h]
  | selectVoicing set =>
    have h : set < 256 := of_decide_eq_true h
    simp [readRequest, Request.payload, Request.code, Request.fieldBytes, ofLength, h]
  | invalidateVoice voice =>
    have h : voice < 256 := of_decide_eq_true h
    simp [readRequest, Request.payload, Request.code, Request.fieldBytes, ofLength, h]
  | calibrateQueue job =>
    simp only [Request.wellFormed, Job.wellFormed, fitsByte, fitsHalf, Bool.and_eq_true, decide_eq_true_iff] at h
    obtain ⟨⟨⟨⟨⟨⟨h1, h2⟩, h3⟩, h4⟩, h5⟩, h6⟩, h7⟩ := h
    simp [readRequest, Request.payload, Request.code, Request.fieldBytes, Job.bytes, ofLength, h1, h2, h3, h4, h5, h6, h7]
  | setProfile fields =>
    simp only [Request.wellFormed, RawProfile.wellFormed, fitsByte, Bool.and_eq_true, decide_eq_true_iff] at h
    obtain ⟨⟨⟨h1, h2⟩, h3⟩, h4⟩ := h
    simp [readRequest, Request.payload, Request.code, Request.fieldBytes, RawProfile.bytes, ofLength, h1, h2, h3, h4]
  | readStatus clear =>
    have h : clear < 256 := of_decide_eq_true h
    simp [readRequest, Request.payload, Request.code, Request.fieldBytes, ofLength, h]
  | storeSave first last =>
    simp only [Request.wellFormed, fitsByte, Bool.and_eq_true, decide_eq_true_iff] at h
    simp [readRequest, Request.payload, Request.code, Request.fieldBytes, ofLength, h.1, h.2]

end Sys2Proof.Machine
end

section
/-! PROOFS. A Request frame runs the row of its request, waits, or is answered UNKNOWN or Length (O51). -/

namespace Sys2Proof.Machine

/-! ### A request frame handed on -/

/-- A payload of a length a frame can carry is judged as a request (R169, R173). -/
theorem State.receiveRequest_of_length {tag : Byte} {payload : List Byte} {s : State} (nonempty : 1 ≤ payload.length)
    (short : payload.length ≤ 240) (h : s.port.restart = .none) :
    s.receiveRequest tag payload = (s.setReceived []).takeRequest tag payload := by
  rw [State.receiveRequest, if_neg (by omega)]
  exact if_pos h

/-- Behind a Restart's Reply nothing is handed on (R179). -/
theorem State.receiveRequest_of_restart {s : State} (h : s.port.restart ≠ .none) (tag : Byte) (payload : List Byte) :
    s.receiveRequest tag payload = s.setReceived [] := if_neg h

/-- A payload that no Request frame carries damages its frame (R169). -/
theorem State.receiveRequest_of_damaged {tag : Byte} {payload : List Byte} {s : State}
    (damaged : payload.length = 0 ∨ 240 < payload.length) (h : s.port.restart = .none) :
    s.receiveRequest tag payload = (s.setReceived []).bump .frameErrors := by
  rw [State.receiveRequest, if_pos damaged]
  exact if_pos h

theorem State.takeRequest_good {tag : Byte} {payload : List Byte} {s : State} {r : Request}
    (h : readRequest payload = .good r) :
    s.takeRequest tag payload =
      if Request.timed r then s.setTime { s.time with waiting := s.time.waiting ++ [(tag, r)] } else s.takeAtOnce tag r := by
  rw [State.takeRequest, h]

theorem State.takeRequest_badLength {tag : Byte} {payload : List Byte} {s : State} {code : Nat}
    (h : readRequest payload = .badLength code) : s.takeRequest tag payload = s.reply tag code .range (.field 0) := by
  rw [State.takeRequest, h]

theorem State.takeRequest_unknown {tag : Byte} {payload : List Byte} {s : State} {code : Nat}
    (h : readRequest payload = .unknown code) : s.takeRequest tag payload = s.reply tag code .unknown (.code code) := by
  rw [State.takeRequest, h]

/-- A request taken at once is taken as its row. -/
theorem exec_rowOf_of_untimed {tag : Byte} {r : Request} {s : State} (h : s.port.restart = .none)
    (untimed : Request.timed r = false) : exec (rowOf tag r) s = .next (s.takeAtOnce tag r) := by
  have heard : ∀ owner : State → State, s.heard owner = owner s := fun owner => if_pos h
  cases r with
  | setMode | transportStart | transportPause | transportResume | transportStop | setCue => cases untimed
  | _ => exact congrArg Host.Outcome.next (heard _)

/-! ### Payloads a frame can carry -/

theorem length_namedOptions {values : List (OptionName × Nat)} (h : optionsWellFormed values = true) : values.length ≤ 10 := by
  have order := beq_iff_eq.mp (Bool.and_eq_true_iff.mp h).1
  calc values.length = (values.map (fun x => x.1)).length := (List.length_map _).symm
    _ = (allOptions.filter (values.map (fun x => x.1)).contains).length := by rw [order]
    _ ≤ allOptions.length := List.length_filter_le _ _

theorem length_rawPageBytes {page : RawPage} (h : page.wellFormed = true) : (RawPage.bytes page).length ≤ 236 := by
  cases page with
  | strike points x =>
    obtain ⟨⟨few, -⟩, -⟩ := (Bool.and_eq_true_iff.mp h).imp_left Bool.and_eq_true_iff.mp
    have few := of_decide_eq_true few
    have scalars : (Scalars.bytes x).length = 10 := by simp [Scalars.bytes]
    rw [RawPage.bytes, List.length_append, List.length_append, List.length_cons, length_numBytes, length_pointBytes, scalars]
    omega
  | pedal points =>
    have few := of_decide_eq_true (Bool.and_eq_true_iff.mp h).1
    rw [RawPage.bytes, List.length_append, List.length_cons, length_numBytes, length_pointBytes]
    omega
  | empty => decide
  | other code => exact (length_numBytes 1 code).trans_le (by decide)

/-- A request's payload is never empty, and a frame carries it. -/
theorem length_payload_le {r : Request} (h : r.wellFormed = true) :
    1 ≤ (Request.payload r).length ∧ (Request.payload r).length ≤ 240 := by
  have split : (Request.payload r).length = 1 + (Request.fieldBytes r).length := by
    rw [Request.payload, List.length_append, length_numBytes]
  refine ⟨by omega, ?_⟩
  rw [split]
  cases r with
  | setCue presence tick =>
    rw [Request.fieldBytes]
    split <;> simp
  | writePage slot page =>
    have := length_rawPageBytes (Bool.and_eq_true_iff.mp h).2
    simp only [Request.fieldBytes, List.length_append, length_numBytes]
    omega
  | setOptions values =>
    have := length_namedOptions h
    simp only [Request.fieldBytes, List.length_append, length_numBytes,
      length_flatMap_const (fun x : OptionName × Nat => numBytes 4 x.2) 4 (fun _ => length_numBytes _ _)]
    omega
  | _ => simp [Request.fieldBytes, RawDescriptor.bytes, Job.bytes, RawProfile.bytes]

/-! ### Payloads of another length -/

theorem fieldAt_head (code : Byte) (fields : List Byte) : fieldAt (code :: fields) 0 1 = code.toNat := by
  simp [fieldAt, bytesNum]

theorem fieldAt_byte (l : List Byte) (i : Nat) : fieldAt l i 1 = ((l[i]?).map (fun y => y.toNat)).getD 0 := by
  rw [fieldAt]
  cases h : l[i]? with
  | none => simp [List.drop_eq_nil_of_le (List.getElem?_eq_none_iff.mp h), bytesNum]
  | some b =>
    obtain ⟨bound, hb⟩ := List.getElem?_eq_some_iff.mp h
    rw [List.drop_eq_getElem_cons bound, hb]
    simp [bytesNum]

/-- A code that names no request. -/
theorem readRequest_unknown {code : Byte} (h : code.toNat = 0 ∨ 28 < code.toNat) (fields : List Byte) :
    readRequest (code :: fields) = .unknown code.toNat := by
  have named : ∀ n, 1 ≤ n → n ≤ 28 → code.toNat ≠ n := fun n _ _ => by omega
  rw [readRequest, fieldAt_head]
  split
  all_goals first | rfl | (exfalso; omega)

/-- The field bytes of the requests of one length (R174). -/
def fixedLengths : List (Nat × Nat) :=
  [(1, 1), (2, 2), (3, 0), (4, 0), (5, 0), (7, 0), (8, 0), (9, 0), (10, 0), (11, 1), (12, 8), (13, 2), (14, 11), (15, 2),
    (17, 2), (18, 1), (19, 1), (20, 0), (21, 11), (22, 0), (23, 4), (25, 1), (26, 0), (27, 2), (28, 0)]

theorem readRequest_fixed {code : Byte} {fields : List Byte} {n : Nat} (h : (code.toNat, n) ∈ fixedLengths)
    (other : fields.length ≠ n) : readRequest (code :: fields) = .badLength code.toNat := by
  have short : ∀ m r, m = n + 1 → ofLength (code :: fields) m r = .badLength code.toNat := fun m r e => by
    rw [ofLength, if_neg (by rw [List.length_cons]; omega), fieldAt_head]
  generalize hc : code.toNat = c at h short
  rw [readRequest, fieldAt_head, hc]
  simp only [fixedLengths, List.mem_cons, Prod.mk.injEq, List.not_mem_nil, or_false] at h
  rcases h with ⟨rfl, rfl⟩ | ⟨rfl, rfl⟩ | ⟨rfl, rfl⟩ | ⟨rfl, rfl⟩ | ⟨rfl, rfl⟩ | ⟨rfl, rfl⟩ | ⟨rfl, rfl⟩ | ⟨rfl, rfl⟩ | ⟨rfl, rfl⟩ |
    ⟨rfl, rfl⟩ | ⟨rfl, rfl⟩ | ⟨rfl, rfl⟩ | ⟨rfl, rfl⟩ | ⟨rfl, rfl⟩ | ⟨rfl, rfl⟩ | ⟨rfl, rfl⟩ | ⟨rfl, rfl⟩ | ⟨rfl, rfl⟩ |
    ⟨rfl, rfl⟩ | ⟨rfl, rfl⟩ | ⟨rfl, rfl⟩ | ⟨rfl, rfl⟩ | ⟨rfl, rfl⟩ | ⟨rfl, rfl⟩ | ⟨rfl, rfl⟩ <;> exact short _ _ rfl

theorem readRequest_cue {fields : List Byte}
    (h : (fields.length ≠ 1 ∧ fields.length ≠ 5) ∨ (fields[0]? = some 0 ∧ fields.length = 5) ∨
      (fields[0]? = some 1 ∧ fields.length = 1)) : readRequest (6 :: fields) = .badLength 6 := by
  have presence : ∀ b : Byte, fields[0]? = some b → fieldAt (6 :: fields) 1 1 = b.toNat := fun b hb => by
    rw [fieldAt_byte, List.getElem?_cons_succ, hb]; rfl
  rw [readRequest, fieldAt_head]
  show readSetCue _ = _
  rw [readSetCue]
  rcases h with ⟨not1, not5⟩ | ⟨first, length⟩ | ⟨first, length⟩
  · simp [not1, not5]
  · have presence := presence _ first
    simp_all
  · have presence := presence _ first
    simp_all

theorem readRequest_page_short {fields : List Byte} (h : fields.length < 3) : readRequest (16 :: fields) = .badLength 16 := by
  rw [readRequest, fieldAt_head]
  show readWritePage _ = _
  rw [readWritePage, if_pos (by rw [List.length_cons]; omega)]

theorem readRequest_page {fields : List Byte} {kind : Byte} {count : Nat} (hk : fields[2]? = some kind)
    (hc : count = ((fields[3]?).map (fun y => y.toNat)).getD 0)
    (h : (kind = 1 ∧ fields.length ≠ 14 + 6 * count) ∨ (kind = 2 ∧ fields.length ≠ 4 + 6 * count) ∨
      (kind = 3 ∧ fields.length ≠ 3)) : readRequest (16 :: fields) = .badLength 16 := by
  have readKind : fieldAt (16 :: fields) 3 1 = kind.toNat := by rw [fieldAt_byte, List.getElem?_cons_succ, hk]; rfl
  have readCount : fieldAt (16 :: fields) 4 1 = count := by rw [fieldAt_byte, List.getElem?_cons_succ, hc]
  have short : ∀ m r, fields.length + 1 ≠ m → ofLength (16 :: fields) m r = .badLength 16 := fun m r e => by
    rw [ofLength, if_neg (by rwa [List.length_cons]), fieldAt_head]; rfl
  rw [readRequest, fieldAt_head]
  show readWritePage _ = _
  rw [readWritePage]
  split
  · rfl
  · rw [readKind, readCount]
    rcases h with ⟨rfl, length⟩ | ⟨rfl, length⟩ | ⟨rfl, length⟩ <;> exact short _ _ (by omega)

theorem readRequest_options_short {fields : List Byte} (h : fields.length < 2) :
    readRequest (24 :: fields) = .badLength 24 := by
  rw [readRequest, fieldAt_head]
  show readSetOptions _ = _
  rw [readSetOptions, if_pos (.inl (by rw [List.length_cons]; omega))]

/-- As many options are named as bits of the map are set. -/
theorem length_filter_options (map : Nat) :
    (allOptions.filter (fun o => map.testBit (allOptions.idxOf o))).length =
      ((List.range 10).filter (fun i => map.testBit i)).length := by
  have places : List.range 10 = allOptions.map (fun o => allOptions.idxOf o) := by decide
  rw [places, List.filter_map, List.length_map]
  rfl

theorem readRequest_options {fields : List Byte} {high low : Byte} {map : Nat} (hh : fields[0]? = some high)
    (hl : fields[1]? = some low) (hm : map = 256 * high.toNat + low.toNat)
    (h : 1024 ≤ map ∨ fields.length ≠ 2 + 4 * ((List.range 10).filter (fun i => map.testBit i)).length) :
    readRequest (24 :: fields) = .badLength 24 := by
  have readMap : fieldAt (24 :: fields) 1 2 = map := by
    match fields, hh, hl with
    | a :: b :: l, hh, hl =>
      obtain rfl : a = high := by simpa using hh
      obtain rfl : b = low := by simpa using hl
      rw [hm]
      simp [fieldAt, bytesNum, Nat.mul_comm]
  rw [readRequest, fieldAt_head]
  show readSetOptions _ = _
  rw [readSetOptions, readMap, namedOptions_eq]
  rcases h with above | length
  · rw [if_pos (.inr above)]
  · split
    · rfl
    · rw [ofLength, if_neg (by rw [length_filter_options, List.length_cons]; omega), fieldAt_head]
      rfl

/-! ### The rows -/

/-- Settles O51: a payload that is read back runs its row; any other is answered by what `readRequest` finds in it. -/
theorem requestFramesRunTheirRows : Obligations.RequestFramesRunTheirRows := by
  refine ⟨fun tag r s h => ?_, fun tag code fields s t refused short ht hr iff => ?_, fun tag payload s t ht => ?_⟩
  · obtain ⟨nonempty, short⟩ := length_payload_le h
    have good := requestsAreReadBack r h
    have taken : s.port.restart = .none → exec (.requestFrame tag (Request.payload r)) s =
        .next ((s.setReceived []).takeRequest tag (Request.payload r)) := fun hr =>
      congrArg Host.Outcome.next (State.receiveRequest_of_length nonempty short hr)
    refine ⟨fun hr untimed => ?_, fun hr timed => ?_, fun hr => ?_⟩
    · rw [taken hr, State.takeRequest_good good, if_neg (by simp [untimed])]
      exact (exec_rowOf_of_untimed (s := s.setReceived []) hr untimed).symm
    · rw [taken hr, State.takeRequest_good good, if_pos timed]
      rfl
    · exact congrArg Host.Outcome.next (State.receiveRequest_of_restart hr tag _)
  · have taken : exec (.requestFrame tag (code :: fields)) s = .next (t.takeRequest tag (code :: fields)) := by
      rw [ht]
      exact congrArg Host.Outcome.next
        (State.receiveRequest_of_length (by simp) (by rw [List.length_cons]; omega) hr)
    have refuse : readRequest (code :: fields) = .badLength code.toNat → refused := fun bad =>
      iff.mpr (taken.trans (congrArg Host.Outcome.next (State.takeRequest_badLength bad)))
    refine ⟨fun unknown => ?_, fun n one other => refuse (readRequest_fixed one other), ?_, ?_, ?_⟩
    · exact taken.trans (congrArg Host.Outcome.next (State.takeRequest_unknown (readRequest_unknown unknown fields)))
    · rintro rfl length
      exact refuse (readRequest_cue length)
    · rintro rfl
      refine ⟨fun few => refuse (readRequest_page_short few), fun kind count hk hc => ⟨?_, ?_, ?_⟩⟩
      · exact fun one length => refuse (readRequest_page hk hc (.inl ⟨one, length⟩))
      · exact fun two length => refuse (readRequest_page hk hc (.inr (.inl ⟨two, length⟩)))
      · exact fun three length => refuse (readRequest_page hk hc (.inr (.inr ⟨three, length⟩)))
    · rintro rfl
      refine ⟨fun few => refuse (readRequest_options_short few), fun high low map hh hl hm => ⟨?_, ?_⟩⟩
      · exact fun above => refuse (readRequest_options hh hl hm (.inl above))
      · exact fun _ length => refuse (readRequest_options hh hl hm (.inr length))
  · rw [ht]
    refine ⟨fun hr damaged => ?_, fun hr => congrArg Host.Outcome.next (State.receiveRequest_of_restart hr tag payload)⟩
    have damaged : payload.length = 0 ∨ 240 < payload.length := damaged.imp_left (fun e => by rw [e]; rfl)
    exact congrArg Host.Outcome.next (State.receiveRequest_of_damaged damaged hr)

end Sys2Proof.Machine
end

section
/-! PROOFS. Frames on the Score Port: bytes received one after the other complete the frame they are, or a damaged one counts
one error (O49, O50). -/

namespace Sys2Proof.Machine

/-! ### Whatever is handed on, nothing but the hunt holds received bytes -/

/-- A receive side that holds nothing holds nothing afterwards. -/
structure Hears (s t : State) : Prop where
  bytes : s.port.received = [] → t.port.received = []

theorem Hears.refl (s : State) : Hears s s := ⟨id⟩

theorem Hears.trans {s t u : State} (h : Hears s t) (k : Hears t u) : Hears s u := ⟨fun x => k.bytes (h.bytes x)⟩

theorem Hears.of_port {s t : State} (h : t.port = s.port := by rfl) : Hears s t := ⟨fun x => h ▸ x⟩

theorem Hears.of_received {s t : State} (h : t.port.received = s.port.received := by rfl) : Hears s t := ⟨fun x => h.trans x⟩

theorem Hears.ite {p : Prop} [Decidable p] {s t u : State} (h : p → Hears s t) (k : ¬p → Hears s u) :
    Hears s (if p then t else u) := by
  split
  · next hp => exact h hp
  · next hp => exact k hp

theorem Hears.foldl {α : Type} {f : State → α → State} (h : ∀ s a, Hears s (f s a)) (l : List α) (s : State) :
    Hears s (l.foldl f s) := by
  induction l generalizing s with
  | nil => exact .refl s
  | cons a l ih => exact (h s a).trans (ih (f s a))

theorem Hears.reply {s t : State} (h : Hears s t) (tag : Byte) (request : Nat) (result : Result) (data : ReplyData) :
    Hears s (t.reply tag request result data) := h.trans (.of_received (State.offer_received _ _))

theorem Hears.report {s t : State} (h : Hears s t) (r : Report) : Hears s (t.report r) :=
  h.trans (.of_received (State.offer_received _ _))

theorem Hears.unlessRestoring {s : State} {owner : State → State} (h : Hears s (owner s)) (tag : Byte) (code : Nat) :
    Hears s (s.unlessRestoring tag code owner) := .ite (fun _ => (Hears.refl s).reply ..) (fun _ => h)

theorem Hears.unlessStoring {s : State} {owner : State → State} (h : Hears s (owner s)) (tag : Byte) (code : Nat) :
    Hears s (s.unlessStoring tag code owner) := .ite (fun _ => (Hears.refl s).reply ..) (fun _ => h)

theorem Hears.judged {s : State} {done : State → State} (h : Hears s (done s)) (tag : Byte) (code : Nat) (failure : Option Nat) :
    Hears s (s.judged tag code failure done) := by
  cases failure with
  | none => exact h
  | some place => exact (Hears.refl s).reply ..

/-- A reply given at once. -/
theorem Hears.answer (s : State) (tag : Byte) (request : Nat) (result : Result) (data : ReplyData) :
    Hears s (s.reply tag request result data) := (Hears.refl s).reply ..

/-- A reply behind a change that leaves the received bytes as they are. -/
theorem Hears.changed {s : State} (t : State) (tag : Byte) (request : Nat) (result : Result) (data : ReplyData)
    (h : t.port.received = s.port.received := by rfl) : Hears s (t.reply tag request result data) :=
  (Hears.of_received h).reply ..

theorem State.markGap_hears (s : State) (e : CaptureEvent) : Hears s (s.markGap e) := .of_port ((s.markGap_touches e).port rfl)

theorem State.takeEvent_hears (s : State) (e : CaptureEvent) : Hears s (s.takeEvent e) := by
  unfold State.takeEvent
  refine .ite (fun _ => Hears.trans .of_port (State.markGap_hears _ _)) (fun _ => .ite (fun _ => .of_port) (fun _ => ?_))
  refine Hears.trans (Hears.trans (t := s.bump .captureOverflow) .of_received ?_) (State.markGap_hears _ _)
  exact .of_port ((State.summarise_touches _ _).port rfl)

theorem State.handKeyEvent_hears (s : State) (k : Nat) (kind : CaptureKind) (value raw : Nat) :
    Hears s (s.handKeyEvent k kind value raw) := by
  unfold State.handKeyEvent
  exact Hears.trans .of_port (State.takeEvent_hears _ _)

theorem State.releaseKey_hears (s : State) (k raw : Nat) : Hears s (s.releaseKey k raw) := by
  refine .ite (fun _ => ?_) (fun _ => .refl s)
  refine Hears.trans (t := if s.capturing then s.handKeyEvent k .release 0 raw else s) ?_ .of_port
  exact .ite (fun _ => s.handKeyEvent_hears ..) (fun _ => .refl s)

theorem State.closeKey_hears (s : State) (into : TrackState) (k : Nat) : Hears s (s.closeKey into k) :=
  .ite (fun _ => .of_port) (fun _ => (s.releaseKey_hears k s.startTick).trans .of_port)

theorem State.closeKeys_hears (s : State) (keys : List Nat) : Hears s (s.closeKeys keys) :=
  .foldl (fun s k => .ite (fun _ => .refl s) (fun _ => s.closeKey_hears .atRest k)) keys s

theorem State.abortJobs_hears (s : State) (cause : AbortCause) : Hears s (s.abortJobs cause) := by
  unfold State.abortJobs
  refine .ite (fun _ => .refl s) (fun _ => Hears.report ?_ _)
  cases s.calib.current with
  | none => exact .of_port
  | some c => exact (Hears.of_port ((s.endStrike_touches c).port rfl)).trans (.of_port)

theorem State.leaveLink_hears (s : State) (into : LinkState) : Hears s (s.leaveLink into) := by
  unfold State.leaveLink
  refine .ite (fun _ => .refl s) (fun _ => ?_)
  refine Hears.trans (t := if s.linkUp
      then (s.openGap (if into = .lost then s.link.firstMissing else s.time.linkCycle)).closeKeys allKeys else s) ?_ ?_
  · exact .ite (fun _ => (Hears.of_port ((s.openGap_touches _).port rfl)).trans (State.closeKeys_hears _ _)) (fun _ => .refl s)
  · generalize (if s.linkUp
      then (s.openGap (if into = .lost then s.link.firstMissing else s.time.linkCycle)).closeKeys allKeys else s) = t
    refine .ite (fun _ => ?_) (fun _ => .refl t)
    exact (t.abortJobs_hears .linkLeft).trans
      ((Hears.of_port ((State.clearWindows_touches _).port rfl)).trans (.of_port ((State.armPause_touches _).port rfl)))

theorem State.enterEffects_hears (s : State) (into : LinkState) : Hears s (s.enterEffects into) := by
  cases into with
  | ready =>
    show Hears s s.closeGap
    unfold State.closeGap
    split
    · exact .refl s
    · exact .ite (fun _ => Hears.trans .of_port (State.takeEvent_hears _ _)) (fun _ => .of_port)
  | driving => exact .refl s
  | lost => exact .of_received
  | _ => exact .of_port ((s.linkSilence_touches).port rfl)

theorem State.enterLink_hears (s : State) (into : LinkState) (cause : LinkCause) : Hears s (s.enterLink into cause) := by
  refine Hears.report ?_ _
  exact Hears.trans ((s.leaveLink_hears into).trans .of_port) (State.enterEffects_hears _ into)

theorem State.linkStop_hears (s : State) (tag : Byte) : Hears s (s.linkStop tag) := by
  refine Hears.unlessRestoring ?_ tag 8
  refine .ite (fun _ => .answer s ..) (fun _ => ?_)
  exact (Hears.answer s ..).trans (State.enterLink_hears _ _ _)

theorem State.linkStart_hears (s : State) (tag : Byte) : Hears s (s.linkStart tag) := by
  refine Hears.unlessRestoring ?_ tag 7
  refine .ite (fun _ => .ite (fun _ => .answer s ..) (fun _ => ?_)) (fun _ => .answer s ..)
  exact (Hears.answer s ..).trans (State.enterLink_hears _ _ _)

theorem State.setPermit_hears (s : State) (b : Bool) : Hears s (s.setPermit b) := .of_port

theorem State.drivePermit_hears (s : State) (tag : Byte) : Hears s (s.drivePermit tag) := by
  refine Hears.unlessRestoring ?_ tag 9
  split
  · exact .answer s ..
  · exact (s.setPermit_hears true).reply ..
  · exact (s.setPermit_hears true).reply ..
  · exact (s.setPermit_hears true).reply ..
  · exact ((s.setPermit_hears false).reply ..).trans (State.enterLink_hears _ _ _)
  · exact .answer s ..

theorem State.clearFault_hears (s : State) (k : Nat) : Hears s (s.clearFault k) := .of_port ((s.clearFault_touches k).port rfl)

theorem State.clearKeyFault_hears (s : State) (tag : Byte) (key : Nat) : Hears s (s.clearKeyFault tag key) := by
  refine Hears.unlessRestoring ?_ tag 11
  refine .ite (fun _ => ?_) (fun _ => ?_)
  · exact Hears.reply (.foldl State.clearFault_hears allKeys s) ..
  · refine Hears.judged ?_ tag 11 _
    exact (s.clearFault_hears key).reply ..

theorem State.calibrateQueue_hears (s : State) (tag : Byte) (j : Job) : Hears s (s.calibrateQueue tag j) := by
  refine Hears.unlessRestoring ?_ tag 21
  refine .ite (fun _ => ?_) (fun _ => .answer s ..)
  refine Hears.judged ?_ tag 21 _
  exact .ite (fun _ => .answer s ..) (fun _ => .changed ..)

theorem State.putOptions_hears (s : State) (values : List (OptionName × Nat)) : Hears s (s.putOptions values) :=
  .ite (fun _ => .of_received) (fun _ => .of_received)

theorem State.readStatus_hears (s : State) (tag : Byte) (clear : Nat) : Hears s (s.readStatus tag clear) := by
  refine .ite (fun _ => .answer s ..) (fun _ => Hears.trans ?_ (.of_received (State.offer_received _ _)))
  exact .ite (fun _ => .of_received) (fun _ => .refl s)

theorem State.saveFrom_hears (fuel : Nat) (s : State) (op : SaveOp) : Hears s (s.saveFrom fuel op) := by
  induction fuel generalizing op with
  | zero => exact .of_received (State.offer_received _ _)
  | succ fuel ih =>
    exact .ite (fun _ => .of_received (State.offer_received _ _)) (fun _ => .ite (fun _ => ih _) (fun _ => .of_port))

theorem State.setProfile_hears (s : State) (tag : Byte) (fields : RawProfile) : Hears s (s.setProfile tag fields) := by
  refine Hears.unlessStoring ?_ tag 23
  split
  · exact .answer s ..
  · refine Hears.judged ?_ tag 23 _
    exact .changed ..

theorem State.writePage_hears (s : State) (tag : Byte) (slot : Nat) (page : RawPage) : Hears s (s.writePage tag slot page) := by
  refine Hears.unlessStoring ?_ tag 16
  split
  · exact .answer s ..
  · exact .changed ..

theorem State.setOptions_hears (s : State) (tag : Byte) (values : List (OptionName × Nat)) :
    Hears s (s.setOptions tag values) := by
  refine Hears.unlessRestoring ?_ tag 24
  split
  · exact .answer s ..
  · exact (s.putOptions_hears values).reply ..

theorem State.takeRestart_hears (s : State) (tag : Byte) : Hears s (s.takeRestart tag) := by
  refine Hears.unlessStoring ?_ tag 26
  exact .ite (fun _ => .changed ..) (fun _ => ⟨fun _ => rfl⟩)

theorem State.storeSave_hears (s : State) (tag : Byte) (first last : Nat) : Hears s (s.storeSave tag first last) := by
  refine Hears.unlessStoring ?_ tag 27
  refine .ite (fun _ => .answer s ..) (fun _ => ?_)
  refine Hears.judged ?_ tag 27 _
  exact (Hears.answer s ..).trans (State.saveFrom_hears _ _ _)

theorem State.storeRestore_hears (s : State) (tag : Byte) : Hears s (s.storeRestore tag) := by
  refine Hears.unlessStoring ?_ tag 28
  refine .ite (fun _ => .answer s ..) (fun _ => ?_)
  exact (Hears.answer s ..).trans .of_port

theorem State.readRoster_hears (s : State) (tag : Byte) :
    Hears s (s.readRoster tag) := by
  refine Hears.unlessRestoring ?_ tag 10
  exact .answer s ..

theorem State.writeKeySense_hears (s : State) (tag : Byte) (type number first second third : Nat) :
    Hears s (s.writeKeySense tag type number first second third) := by
  refine Hears.unlessStoring ?_ tag 12
  refine Hears.judged ?_ tag 12 _
  exact .changed ..

theorem State.readKeySense_hears (s : State) (tag : Byte) (type number : Nat) :
    Hears s (s.readKeySense tag type number) := by
  refine Hears.unlessRestoring ?_ tag 13
  refine Hears.judged ?_ tag 13 _
  exact .answer s ..

theorem State.writeDescriptor_hears (s : State) (tag : Byte) (set voice : Nat) (f : RawDescriptor) :
    Hears s (s.writeDescriptor tag set voice f) := by
  refine Hears.unlessStoring ?_ tag 14
  refine Hears.judged ?_ tag 14 _
  exact .changed ..

theorem State.readDescriptor_hears (s : State) (tag : Byte) (set voice : Nat) :
    Hears s (s.readDescriptor tag set voice) := by
  refine Hears.unlessRestoring ?_ tag 15
  refine Hears.judged ?_ tag 15 _
  exact .answer s ..

theorem State.readPage_hears (s : State) (tag : Byte) (slot : Nat) :
    Hears s (s.readPage tag slot) := by
  refine Hears.unlessRestoring ?_ tag 17
  refine Hears.judged ?_ tag 17 _
  exact .answer s ..

theorem State.selectVoicing_hears (s : State) (tag : Byte) (set : Nat) :
    Hears s (s.selectVoicing tag set) := by
  refine Hears.unlessRestoring ?_ tag 18
  refine Hears.judged ?_ tag 18 _
  exact .changed ..

theorem State.invalidateVoice_hears (s : State) (tag : Byte) (voice : Nat) :
    Hears s (s.invalidateVoice tag voice) := by
  refine Hears.unlessRestoring ?_ tag 19
  refine Hears.judged ?_ tag 19 _
  exact .changed ..

theorem State.invalidateAll_hears (s : State) (tag : Byte) :
    Hears s (s.invalidateAll tag) := by
  refine Hears.unlessRestoring ?_ tag 20
  exact .changed ..

theorem State.calibrateAbort_hears (s : State) (tag : Byte) : Hears s (s.calibrateAbort tag) := by
  refine Hears.unlessRestoring ?_ tag 22
  exact (Hears.answer s ..).trans (State.abortJobs_hears _ _)

/-- A request taken at once leaves the bytes of the receive side to the hunt. -/
theorem State.takeAtOnce_hears (s : State) (tag : Byte) (r : Request) : Hears s (s.takeAtOnce tag r) := by
  cases r with
  | linkStart => exact s.linkStart_hears tag
  | linkStop => exact s.linkStop_hears tag
  | drivePermit => exact s.drivePermit_hears tag
  | readRoster => exact s.readRoster_hears tag
  | clearKeyFault key => exact s.clearKeyFault_hears tag key
  | writeKeySense type number first second third => exact s.writeKeySense_hears tag type number first second third
  | readKeySense type number => exact s.readKeySense_hears tag type number
  | writeDescriptor set voice fields => exact s.writeDescriptor_hears tag set voice fields
  | readDescriptor set voice => exact s.readDescriptor_hears tag set voice
  | writePage slot page => exact s.writePage_hears tag slot page
  | readPage slot => exact s.readPage_hears tag slot
  | selectVoicing set => exact s.selectVoicing_hears tag set
  | invalidateVoice voice => exact s.invalidateVoice_hears tag voice
  | invalidateAll => exact s.invalidateAll_hears tag
  | calibrateQueue job => exact s.calibrateQueue_hears tag job
  | calibrateAbort => exact s.calibrateAbort_hears tag
  | setProfile fields => exact s.setProfile_hears tag fields
  | setOptions values => exact s.setOptions_hears tag values
  | readStatus clear => exact s.readStatus_hears tag clear
  | restart => exact s.takeRestart_hears tag
  | storeSave first last => exact s.storeSave_hears tag first last
  | storeRestore => exact s.storeRestore_hears tag
  | _ => exact .refl s

theorem State.bumpTimes_hears (s : State) (c : Counter) (n : Nat) : Hears s (s.bumpTimes c n) := by
  induction n generalizing s with
  | zero => exact .refl s
  | succ n ih => exact Hears.trans .of_received (ih (s.bump c))

theorem State.takeEvents_hears (s : State) (records : List EventRecord) : Hears s (s.takeEvents records) :=
  .ite (fun _ => .foldl (fun s _ => .ite (fun _ => .of_port) (fun _ => .of_received)) records s)
    (fun _ => s.bumpTimes_hears _ _)

/-- A frame taken leaves the bytes of the receive side to the hunt. -/
theorem State.takeFrame_hears (s : State) (f : Frame) : Hears s (s.takeFrame f) := by
  refine .ite (fun _ => ?_) (fun _ => .refl s)
  cases f with
  | bad => exact .of_received
  | events _ records => exact s.takeEvents_hears records
  | request tag payload =>
    dsimp only
    unfold State.takeRequest
    split
    · exact (Hears.refl s).reply ..
    · exact (Hears.refl s).reply ..
    · exact .ite (fun _ => .of_port) (fun _ => s.takeAtOnce_hears tag _)

end Sys2Proof.Machine
end

section
/-! PROOFS. A frame received byte by byte is taken as the frame it is (O49). -/

namespace Sys2Proof.Machine

/-! ### A frame behind its delimiter -/

/-- Header, payload and check of a frame, whatever the check holds. -/
def frameBody (kind tag space : Byte) (payload : List Byte) (c : BitVec 16) : List Byte :=
  portBody kind tag space payload ++ crcBytes c

theorem portFrame_eq (kind tag space : Byte) (payload : List Byte) :
    portFrame kind tag space payload =
      [126, 165] ++ frameBody kind tag space payload (crc16 (portBody kind tag space payload)) :=
  List.append_assoc _ _ _

section
variable {kind tag space : Byte} {payload : List Byte} {c : BitVec 16}

theorem length_frameBody : (frameBody kind tag space payload c).length = 6 + payload.length := by
  simp [frameBody, portBody]; omega

variable (short : payload.length ≤ 255)
include short

theorem fieldAt_frameBody (x : List Byte) : fieldAt (frameBody kind tag space payload c ++ x) 3 1 = payload.length := by
  have fits : payload.length % 256 = payload.length := Nat.mod_eq_of_lt (by omega)
  simp [frameBody, portBody, fieldAt, bytesNum, fits]

theorem judgeFrame_frameBody : judgeFrame (frameBody kind tag space payload c) =
    if c = crc16 (portBody kind tag space payload) then judgePayload kind.toNat tag payload else .bad := by
  have length : fieldAt (frameBody kind tag space payload c) 3 1 = payload.length := by
    have := fieldAt_frameBody (kind := kind) (tag := tag) (space := space) (c := c) short []
    rwa [List.append_nil] at this
  have covered : (portBody kind tag space payload).length = 4 + payload.length := by simp [portBody]; omega
  have body : (frameBody kind tag space payload c).take (4 + payload.length) = portBody kind tag space payload := by
    rw [← covered]; exact List.take_left
  have check : ((frameBody kind tag space payload c).drop (4 + payload.length)).take 2 = crcBytes c := by
    rw [← covered, frameBody, List.drop_left]
    exact List.take_of_length_le (length_crcBytes c).le
  have data : ((frameBody kind tag space payload c).drop 4).take payload.length = payload := by
    simp [frameBody, portBody]
  have first : fieldAt (frameBody kind tag space payload c) 0 1 = kind.toNat := by
    simp [frameBody, portBody, fieldAt, bytesNum]
  have second : (frameBody kind tag space payload c).getD 1 0 = tag := by simp [frameBody, portBody]
  rw [judgeFrame, length, body, check, data, first, second]
  exact if_congr ⟨crcBytes_inj, congrArg crcBytes⟩ rfl rfl

/-- A frame whose last byte has arrived is complete, and the hunt goes on behind it, or in it where it is damaged. -/
theorem completeFrame_frameBody : completeFrame (frameBody kind tag space payload c) =
    some (judgeFrame (frameBody kind tag space payload c),
      if judgeFrame (frameBody kind tag space payload c) = .bad then frameBody kind tag space payload c else []) := by
  have length : fieldAt (frameBody kind tag space payload c) 3 1 = payload.length := by
    have := fieldAt_frameBody (kind := kind) (tag := tag) (space := space) (c := c) short []
    rwa [List.append_nil] at this
  have size : frameSize (frameBody kind tag space payload c) = some (6 + payload.length) := by
    rw [frameSize, length, if_neg (by rw [length_frameBody]; omega)]
  rw [completeFrame, size]
  dsimp only
  rw [length_frameBody, if_neg (by omega), List.drop_of_length_le length_frameBody.le]

/-- Before its last byte a frame is not complete. -/
theorem completeFrame_unfinished {start : List Byte} {last : Byte} (h : frameBody kind tag space payload c = start ++ [last]) :
    completeFrame start = none := by
  have length : start.length + 1 = 6 + payload.length := by
    rw [← length_frameBody (kind := kind) (tag := tag) (space := space) (c := c), h, List.length_append]; rfl
  have field : fieldAt start 3 1 = payload.length := by
    have := fieldAt_frameBody (kind := kind) (tag := tag) (space := space) (c := c) short []
    rw [List.append_nil, h, fieldAt_append_left (by omega)] at this
    exact this
  have size : frameSize start = some (6 + payload.length) := by rw [frameSize, field, if_neg (by omega)]
  rw [completeFrame, size]
  exact if_pos (by omega)

end

/-! ### Bytes up to the last of a frame -/

theorem State.takeFrames_of_nil {s : State} (h : s.port.received = []) {m : Nat} (hm : 0 < m) : State.takeFrames m s = s := by
  obtain ⟨m, rfl⟩ : ∃ j, m = j + 1 := ⟨m - 1, by omega⟩
  rw [State.takeFrames, h]
  show s.setReceived [] = s
  rw [← h]; rfl

/-- Bytes that complete no frame are held behind the delimiter. -/
theorem State.receiveBytes_unfinished (s : State) {held l : List Byte} (h : completeFrame (held ++ l) = none) :
    (s.setReceived (126 :: 165 :: held)).receiveBytes l = s.setReceived (126 :: 165 :: (held ++ l)) := by
  induction l generalizing held with
  | nil => rw [List.append_nil]; rfl
  | cons b l ih =>
    have h' : completeFrame ((held ++ [b]) ++ l) = none := by rwa [List.append_assoc]
    have open' : completeFrame (held ++ [b]) = none := by
      cases hc : completeFrame (held ++ [b]) with
      | none => rfl
      | some x => rw [completeFrame_append hc l] at h'; cases h'
    have byte : (s.setReceived (126 :: 165 :: held)).receiveByte b = s.setReceived (126 :: 165 :: (held ++ [b])) := by
      simp [State.receiveByte, State.takeFrames, hunt, open']
    show State.receiveBytes (State.receiveByte _ b) l = _
    rw [byte, ih h', List.append_assoc]
    rfl

/-- A frame received byte by byte from the delimiter on is handed on with its last byte. -/
theorem State.receiveBytes_frame {s : State} {start rest : List Byte} {last : Byte} {f : Frame} (h : s.port.received = [])
    (unfinished : completeFrame start = none) (done : completeFrame (start ++ [last]) = some (f, rest)) :
    s.receiveBytes ([126, 165] ++ (start ++ [last])) = State.takeFrames (start.length + 3) (s.handOn f rest) := by
  have delimiter : (s.receiveByte 126).receiveByte 165 = s.setReceived (126 :: 165 :: []) := by
    simp [State.receiveByte, State.takeFrames, hunt, h, completeFrame, frameSize]
  have held := s.receiveBytes_unfinished (held := []) (l := start) unfinished
  rw [List.nil_append] at held
  have split : s.receiveBytes ([126, 165] ++ (start ++ [last])) =
      ((((s.receiveByte 126).receiveByte 165).receiveBytes start).receiveByte last) := by
    simp [State.receiveBytes, List.foldl_append]
  rw [split, delimiter, held]
  simp [State.receiveByte, State.takeFrames, hunt, done]

theorem State.setReceived_of_received {s : State} {l : List Byte} (h : s.port.received = l) : s.setReceived l = s := by
  rw [← h]; rfl

/-- A frame that leaves no bytes to the hunt is taken, and nothing is held. -/
theorem State.handOn_nil (s : State) (f : Frame) : s.handOn f [] = (s.setReceived []).takeFrame f := by
  have empty : ((s.setReceived []).takeFrame f).port.received = [] := (State.takeFrame_hears (s.setReceived []) f).bytes rfl
  have kept : ((s.setReceived []).takeFrame f).setReceived [] = (s.setReceived []).takeFrame f :=
    State.setReceived_of_received empty
  cases reset : s.resetsAtOnce f with
  | false => rw [State.handOn_of_not_reset reset, kept]
  | true => rw [State.handOn, reset]; rfl

/-- A good frame received is taken. -/
theorem State.receiveBytes_portFrame {s : State} {kind tag space : Byte} {payload : List Byte} (h : s.port.received = [])
    (short : payload.length ≤ 255) (good : judgePayload kind.toNat tag payload ≠ .bad) :
    s.receiveBytes (portFrame kind tag space payload) = (s.setReceived []).takeFrame (judgePayload kind.toNat tag payload) := by
  obtain ⟨start, last, body⟩ : ∃ start last,
      frameBody kind tag space payload (crc16 (portBody kind tag space payload)) = start ++ [last] :=
    (List.eq_nil_or_concat' _).resolve_left (fun e => by
      have := length_frameBody (kind := kind) (tag := tag) (space := space) (payload := payload)
        (c := crc16 (portBody kind tag space payload))
      have zero := congrArg List.length e
      rw [this, List.length_nil] at zero
      omega)
  have judged := judgeFrame_frameBody (kind := kind) (tag := tag) (space := space)
    (c := crc16 (portBody kind tag space payload)) short
  rw [if_pos rfl] at judged
  have done := completeFrame_frameBody (kind := kind) (tag := tag) (space := space)
    (c := crc16 (portBody kind tag space payload)) short
  rw [judged, if_neg good, body] at done
  rw [portFrame_eq, body, State.receiveBytes_frame h (completeFrame_unfinished short body) done, State.handOn_nil]
  exact State.takeFrames_of_nil ((State.takeFrame_hears (s.setReceived []) _).bytes rfl) (by omega)

/-! ### Event records -/

/-- Event records that fit are read back, all of them (R170). -/
theorem mapM_readEvent {records : List EventRecord} (h : ∀ r ∈ records, r.wellFormed = true) :
    (records.map EventRecord.bytes).mapM readEvent = some records := by
  induction records with
  | nil => rfl
  | cons r records ih =>
    have fits := h r List.mem_cons_self
    simp only [EventRecord.wellFormed, fitsByte, fitsHalf, fitsWord, Bool.and_eq_true, decide_eq_true_iff] at fits
    obtain ⟨⟨voice, value⟩, time⟩ := fits
    rw [List.map_cons, List.mapM_cons, readEvent_bytes r voice value time,
      ih (fun x hx => h x (List.mem_cons_of_mem _ hx))]
    rfl

theorem judgePayload_events {records : List EventRecord} (tag : Byte) (some' : 1 ≤ records.length) (few : records.length ≤ 30)
    (h : ∀ r ∈ records, r.wellFormed = true) :
    judgePayload 1 tag (records.flatMap EventRecord.bytes) = .events tag records := by
  have length : (records.flatMap EventRecord.bytes).length = 8 * records.length :=
    length_flatMap_const _ 8 length_eventBytes records
  have count : 8 * records.length / 8 = records.length := by omega
  have grouped := groups_flatMap EventRecord.bytes 8 length_eventBytes records []
  rw [List.append_nil] at grouped
  rw [judgePayload, if_pos rfl, length, count, if_neg (by omega), grouped, mapM_readEvent h]

theorem judgePayload_request {payload : List Byte} (tag : Byte) (nonempty : 1 ≤ payload.length) (short : payload.length ≤ 240) :
    judgePayload 2 tag payload = .request tag payload := by
  rw [judgePayload, if_neg (by decide), if_pos rfl, if_neg (by omega)]

/-! ### The frames -/

/-- Settles O49: the last byte of a good frame completes it, and what is taken is what its judgement names. -/
theorem framesAreReceivedWhole : Obligations.FramesAreReceivedWhole := by
  refine fun tag space payload records s h => ⟨fun nonempty short => ?_, fun some' few fits => ?_⟩
  · have judged := judgePayload_request tag nonempty short
    have taken := State.receiveBytes_portFrame (kind := 2) (tag := tag) (space := space) h (by omega)
      (fun e => Frame.noConfusion (judged.symm.trans e))
    refine congrArg Host.Outcome.next (taken.trans ?_)
    rw [State.receiveRequest, if_neg (by omega)]
    exact congrArg _ judged
  · have judged := judgePayload_events tag some' few fits
    have length : (records.flatMap EventRecord.bytes).length = 8 * records.length :=
      length_flatMap_const _ 8 length_eventBytes records
    have taken := State.receiveBytes_portFrame (kind := 1) (tag := tag) (space := space) h (by omega)
      (fun e => Frame.noConfusion (judged.symm.trans e))
    refine congrArg Host.Outcome.next (taken.trans ?_)
    rw [State.receiveEvents, if_neg (by omega)]
    exact congrArg _ judged

end Sys2Proof.Machine
end

section
/-! PROOFS. Bytes without a delimiter and damaged frames (O50). -/

namespace Sys2Proof.Machine

/-! ### Hunting through bytes -/

/-- No delimiter stands in the bytes. -/
def Undelimited (l : List Byte) : Prop := ∀ before after, l ≠ before ++ [126, 165] ++ after

theorem Undelimited.tail {a : Byte} {l : List Byte} (h : Undelimited (a :: l)) : Undelimited l :=
  fun before after e => h (a :: before) after (by rw [e]; rfl)

/-- A Restart frame begins with a delimiter. -/
theorem Undelimited.restartFree {l : List Byte} (h : Undelimited l) : RestartFree l := fun tag space before after e =>
  h before (portBody 2 tag space [26] ++ crcBytes (crc16 (portBody 2 tag space [26])) ++ after) (by
    rw [e, portFrame]; simp only [List.append_assoc])

/-- Where no delimiter stands only a last 126 is kept. -/
theorem hunt_of_undelimited {l : List Byte} (h : Undelimited l) :
    hunt l = (none, if l.getLast? = some 126 then [126] else []) := by
  induction l using hunt.induct with
  | case1 => rfl
  | case2 b =>
    rw [hunt, List.getLast?_singleton]
    by_cases hb : b = 126
    · rw [if_pos hb, if_pos (by rw [hb]), hb]
    · rw [if_neg hb, if_neg (fun e => hb (Option.some.inj e))]
  | case3 a b l hd => exact absurd (by rw [hd.1, hd.2]; rfl) (h [] l)
  | case4 a b l hd ih => rw [hunt, if_neg hd, ih h.tail, List.getLast?_cons_cons]

/-- The first delimiter is found, and what stands behind it. -/
theorem hunt_first {before : List Byte} (h : Undelimited before) (l : List Byte) :
    (hunt (before ++ [126, 165] ++ l)).1 = some l := by
  induction before using hunt.induct with
  | case1 => simp [hunt]
  | case2 b => simp [hunt]
  | case3 a b l' hd => exact absurd (by rw [hd.1, hd.2]; rfl) (h [] l')
  | case4 a b l' hd ih =>
    have found := ih h.tail
    rw [List.cons_append, List.cons_append, List.cons_append, List.cons_append, hunt, if_neg hd]
    exact found

/-- Bytes without a delimiter leave the part as it was, but for a last 126. -/
theorem State.receiveBytes_undelimited {held bytes : List Byte} {s : State} (hh : s.port.received = held)
    (kept : held = [] ∨ held = [126]) (h : Undelimited (held ++ bytes)) :
    s.receiveBytes bytes = s.setReceived (if (held ++ bytes).getLast? = some 126 then [126] else []) := by
  have settled : ∀ k, s.port.received.length < k → State.takeFrames k s = s := fun k hk => by
    obtain ⟨k, rfl⟩ : ∃ j, k = j + 1 := ⟨k - 1, by omega⟩
    have still : hunt s.port.received = (none, s.port.received) := by
      rw [hh]
      rcases kept with rfl | rfl <;> rfl
    rw [State.takeFrames, still]
    rfl
  rw [State.receiveBytes_eq bytes ((s.port.received ++ bytes).length + 1) s settled (Nat.lt_succ_self _)
    (.inr (by rw [hh]; exact h.restartFree)), hh, State.takeFrames, State.setReceived_port_received, hunt_of_undelimited h]
  rfl

/-! ### Damaged frames -/

/-- What damages a frame (R169). -/
def Damaged (kind : Byte) (tag space : Byte) (payload : List Byte) (c : BitVec 16) : Prop :=
  c ≠ crc16 (portBody kind tag space payload) ∨ 240 < payload.length ∨ (kind ≠ 1 ∧ kind ≠ 2) ∨
    (kind = 1 ∧ (payload.length % 8 ≠ 0 ∨ ∃ i x, payload[8 * i]? = some x ∧ ¬(1 ≤ x.toNat ∧ x.toNat ≤ 6))) ∨ payload = []

theorem recordKind_none {n : Nat} (h : ¬(1 ≤ n ∧ n ≤ 6)) : recordKind n = none := by
  unfold recordKind
  split
  all_goals first | rfl | (exfalso; omega)

theorem mapM_none {α β : Type} {f : α → Option β} {l : List α} {a : α} (ha : a ∈ l) (h : f a = none) : l.mapM f = none := by
  induction l with
  | nil => cases ha
  | cons b l ih =>
    rw [List.mapM_cons]
    rcases List.mem_cons.mp ha with rfl | ha
    · rw [h]; rfl
    · rw [ih ha]
      cases f b <;> rfl

/-- The groups of 8 bytes of a payload, each from its place on. -/
theorem mem_groups {n count i : Nat} (hi : i < count) (l : List Byte) : (l.drop (n * i)).take n ∈ groups n count l := by
  induction count generalizing i l with
  | zero => omega
  | succ count ih =>
    rw [groups]
    cases i with
    | zero => exact List.mem_cons_self
    | succ i =>
      refine List.mem_cons_of_mem _ ?_
      have := ih (i := i) (by omega) (l.drop n)
      rwa [List.drop_drop, show n + n * i = n * (i + 1) by ring] at this

/-- An event of no kind damages its frame. -/
theorem mapM_readEvent_none {payload : List Byte} {i : Nat} {x : Byte} (whole : payload.length % 8 = 0)
    (hx : payload[8 * i]? = some x) (h : ¬(1 ≤ x.toNat ∧ x.toNat ≤ 6)) :
    (groups 8 (payload.length / 8) payload).mapM readEvent = none := by
  obtain ⟨inside, -⟩ := List.getElem?_eq_some_iff.mp hx
  refine mapM_none (mem_groups (n := 8) (i := i) (by omega) payload) ?_
  have first : fieldAt ((payload.drop (8 * i)).take 8) 0 1 = x.toNat := by
    rw [fieldAt_byte, List.getElem?_take_of_lt (by omega), List.getElem?_drop, Nat.add_zero, hx]
    rfl
  rw [readEvent, first, recordKind_none h]
  rfl

/-- A payload that is too long, empty, of no kind or of bad records is judged damaged. -/
theorem judgePayload_bad {kind : Byte} {payload : List Byte} (tag : Byte)
    (h : 240 < payload.length ∨ (kind ≠ 1 ∧ kind ≠ 2) ∨
      (kind = 1 ∧ (payload.length % 8 ≠ 0 ∨ ∃ i x, payload[8 * i]? = some x ∧ ¬(1 ≤ x.toNat ∧ x.toNat ≤ 6))) ∨ payload = []) :
    judgePayload kind.toNat tag payload = .bad := by
  have isKind : ∀ n : Nat, n < 256 → kind.toNat = n → kind = BitVec.ofNat 8 n := fun n hn e =>
    BitVec.eq_of_toNat_eq (by rw [e, BitVec.toNat_ofNat, Nat.mod_eq_of_lt hn])
  have empty : payload = [] → payload.length = 0 := fun e => by rw [e]; rfl
  rw [judgePayload]
  split
  · next one =>
    have one : kind = 1 := isKind 1 (by decide) one
    split
    · rfl
    · next sized =>
      rcases h with long | none | ⟨-, odd | ⟨i, x, hx, other⟩⟩ | none
      · exact absurd (.inr (.inl long)) sized
      · exact absurd one none.1
      · exact absurd (.inr (.inr odd)) sized
      · rw [mapM_readEvent_none (not_not.mp (fun odd => sized (.inr (.inr odd)))) hx other]
      · exact absurd (.inl (empty none)) sized
  · next notOne =>
    split
    · next two =>
      have two : kind = 2 := isKind 2 (by decide) two
      rcases h with long | none | ⟨one, -⟩ | none
      · exact if_pos (.inr long)
      · exact absurd two none.2
      · exact absurd (by rw [one]; rfl) notOne
      · exact if_pos (.inl (empty none))
    · rfl

theorem judgeFrame_damaged {kind tag space : Byte} {payload : List Byte} {c : BitVec 16} (short : payload.length ≤ 255)
    (h : Damaged kind tag space payload c) : judgeFrame (frameBody kind tag space payload c) = .bad := by
  rw [judgeFrame_frameBody short]
  split
  · next good => exact judgePayload_bad tag (h.resolve_left (fun bad => bad good))
  · rfl

/-- A damaged frame counts one error, and the hunt goes on in its bytes. -/
theorem State.receiveBytes_damaged {s : State} {kind tag space : Byte} {payload : List Byte} {c : BitVec 16}
    (hs : s.port.received = []) (hr : s.port.restart = .none) (short : payload.length ≤ 255)
    (h : Damaged kind tag space payload c) :
    ∃ m, (frameBody kind tag space payload c).length < m ∧
      s.receiveBytes ([126, 165] ++ frameBody kind tag space payload c) =
        State.takeFrames m ((s.bump .frameErrors).setReceived (frameBody kind tag space payload c)) := by
  obtain ⟨start, last, body⟩ : ∃ start last, frameBody kind tag space payload c = start ++ [last] :=
    (List.eq_nil_or_concat' _).resolve_left (fun e => by
      have zero := congrArg List.length e
      rw [length_frameBody, List.length_nil] at zero
      omega)
  have done := completeFrame_frameBody (kind := kind) (tag := tag) (space := space) (c := c) short
  have unfinished := completeFrame_unfinished short body
  rw [judgeFrame_damaged short h, if_pos rfl] at done
  rw [body] at done ⊢
  refine ⟨start.length + 3, by simp, ?_⟩
  rw [State.receiveBytes_frame hs unfinished done, s.handOn_bad _ hr]

/-! ### A Restart among the bytes of a damaged frame -/

/-- A Restart found in bytes that come anew is handed on, and the hunt goes on behind it. -/
theorem State.takeFrames_restart {v : State} {before after : List Byte} {tag space : Byte} (first : Undelimited before) (m : Nat) :
    State.takeFrames (m + 1) (v.setReceived (before ++ portFrame 2 tag space [26] ++ after)) =
      State.takeFrames m (v.handOn (.request tag [26]) after) := by
  have found : (hunt (before ++ portFrame 2 tag space [26] ++ after)).1 =
      some (frameBody 2 tag space [26] (crc16 (portBody 2 tag space [26])) ++ after) := by
    rw [portFrame_eq, ← List.append_assoc, List.append_assoc (before ++ [126, 165])]
    exact hunt_first first _
  have judged : judgeFrame (frameBody 2 tag space [26] (crc16 (portBody 2 tag space [26]))) = .request tag [26] := by
    rw [judgeFrame_frameBody (by decide), if_pos rfl]
    rfl
  have complete := completeFrame_frameBody (kind := 2) (tag := tag) (space := space) (payload := [26])
    (c := crc16 (portBody 2 tag space [26])) (by decide)
  rw [judged, if_neg (by simp)] at complete
  have complete := completeFrame_append complete after
  rw [List.nil_append] at complete
  rw [State.takeFrames, State.setReceived_port_received]
  cases hunted : hunt (before ++ portFrame 2 tag space [26] ++ after) with
  | mk body kept =>
    rw [hunted] at found
    cases found
    dsimp only
    rw [complete]
    rfl

theorem readRequest_restart_payload : readRequest [26] = .good .restart := by decide

/-- A Restart whose Reply finds no room resets the part, and the bytes behind it are lost. -/
theorem State.resetsAtOnce_restart {v : State} (hr : v.port.restart = .none) (tag : Byte) :
    v.resetsAtOnce (.request tag [26]) = (!v.storeBusy && decide (64 ≤ v.queued)) := by
  rw [State.resetsAtOnce, readRequest_restart_payload, hr]
  simp

theorem State.takeFrame_restart {v : State} (hr : v.port.restart = .none) (tag : Byte) :
    v.takeFrame (.request tag [26]) = v.takeRestart tag := by
  have heard : v.takeFrame (.request tag [26]) = v.takeRequest tag [26] := if_pos hr
  rw [heard, State.takeRequest_good readRequest_restart_payload]
  rfl

/-- Behind a Restart that was answered Done nothing more is handed on; behind one that was refused no other comes. -/
theorem State.Calm.of_takeRestart {v : State} {after : List Byte} (tag : Byte)
    (h : (v.storeBusy = false ∧ v.port.queue.length < 64) ∨ RestartFree after) : (v.takeRestart tag).Calm after := by
  rcases h with ⟨free, room⟩ | free
  · left
    have room : v.queued < 64 := room
    rw [State.takeRestart, State.unlessStoring, if_neg (by simp [free]), if_pos room, State.reply, State.offer_restart]
    exact fun e => RestartState.noConfusion e
  · exact .inr free

/-! ### The frames -/

/-- Settles O50: what a damaged frame leaves to the hunt is its own bytes, and a Restart among them is the first frame found. -/
theorem damagedFramesOnlyCount : Obligations.DamagedFramesOnlyCount := by
  refine ⟨fun held bytes s hh kept h => congrArg Host.Outcome.next (State.receiveBytes_undelimited hh kept h), ?_⟩
  rintro kind tag space payload body c s hs hr short rfl damaged
  obtain ⟨m, hm, received⟩ := State.receiveBytes_damaged hs hr short damaged
  have hs' : (s.bump .frameErrors).port.received = [] := hs
  have hr' : (s.bump .frameErrors).port.restart = .none := hr
  refine ⟨fun free => ?_, fun tag' space' before after u split first hu => ?_, fun bare => ?_⟩
  · refine congrArg Host.Outcome.next (received.trans ?_)
    exact (State.receiveBytes_of_nil _ m _ hs' hm (.inr free)).symm
  · change frameBody kind tag space payload c = _ at split
    obtain ⟨k, rfl⟩ : ∃ k, m = k + 1 := ⟨m - 1, by omega⟩
    have length : after.length < k := by
      rw [split, portFrame_eq] at hm
      simp only [List.length_append, List.length_cons] at hm
      omega
    have taken : u = (s.bump .frameErrors).takeRestart tag' := by
      rw [← State.takeFrame_restart hr']
      have row : exec (.requestFrame tag' [26]) (s.bump .frameErrors) =
          .next (((s.bump .frameErrors).setReceived []).takeFrame (.request tag' [26])) := rfl
      rw [State.setReceived_of_received hs'] at row
      exact Host.Outcome.next.inj (hu.symm.trans row)
    have empty : u.port.received = [] := by
      rw [taken]; exact (State.takeRestart_hears _ tag').bytes hs'
    have found : s.receiveBytes ([126, 165] ++ frameBody kind tag space payload c) =
        State.takeFrames k ((s.bump .frameErrors).handOn (.request tag' [26]) after) := by
      rw [received, split, State.takeFrames_restart first k]
    have goesOn : (s.bump .frameErrors).resetsAtOnce (.request tag' [26]) = false → u.Calm after →
        s.receiveBytes ([126, 165] ++ frameBody kind tag space payload c) = u.receiveBytes after := fun quiet calm => by
      rw [found, State.handOn_of_not_reset quiet, State.setReceived_of_received hs', State.takeFrame_restart hr', ← taken,
        State.receiveBytes_of_nil after k u empty length calm]
    have resets := State.resetsAtOnce_restart hr' tag'
    refine ⟨fun free full => ?_, fun free room => ?_, fun busy other => ?_⟩
    · have reset : (s.bump .frameErrors).resetsAtOnce (.request tag' [26]) = true := by
        rw [resets, Bool.and_eq_true_iff]
        exact ⟨congrArg not free, decide_eq_true full⟩
      have warm : u = (s.bump .frameErrors).warmReset .restart := by
        rw [taken, ← State.takeFrame_restart hr', ← State.handOn_of_reset reset [], State.handOn_nil,
          State.setReceived_of_received hs']
      refine ⟨congrArg Host.Outcome.next (found.trans ?_), warm ▸ State.fresh_atReset .., empty⟩
      rw [State.handOn_of_reset reset, ← warm]
      exact State.takeFrames_of_nil empty (by omega)
    · refine congrArg Host.Outcome.next (goesOn ?_ (taken ▸ .of_takeRestart tag' (.inl ⟨free, room⟩)))
      rw [resets, show decide (64 ≤ (s.bump .frameErrors).queued) = false from decide_eq_false (Nat.not_le.mpr room),
        Bool.and_false]
    · refine congrArg Host.Outcome.next (goesOn ?_ (taken ▸ .of_takeRestart tag' (.inr other)))
      rw [resets, show (s.bump .frameErrors).storeBusy = true from busy]
      rfl
  · obtain ⟨m, rfl⟩ : ∃ j, m = j + 1 := ⟨m - 1, by omega⟩
    have hunted : hunt (frameBody kind tag space payload c) =
        (none, if (frameBody kind tag space payload c).getLast? = some 126 then [126] else []) := hunt_of_undelimited bare
    refine congrArg Host.Outcome.next (received.trans ?_)
    rw [State.takeFrames, State.setReceived_port_received, hunted]
    rfl

end Sys2Proof.Machine
end

section
/-! PROOFS. What a dispatch does with each command it sends (O8). -/

namespace Sys2Proof.Machine

/-! ### Records written over -/

theorem State.setDrive_setDrive (s : State) (k : Nat) (d d' : KeyDrive) : (s.setDrive k d).setDrive k d' = s.setDrive k d' := by
  unfold State.setDrive
  rw [setNth_setNth]

/-- A record written and decided anew is written once, with what R126 decides on it. -/
theorem State.redecide_setDrive (s : State) {k : Nat} (hk : Keyed k) (d : KeyDrive) :
    (s.setDrive k d).redecide k = s.setDrive k { d with
      state := if s.faulted k then .faulted else if s.waitingYield k then .yielded else if d.driven then .sounding
        else if s.armed k then .armed
        else if d.releaseEnd.any (fun t => decide (s.now < t)) then .releasing else .idle } := by
  have written := s.driveOf_setDrive_self d hk.1 hk.2
  rw [State.redecide, State.decideDrive, written, s.setDrive_setDrive]
  rfl

/-- A count commutes with a record's change and its new decision. -/
theorem State.bumpIf_redecide (s : State) (b : Bool) (c : Counter) (k : Nat) :
    (s.bumpIf b c).redecide k = (s.redecide k).bumpIf b c := by
  cases b <;> rfl

/-! ### Played -/

theorem PlayedSet.of_mem {s t u : State} {via : Option Via} (h : PlayedSet s t via) (k : u.mem = t.mem) : PlayedSet s u via := by
  cases via with
  | none => exact k.trans h
  | some v =>
    obtain ⟨self, others, pages, sense⟩ := h
    rw [← k] at self others pages sense
    exact ⟨self, others, pages, sense⟩

/-- The Played mark of R89, behind what leaves Table Memory alone. -/
theorem State.markPlayed_played {s t : State} (h : t.mem = s.mem) (via : Option Via) : PlayedSet s (t.markPlayed via) via := by
  cases via with
  | none => exact h
  | some v =>
    obtain ⟨pages, sense⟩ := t.modDescriptor_tables v.set v.voice (fun d => { d with played := true })
    refine ⟨fun d hd => ?_, fun n x hx => ?_, pages.trans (congrArg _ h), sense.trans (congrArg _ h)⟩
    · exact State.modDescriptor_self (by rw [h]; exact hd) _
    · rw [← h]; exact t.modDescriptor_ne hx _

/-! ### An Attack or Hold -/

/-- A key's record once an Attack or Hold is dispatched (R137). -/
def KeyDrive.struck (d : KeyDrive) (e : Entry) : KeyDrive :=
  { d with
    driven := true, attackEnd := some (e.onset + e.attack), lastRearm := some e.rearm,
    notes := d.notes.map (fun n => if e.note = some n.id then { n with attackDispatched := true } else n) }

section
variable (s : State) (e : Entry)

theorem State.strikeSent_eq : s.strikeSent e =
    ((s.setDrive e.target ((s.driveOf e.target).struck e)).markPlayed e.via).redecide e.target := rfl

theorem State.driveOf_strikeSent (hk : Keyed e.target) : (s.strikeSent e).driveOf e.target =
    { (s.driveOf e.target).struck e with
      state := if s.faulted e.target then .faulted else if s.waitingYield e.target then .yielded else .sounding } := by
  have played := (s.setDrive e.target ((s.driveOf e.target).struck e)).markPlayed_touches e.via
  have drive : ((s.setDrive e.target ((s.driveOf e.target).struck e)).markPlayed e.via).driveOf e.target =
      (s.driveOf e.target).struck e :=
    (State.driveOf_congr (congrArg DriveSchedule.keys (played.sched rfl)) _).trans (s.driveOf_setDrive_self _ hk.1 hk.2)
  rw [State.strikeSent_eq, State.driveOf_redecide_self _ hk.1 hk.2, State.decideDrive, drive,
    State.faulted_congr (congrArg ActionLink.faults (played.link rfl)),
    State.waitingYield_congr (congrArg DuplexMonitor.yields (played.duplex rfl))]
  rfl

theorem State.driveOf_strikeSent_ne {j : Nat} (h : j ≠ e.target) : (s.strikeSent e).driveOf j = s.driveOf j := by
  have played := (s.setDrive e.target ((s.driveOf e.target).struck e)).markPlayed_touches e.via
  rw [State.strikeSent_eq, State.driveOf_redecide_ne _ h]
  exact (State.driveOf_congr (congrArg DriveSchedule.keys (played.sched rfl)) _).trans (s.driveOf_setDrive_ne _ h)

theorem State.strikeSent_sched : (s.strikeSent e).sched.entries = s.sched.entries ∧
    (s.strikeSent e).sched.pedals = s.sched.pedals := by
  have played := (s.setDrive e.target ((s.driveOf e.target).struck e)).markPlayed_touches e.via
  exact ⟨(congrArg DriveSchedule.entries (played.sched rfl) :), (congrArg DriveSchedule.pedals (played.sched rfl) :)⟩

theorem State.strikeSent_played : PlayedSet s (s.strikeSent e) e.via :=
  PlayedSet.of_mem (State.markPlayed_played (t := s.setDrive e.target ((s.driveOf e.target).struck e)) rfl e.via) rfl

theorem State.strikeSent_of_unvoiced (h : e.via = none) : Touches { sched := true } s (s.strikeSent e) := by
  rw [State.strikeSent_eq, h]
  exact (s.setDrive_touches ..).seq (State.redecide_touches _ _)

/-- What the sequencer does with a dispatched Attack leaves the schedule and Table Memory alone. -/
theorem State.calibrationDispatched_sched (k onset : Nat) :
    (s.calibrationDispatched k onset).sched = s.sched ∧ (s.calibrationDispatched k onset).mem = s.mem := by
  refine ⟨?_, (s.calibrationDispatched_touches k onset).mem rfl⟩
  unfold State.calibrationDispatched
  split
  · rfl
  · next c _ =>
    split
    · dsimp only
      split
      · rfl
      · rw [State.failJob_of_pending _ rfl]
        exact (State.report_touches _ _).sched rfl
    · rfl

theorem State.sent_attack_voiced {v : Via} (h : e.kind = .attack) (hv : e.via = some v) :
    s.sent e = (s.strikeSent e).openMonitor e.target e.strike e.velocity v := by
  rw [State.sent, h, hv]

theorem State.sent_attack_unvoiced (h : e.kind = .attack) (hv : e.via = none) :
    s.sent e = (s.strikeSent e).calibrationDispatched e.target e.onset := by
  rw [State.sent, h, hv]

theorem State.sent_hold (h : e.kind = .hold) : s.sent e = s.strikeSent e := by
  rw [State.sent, h]

/-- Schedule and Table Memory take from an Attack or Hold what the strike gives them. -/
theorem State.sent_strike (h : e.kind = .attack ∨ e.kind = .hold) :
    (s.sent e).sched = (s.strikeSent e).sched ∧ (s.sent e).mem = (s.strikeSent e).mem := by
  rcases h with h | h
  · cases hv : e.via with
    | none =>
      rw [s.sent_attack_unvoiced e h hv]
      exact (s.strikeSent e).calibrationDispatched_sched _ _
    | some v =>
      rw [s.sent_attack_voiced e h hv]
      have opened := (s.strikeSent e).openMonitor_touches e.target e.strike e.velocity v
      exact ⟨opened.sched rfl, opened.mem rfl⟩
  · rw [s.sent_hold e h]
    exact ⟨rfl, rfl⟩

end

/-! ### A Monitor window -/

/-- A StrikeOutcome record depends on the Score Port Controller, the intake and the cycle alone. -/
theorem State.outcome_port_congr {s t : State} (hp : t.port = s.port) (hi : t.intake = s.intake)
    (hc : t.time.linkCycle = s.time.linkCycle) (o : StrikeOutcome) :
    (t.outcome o).port = (if s.port.options.outcomeReports then s.report (.strikeOutcome o) else s).port := by
  rw [State.outcome, hp]
  split
  · exact State.report_port_congr _ hp hi hc
  · exact hp

/-- The window of a dispatched Attack (R143). -/
def State.monitorWindow (s : State) (strike velocity : Nat) (v : Via) : Window :=
  { holder := .monitor velocity v, strike := strike, start := (strike : Int) - s.port.options.windowWidth,
    stop := strike + s.port.options.windowWidth, close := (strike + s.port.options.windowWidth) / 20 + 1 }

section
variable (s : State) {k : Nat} (strike velocity : Nat) (v : Via)

theorem State.openMonitor_ne {j : Nat} (h : j ≠ k) : (s.openMonitor k strike velocity v).windowOf j = s.windowOf j := by
  unfold State.openMonitor
  split
  · rw [State.windowOf_setWindow_ne _ _ h]
    split
    · exact State.windowOf_congr (congrArg DuplexMonitor.windows ((s.outcome_touches _).duplex rfl)) j
    · rfl
  · rfl

theorem State.outcome_options (o : StrikeOutcome) : (s.outcome o).port.options = s.port.options := by
  unfold State.outcome
  split
  · exact State.offer_options _ _
  · rfl

theorem State.openMonitor_yields : (s.openMonitor k strike velocity v).duplex.yields = s.duplex.yields := by
  unfold State.openMonitor
  split
  · dsimp only
    split
    · exact (congrArg DuplexMonitor.yields ((s.outcome_touches _).duplex rfl) :)
    · rfl
  · rfl

variable (seen : s.verifies = true ∧ s.visible k = true)
include seen

theorem State.openMonitor_self (hk : Keyed k) :
    (s.openMonitor k strike velocity v).windowOf k = some (s.monitorWindow strike velocity v) := by
  rw [State.openMonitor, if_pos (Bool.and_eq_true_iff.mpr seen), State.windowOf_setWindow_self _ _ hk.1 hk.2]
  split
  · rw [State.outcome_options]
    rfl
  · rfl

theorem State.openMonitor_free (h : s.windowOf k = none) : (s.openMonitor k strike velocity v).port = s.port := by
  rw [State.openMonitor, if_pos (Bool.and_eq_true_iff.mpr seen), h]
  rfl

theorem State.openMonitor_superseded {w : Window} {commanded : Nat} {old : Via} (h : s.windowOf k = some w)
    (held : w.holder = .monitor commanded old) : (s.openMonitor k strike velocity v).port =
      (s.outcome (supersededOutcome k commanded w.strike old)).port := by
  obtain ⟨holder, st, start, stop, close⟩ := w
  cases held
  rw [State.openMonitor, if_pos (Bool.and_eq_true_iff.mpr seen), h]
  rfl

end

/-! ### The effects -/

theorem State.offSent_eq {s : State} {e : Entry} (hk : Keyed e.target) :
    s.offSent e = State.bumpIf (s.setDrive e.target { s.driveOf e.target with
      driven := false, releaseEnd := atLeast (s.driveOf e.target).releaseEnd (e.onset + e.rearm),
      rearmBase := atLeast (s.driveOf e.target).attackEnd e.onset,
      notes := (s.driveOf e.target).notes.map (fun n => if e.note = some n.id then
        { n with offDispatched := true, origin := if n.origin = .provisional then .capped else n.origin } else n),
      state := if s.faulted e.target then .faulted else if s.waitingYield e.target then .yielded
        else if s.armed e.target then .armed
        else if (atLeast (s.driveOf e.target).releaseEnd (e.onset + e.rearm)).any (fun r => decide (s.now < r)) then .releasing
        else .idle })
      ((s.driveOf e.target).notes.any (fun n => e.note == some n.id && n.origin == .provisional)) .holdCapped := by
  rw [State.offSent]
  dsimp only
  rw [State.bumpIf_redecide, State.redecide_setDrive s hk]
  rfl

theorem State.offNowSent_eq {s : State} {k : Nat} (hk : Keyed k) :
    s.offNowSent k = s.setDrive k { s.driveOf k with
      immediateOff := false,
      releaseEnd := (s.driveOf k).releaseEnd.map (fun r => max r (s.windowStart + (s.driveOf k).lastRearm.getD 0)),
      rearmBase := (s.driveOf k).rearmBase.map (fun r => max r s.windowStart),
      state := if s.faulted k then .faulted else if s.waitingYield k then .yielded
        else if (s.driveOf k).driven then .sounding else if s.armed k then .armed
        else if ((s.driveOf k).releaseEnd.map (fun r => max r (s.windowStart + (s.driveOf k).lastRearm.getD 0))).any
          (fun r => decide (s.now < r)) then .releasing else .idle } := by
  rw [State.offNowSent]
  exact State.redecide_setDrive s hk _

/-- Settles O8: `State.sent` and `State.itemSent` kind by kind. -/
theorem dispatchedCommandsTakeEffect : Obligations.DispatchedCommandsTakeEffect := by
  refine ⟨?_, ?_, fun e s => ⟨fun h => by rw [State.sent, h], fun h => by rw [State.sent, h]⟩⟩
  · rintro e k d s t hk rfl rfl rfl
    refine ⟨fun h => ?_, fun h => ?_, fun v h hv => ?_, fun h hv => ?_, ?_, ?_⟩
    · obtain ⟨sched, mem⟩ := s.sent_strike e h
      have drives : ∀ j, (s.sent e).driveOf j = (s.strikeSent e).driveOf j :=
        State.driveOf_congr (congrArg DriveSchedule.keys sched)
      obtain ⟨entries, pedals⟩ := s.strikeSent_sched e
      refine ⟨?_, fun j hj => ?_, ?_, ?_, (s.strikeSent_played e).of_mem mem⟩
      · rw [drives, s.driveOf_strikeSent e hk]; rfl
      · rw [drives, s.driveOf_strikeSent_ne e hj]
      · rw [sched, entries]
      · rw [sched, pedals]
    · rw [s.sent_hold e h]
      exact s.strikeSent_touches e
    · have struck := s.strikeSent_touches e
      have opened := (s.strikeSent e).openMonitor_touches e.target e.strike e.velocity v
      have verifies : (s.strikeSent e).verifies = s.verifies := by
        rw [State.verifies, State.verifies, struck.time rfl, struck.port rfl]
      have sensed : (s.strikeSent e).sensed e.target = s.sensed e.target := by
        have roster := congrArg ActionLink.roster (struck.link rfl)
        simp only [State.sensed, State.sensorOf_congr roster, State.stationOf_congr roster]
      have tracked : (s.strikeSent e).trackerOf e.target = s.trackerOf e.target :=
        State.trackerOf_congr (congrArg CaptureTracker.keys (struck.tracker rfl)) _
      have windows : ∀ j, (s.strikeSent e).windowOf j = s.windowOf j :=
        State.windowOf_congr (congrArg DuplexMonitor.windows (struck.duplex rfl))
      rw [s.sent_attack_voiced e h hv]
      refine ⟨by simp [State.verifies], fun j hj => ?_, ?_, ?_, fun on awake seen => ?_, fun off => ?_⟩
      · rw [State.openMonitor_ne _ _ _ _ hj, windows]
      · rw [State.openMonitor_yields, struck.duplex rfl]
      · rw [opened.calib rfl, struck.calib rfl]
      · have seen : (s.strikeSent e).verifies = true ∧ (s.strikeSent e).visible e.target = true :=
          ⟨verifies.trans on, (State.visible_iff _ _).mpr ⟨by rwa [tracked], by rwa [sensed]⟩⟩
        refine ⟨?_, fun w commanded old hw held => ?_, fun free => ?_⟩
        · rw [State.openMonitor_self _ _ _ _ seen hk, State.monitorWindow, struck.port rfl]
        · rw [State.openMonitor_superseded _ _ _ _ seen ((windows _).trans hw) held]
          exact State.outcome_port_congr (struck.port rfl) (struck.intake rfl) (congrArg TimeBase.linkCycle (struck.time rfl)) _
        · rw [State.openMonitor_free _ _ _ _ seen ((windows _).trans free), struck.port rfl]
      · have closed : ¬((s.strikeSent e).verifies && (s.strikeSent e).visible e.target) = true := by
          rw [Bool.and_eq_true, State.visible_iff, verifies, tracked, sensed]
          rintro ⟨on, awake, seen⟩
          rcases off with off | off | off
          · simp [on] at off
          · exact awake off
          · simp [seen] at off
        rw [State.openMonitor, if_neg closed]
        exact ⟨windows _, struck.port rfl⟩
    · exact ⟨s.strikeSent e, s.sent_attack_unvoiced e h hv, s.strikeSent_of_unvoiced e hv⟩
    · rintro h release rearm rfl rfl
      rw [State.sent, h]
      exact State.offSent_eq hk
    · rintro - release rearm rfl rfl
      exact State.offNowSent_eq hk
  · rintro e q s t low high rfl rfl
    refine ⟨fun h => ?_, rfl⟩
    have split : s.sent e =
        (s.setPedalDrive e.target { s.pedalDriveOf e.target with level := some e.level }).markPlayed e.via := by
      rw [State.sent, h]
    have played := (s.setPedalDrive e.target { s.pedalDriveOf e.target with level := some e.level }).markPlayed_touches e.via
    rw [split]
    refine ⟨?_, fun p hp => ?_, ?_, ?_, State.markPlayed_played rfl e.via,
      ((s.setPedalDrive_touches ..).mono rfl).seq (played.mono rfl)⟩
    · exact (State.pedalDriveOf_congr (congrArg DriveSchedule.pedals (played.sched rfl)) _).trans
        (s.pedalDriveOf_setPedalDrive_self _ low high)
    · exact (State.pedalDriveOf_congr (congrArg DriveSchedule.pedals (played.sched rfl)) _).trans
        (s.pedalDriveOf_setPedalDrive_ne _ hp)
    · exact (congrArg DriveSchedule.entries (played.sched rfl) :)
    · exact (congrArg DriveSchedule.keys (played.sched rfl) :)

end Sys2Proof.Machine
end

section
/-! PROOFS. What a move of entries takes along, the window of a dispatch, and the filling of the sections (O7). -/

namespace Sys2Proof.Machine

/-! ### Entries that move, and their notes' ticks -/

theorem Entry.later_zero (e : Entry) : e.later 0 = e := by
  cases e
  simp [Entry.later]

/-- A note whose strike moves `a` ticks and whose Off moves `b`. -/
def Note.shifted (n : Note) (a b : Nat) : Note :=
  { n with onset := n.onset + a, strike := n.strike.map (· + a), off := n.off + b }

theorem Note.shifted_zero (n : Note) : n.shifted 0 0 = n := by
  cases n
  simp [Note.shifted]

theorem Note.shifted_shifted (n : Note) (a b c d : Nat) : (n.shifted a b).shifted c d = n.shifted (a + c) (b + d) := by
  unfold Note.shifted
  simp only [Option.map_map, Nat.add_assoc, Function.comp_def]

/-- How far one entry's move takes the strike of the note of key k with an id. -/
def Entry.strikeShift (e : Entry) (k id d : Nat) : Nat := if e.strikes k && e.note == some id then d else 0

/-- How far one entry's move takes the Off of the note of key k with an id. -/
def Entry.offShift (e : Entry) (k id d : Nat) : Nat := if e.offOf k && e.note == some id then d else 0

theorem State.driveOf_modNote_shifted (s : State) {k : Nat} (hk : Keyed k) (id a b : Nat) :
    (s.modNote k id (fun n => n.shifted a b)).driveOf k = { s.driveOf k with
      notes := (s.driveOf k).notes.map (fun n => n.shifted (if n.id = id then a else 0) (if n.id = id then b else 0)) } := by
  refine (s.driveOf_mapNotes_self _ hk.1 hk.2).trans
    (congrArg (fun notes => { s.driveOf k with notes := notes }) (List.map_congr_left fun n _ => ?_))
  split
  · rfl
  · exact n.shifted_zero.symm

section
variable {e : Entry} {k id : Nat}

theorem Entry.strikeShift_of_not (h : e.strikes k = false) (j d : Nat) : e.strikeShift k j d = 0 := by
  simp [Entry.strikeShift, h]

theorem Entry.offShift_of_not (h : e.offOf k = false) (j d : Nat) : e.offShift k j d = 0 := by
  simp [Entry.offShift, h]

variable (hn : e.note = some id)
include hn

theorem Entry.strikeShift_of_note (h : e.strikes k = true) (j d : Nat) : e.strikeShift k j d = if j = id then d else 0 := by
  rw [Entry.strikeShift, h, hn, Bool.true_and]
  exact if_congr (by rw [beq_iff_eq, Option.some.injEq, eq_comm]) rfl rfl

theorem Entry.offShift_of_note (h : e.offOf k = true) (j d : Nat) : e.offShift k j d = if j = id then d else 0 := by
  rw [Entry.offShift, h, hn, Bool.true_and]
  exact if_congr (by rw [beq_iff_eq, Option.some.injEq, eq_comm]) rfl rfl

end

/-- Where no note of key k goes along, its record stands. -/
theorem State.driveOf_noteLater_of_still {s : State} {k : Nat} {d : Nat} {e : Entry}
    (zero : ∀ id, e.strikeShift k id d = 0 ∧ e.offShift k id d = 0) (same : (s.noteLater d e).driveOf k = s.driveOf k) :
    (s.noteLater d e).driveOf k = { s.driveOf k with
      notes := (s.driveOf k).notes.map (fun n => n.shifted (e.strikeShift k n.id d) (e.offShift k n.id d)) } := by
  have unmoved : (s.driveOf k).notes.map (fun n => n.shifted (e.strikeShift k n.id d) (e.offShift k n.id d)) =
      (s.driveOf k).notes :=
    List.map_id'' (fun n => by rw [(zero n.id).1, (zero n.id).2, n.shifted_zero]) _
  rw [same, unmoved]

/-- One entry's move takes the ticks of its note along, and no other's. -/
theorem State.driveOf_noteLater (s : State) {k : Nat} (hk : Keyed k) (d : Nat) (e : Entry) :
    (s.noteLater d e).driveOf k = { s.driveOf k with
      notes := (s.driveOf k).notes.map (fun n => n.shifted (e.strikeShift k n.id d) (e.offShift k n.id d)) } := by
  cases hn : e.note with
  | none =>
    refine State.driveOf_noteLater_of_still (fun id => ?_) (by rw [State.noteLater, hn])
    simp [Entry.strikeShift, Entry.offShift, hn]
  | some id =>
    by_cases ht : e.target = k
    · have strike : e.strikes k = true → e.offOf k = false → s.noteLater d e = s.modNote k id (fun n => n.shifted d 0) →
          (s.noteLater d e).driveOf k = { s.driveOf k with
            notes := (s.driveOf k).notes.map (fun n => n.shifted (e.strikeShift k n.id d) (e.offShift k n.id d)) } := by
        intro strikes notOff moved
        simp only [moved, s.driveOf_modNote_shifted hk, Entry.strikeShift_of_note hn strikes, Entry.offShift_of_not notOff,
          ite_self]
      cases kind : e.kind with
      | attack =>
        exact strike (by simp [Entry.strikes, kind, ht]) (by simp [Entry.offOf, kind])
          (by rw [State.noteLater, hn, kind, ht]; rfl)
      | hold =>
        exact strike (by simp [Entry.strikes, kind, ht]) (by simp [Entry.offOf, kind])
          (by rw [State.noteLater, hn, kind, ht]; rfl)
      | off =>
        have offOf : e.offOf k = true := by simp [Entry.offOf, kind, ht]
        have notStrike : e.strikes k = false := by simp [Entry.strikes, kind]
        have moved : s.noteLater d e = s.modNote k id (fun n => n.shifted 0 d) := by
          rw [State.noteLater, hn, kind, ht]
          simp only [Note.shifted, Nat.add_zero, Option.map_id']
        simp only [moved, s.driveOf_modNote_shifted hk, Entry.strikeShift_of_not notStrike, Entry.offShift_of_note hn offOf,
          ite_self]
      | pedalSet | marker | endOfReplay =>
        refine State.driveOf_noteLater_of_still (fun id => ⟨?_, ?_⟩) (by rw [State.noteLater, hn, kind])
        · exact Entry.strikeShift_of_not (by simp [Entry.strikes, kind]) _ _
        · exact Entry.offShift_of_not (by simp [Entry.offOf, kind]) _ _
    · refine State.driveOf_noteLater_of_still (fun id => ⟨?_, ?_⟩) ?_
      · exact Entry.strikeShift_of_not (by simp [Entry.strikes, ht]) _ _
      · exact Entry.offShift_of_not (by simp [Entry.offOf, ht]) _ _
      · have other := fun f => s.driveOf_modNote_ne id f (Ne.symm ht)
        rw [State.noteLater, hn]
        cases e.kind with
        | attack | hold | off => exact other _
        | pedalSet | marker | endOfReplay => rfl

/-- The moves of several entries add up. -/
theorem State.driveOf_noteLaters (shift : Entry → Nat) {k : Nat} (hk : Keyed k) (l : List Entry) (s : State) :
    (l.foldl (fun s e => s.noteLater (shift e) e) s).driveOf k = { s.driveOf k with
      notes := (s.driveOf k).notes.map (fun n => n.shifted (l.map (fun e => e.strikeShift k n.id (shift e))).sum
        (l.map (fun e => e.offShift k n.id (shift e))).sum) } := by
  induction l generalizing s with
  | nil =>
    have unmoved : (s.driveOf k).notes.map (fun n => n.shifted 0 0) = (s.driveOf k).notes :=
      List.map_id'' Note.shifted_zero _
    simp only [List.foldl_nil, List.map_nil, List.sum_nil, unmoved]
  | cons e l ih =>
    rw [List.foldl_cons, ih, s.driveOf_noteLater hk, List.map_map]
    simp only [List.map_cons, List.sum_cons, Function.comp_def, Note.shifted_shifted]
    rfl

/-- The sum over the entries that are meant is the sum of what each of all entries gives. -/
theorem sum_map_ite (p : Entry → Bool) (f : Entry → Nat) (l : List Entry) :
    (l.map (fun e => if p e then f e else 0)).sum = ((l.filter p).map f).sum := by
  induction l with
  | nil => rfl
  | cons e l ih =>
    by_cases h : p e = true
    · rw [List.filter_cons_of_pos h, List.map_cons, List.map_cons, List.sum_cons, List.sum_cons, ih, if_pos h]
    · rw [List.filter_cons_of_neg h, List.map_cons, List.sum_cons, ih, if_neg h, Nat.zero_add]

/-- Entries that do not move add nothing. -/
theorem sum_map_filter_moved {g : Entry → Nat} {shift : Entry → Nat} (h : ∀ e, shift e = 0 → g e = 0) (l : List Entry) :
    ((l.filter (fun e => shift e != 0)).map g).sum = (l.map g).sum := by
  rw [← sum_map_ite]
  congr 1
  refine List.map_congr_left fun e _ => ?_
  by_cases zero : shift e = 0
  · simp [zero, h e zero]
  · simp [zero]

/-- The notes' ticks behind a move. -/
theorem State.driveOf_moveEntries (shift : Entry → Nat) (s : State) {k : Nat} (hk : Keyed k) :
    (s.moveEntries shift).driveOf k = { s.driveOf k with
      notes := (s.driveOf k).notes.map (fun n => n.shifted
        ((s.sched.entries.filter (fun e => e.strikes k && e.note == some n.id)).map shift).sum
        ((s.sched.entries.filter (fun e => e.offOf k && e.note == some n.id)).map shift).sum) } := by
  rw [State.moveEntries, State.driveOf_noteLaters shift hk]
  have same : ∀ es, (s.setEntries es).driveOf k = s.driveOf k := fun es => State.driveOf_congr rfl k
  rw [same]
  refine congrArg (fun notes => { s.driveOf k with notes := notes }) (List.map_congr_left fun n _ => ?_)
  rw [sum_map_filter_moved (fun e zero => by simp [Entry.strikeShift, zero]),
    sum_map_filter_moved (fun e zero => by simp [Entry.offShift, zero]), ← sum_map_ite, ← sum_map_ite]
  rfl

/-- Every entry stands where its move takes it. -/
theorem State.moveEntries_perm (shift : Entry → Nat) (s : State) :
    (s.moveEntries shift).sched.entries.Perm (s.sched.entries.map (fun e => e.later (shift e))) := by
  have stay : s.sched.entries.filter (fun e => shift e == 0) = s.sched.entries.filter (fun e => !(shift e != 0)) :=
    List.filter_congr fun e _ => by rw [bne, Bool.not_not]
  have all : s.sched.entries.map (fun e => if (shift e != 0) = true then e.later (shift e) else e) =
      s.sched.entries.map (fun e => e.later (shift e)) := by
    refine List.map_congr_left fun e _ => ?_
    by_cases zero : shift e = 0
    · simp [zero, e.later_zero]
    · simp [zero]
  rw [State.moveEntries_entries, stay, ← all]
  exact (insertEntries_perm _ _).trans (filter_map_append_perm (fun e => shift e != 0) (fun e => e.later (shift e)) _)

/-- Where nothing moves, nothing changes. -/
theorem State.moveEntries_zero (s : State) : s.moveEntries (fun _ => 0) = s := by
  have none : s.sched.entries.filter (fun _ => (0 : Nat) != 0) = [] := by simp
  have all : s.sched.entries.filter (fun _ => (0 : Nat) == 0) = s.sched.entries := by simp
  rw [State.moveEntries, none, all]
  rfl

/-! ### The window of a dispatch -/

theorem State.takeCommands_of_dispatch {s : State} (driving : s.link.state = .driving) (running : s.time.transport = .running) :
    s.takeCommands = s.catchUp.fillSections
      (s.catchUp.sched.entries.filter (fun e => decide (s.windowStart + 19 < e.onset)))
      (s.catchUp.sched.entries.filter (fun e => decide (e.onset ≤ s.windowStart + 19))).zipIdx := by
  have start : s.catchUp.windowStart = s.windowStart := by
    rw [State.windowStart, State.windowStart, State.takeCycle_congr (s.catchUp_touches.time rfl)]
  have dispatches : s.dispatches = true := by simp [State.dispatches, driving, running]
  have outside : (fun e => !s.catchUp.inWindow e) = fun e => decide (s.windowStart + 19 < e.onset) := by
    funext e
    rw [State.inWindow, start, ← decide_not]
    exact decide_eq_decide.mpr Nat.not_le
  have inside : s.catchUp.inWindow = fun e => decide (e.onset ≤ s.windowStart + 19) := by
    funext e
    rw [State.inWindow, start]
  rw [State.takeCommands, driving]
  dsimp only
  rw [if_pos dispatches, outside, inside]

theorem State.takeCommands_of_idle {s : State}
    (h : s.link.state = .ready ∨ s.link.state = .lost ∨ (s.link.state = .driving ∧ s.time.transport ≠ .running)) :
    s.takeCommands = s.fillSections s.sched.entries [] := by
  rw [State.takeCommands]
  rcases h with h | h | ⟨h, paused⟩
  · rw [h]
  · rw [h]
  · have idle : s.dispatches = false := by simp [State.dispatches, paused]
    rw [h]
    dsimp only
    rw [idle, if_neg Bool.false_ne_true]

theorem State.catchUpBy_of_free (s : State) {e : Entry} (h : e.isCommand = false) : s.catchUpBy e = s.windowStart - e.onset :=
  if_neg (by simp [h])

/-- As far as the first entry of its target (R135). -/
theorem State.catchUpBy_of_first {s : State} {before behind : List Entry} {e f : Entry}
    (split : s.sched.entries = before ++ f :: behind) (others : ∀ x ∈ before, e.sameTarget x = false)
    (first : e.sameTarget f = true) : s.catchUpBy e = s.windowStart - f.onset := by
  have command : e.isCommand = true := (Bool.and_eq_true_iff.mp (Bool.and_eq_true_iff.mp first).1).1
  have found : s.sched.entries.find? e.sameTarget = some f := by
    rw [split]
    exact List.find?_eq_some_iff_append.mpr ⟨first, before, behind, rfl, fun x hx => by simp [others x hx]⟩
  rw [State.catchUpBy, if_pos command, found]

/-! ### What a section is offered -/

theorem State.offered_eq (s : State) (window : List (Entry × Nat)) (b : Nat) : s.offered window b =
    (allKeys.filter (fun k => (s.driveOf k).immediateOff && s.driverOf k == some b)).map Item.offNow ++
    (if s.link.state = .driving then
      (allPedals.filter (fun q => (s.pedalDriveOf q).rest && s.pedalDriverOf q == some b)).map Item.rest else []) ++
    [EntryKind.off, .attack, .hold, .pedalSet].flatMap (fun kind =>
      (window.filter (fun x => x.1.kind == kind && s.stationFor x.1 == some b)).map (fun x => .entry x.2 x.1)) := by
  have items : ([EntryKind.off, .attack, .hold, .pedalSet].flatMap (fun kind => s.windowItems window b kind)) =
      s.windowItems window b .off ++ s.windowItems window b .attack ++ s.windowItems window b .hold ++
        s.windowItems window b .pedalSet := by
    simp [List.flatMap_cons, List.append_assoc]
  have all : s.offered window b = s.pendingOffs b ++ s.pendingRests b ++
      (s.windowItems window b .off ++ s.windowItems window b .attack ++ s.windowItems window b .hold ++
        s.windowItems window b .pedalSet) := by
    simp only [State.offered, List.append_assoc]
  rw [all, ← items]
  rfl

/-- A PedalSet with a later one of its pedal in the window. -/
theorem outdone_iff (window : List (Entry × Nat)) (x : Entry × Nat) : outdone window x = true ↔
    x.1.kind = .pedalSet ∧ ∃ y ∈ window, y.1.kind = .pedalSet ∧ y.1.target = x.1.target ∧ x.2 < y.2 := by
  simp only [outdone, Bool.and_eq_true, beq_iff_eq, List.any_eq_true, decide_eq_true_iff, and_assoc]

end Sys2Proof.Machine
end

section
/-! PROOFS. The filling of a frame's sections (O7). -/

namespace Sys2Proof.Machine

/-! ### Entries by their number in the window -/

section
variable {es : List Entry}

/-- A number in the window names one entry. -/
theorem zipIdx_unique {x y : Entry × Nat} (hx : x ∈ es.zipIdx) (hy : y ∈ es.zipIdx) (h : x.2 = y.2) : x = y := by
  have at' : ∀ z ∈ es.zipIdx, es[z.2]? = some z.1 := fun z hz => List.mem_zipIdx_iff_getElem?.mp hz
  refine Prod.ext (Option.some.inj ?_) h
  rw [← at' x hx, ← at' y hy, h]

theorem commandsIn_sub {x : Entry × Nat} (h : x ∈ commandsIn es.zipIdx) : x ∈ es.zipIdx := (List.mem_filter.mp h).1

theorem mem_commandsIn {window : List (Entry × Nat)} {x : Entry × Nat} :
    x ∈ commandsIn window ↔ x ∈ window ∧ x.1.isCommand = true ∧ outdone window x = false := by
  rw [commandsIn, List.mem_filter, Bool.and_eq_true, Bool.not_eq_true']

/-- What has no target is not outdone. -/
theorem outdone_of_free {window : List (Entry × Nat)} {x : Entry × Nat} (h : x.1.isCommand = false) : outdone window x = false := by
  have kind : (x.1.kind == .pedalSet) = false := by
    cases hk : x.1.kind <;> simp [Entry.isCommand, hk] at h ⊢
  rw [outdone, kind, Bool.false_and]

end

/-- An entry among the places of a station stands in the commands. -/
theorem State.entry_mem_placed {u : State} {commands : List (Entry × Nat)} {b n : Nat} {e : Entry}
    (h : Item.entry n e ∈ u.placed commands b) : (e, n) ∈ commands := by
  rcases State.mem_offered (List.mem_of_mem_take h) with ⟨k, hk⟩ | ⟨q, hq, -⟩ | ⟨x, hx, hi, -⟩
  · cases hk
  · cases hq
  · cases hi
    exact hx

/-- The item goes, as it stands in the sections: an entry held back does not. -/
def Item.goesOn (unplaced : List (Entry × Nat)) : Item → Bool
  | .entry n e => !heldBack unplaced (e, n)
  | _ => true

section
variable {es : List Entry} {u : State} {unplaced : List (Entry × Nat)}

/-- An entry has a place where a section's places hold it. -/
theorem State.placed_iff {x : Entry × Nat} (hx : x ∈ commandsIn es.zipIdx) :
    x.2 ∈ (u.placesFor (commandsIn es.zipIdx)).flatten.filterMap Item.number? ↔
      ∃ b ∈ allStations, Item.entry x.2 x.1 ∈ u.placed (commandsIn es.zipIdx) b := by
  simp only [List.mem_filterMap, List.mem_flatten, State.placesFor, List.mem_map]
  constructor
  · rintro ⟨i, ⟨l, ⟨b, hb, rfl⟩, hi⟩, number⟩
    cases i with
    | offNow k => cases number
    | rest q => cases number
    | entry n e =>
      have same : (e, n) = x :=
        zipIdx_unique (commandsIn_sub (State.entry_mem_placed hi)) (commandsIn_sub hx) (Option.some.inj number)
      exact ⟨b, hb, same ▸ hi⟩
  · rintro ⟨b, hb, hi⟩
    exact ⟨_, ⟨_, ⟨b, hb, rfl⟩, hi⟩, rfl⟩

theorem State.unplacedOf_eq : u.unplacedOf (commandsIn es.zipIdx) = (commandsIn es.zipIdx).filter (fun x =>
    allStations.all (fun b => !(u.placed (commandsIn es.zipIdx) b).contains (.entry x.2 x.1))) := by
  refine List.filter_congr fun x hx => ?_
  rw [Bool.eq_iff_iff, Bool.not_eq_true', ← Bool.not_eq_true, List.contains_iff_mem, State.placed_iff hx, List.all_eq_true]
  simp only [Bool.not_eq_true', ← Bool.not_eq_true (List.contains _ _), List.contains_iff_mem, not_exists, not_and]

/-- What the sections carry: the places without the entries held back. -/
theorem State.itemsFor_eq : u.itemsFor (commandsIn es.zipIdx) = allStations.map (fun b =>
    (u.placed (commandsIn es.zipIdx) b).filter (Item.goesOn (u.unplacedOf (commandsIn es.zipIdx)))) := by
  rw [State.itemsFor, State.placesFor, List.map_map]
  refine List.map_congr_left fun b _ => List.filter_congr fun i hi => ?_
  cases i with
  | offNow k => rfl
  | rest q => rfl
  | entry n e =>
    have command := State.entry_mem_placed hi
    rw [Item.goes, Item.goesOn, Bool.eq_iff_iff, Bool.not_eq_true', Bool.not_eq_true', ← Bool.not_eq_true, ← Bool.not_eq_true,
      not_iff_not]
    show ((((commandsIn es.zipIdx).filter _).map (fun x => x.2)).contains n = true) ↔ _
    rw [List.contains_iff_mem, List.mem_map]
    constructor
    · rintro ⟨y, hy, rfl⟩
      obtain ⟨member, held⟩ := List.mem_filter.mp hy
      rwa [← zipIdx_unique (commandsIn_sub member) (commandsIn_sub command) rfl]
    · exact fun held => ⟨_, List.mem_filter.mpr ⟨command, held⟩, rfl⟩

/-- A command without a place is held back. -/
theorem heldBack_of_mem {x : Entry × Nat} (hx : x ∈ unplaced) (command : x.1.isCommand = true) : heldBack unplaced x = true := by
  refine List.any_eq_true.mpr ⟨x, hx, ?_⟩
  simp [Entry.sameTarget, command]

/-- A command is sent exactly where it is not held back. -/
theorem State.mem_numbersFor {x : Entry × Nat} (hx : x ∈ es.zipIdx) : x.2 ∈ u.numbersFor (commandsIn es.zipIdx) ↔
    x ∈ commandsIn es.zipIdx ∧ heldBack (u.unplacedOf (commandsIn es.zipIdx)) x = false := by
  rw [State.numbersFor, State.itemsFor_eq]
  simp only [List.mem_filterMap, List.mem_flatten, List.mem_map]
  constructor
  · rintro ⟨i, ⟨l, ⟨b, hb, rfl⟩, hi⟩, number⟩
    obtain ⟨placed, goes⟩ := List.mem_filter.mp hi
    cases i with
    | offNow k => cases number
    | rest q => cases number
    | entry n e =>
      have command := State.entry_mem_placed placed
      have same : (e, n) = x := zipIdx_unique (commandsIn_sub command) hx (Option.some.inj number)
      rw [← same]
      exact ⟨command, by simpa [Item.goesOn] using goes⟩
  · rintro ⟨command, free⟩
    have isCommand := (mem_commandsIn.mp command).2.1
    have found : x.2 ∈ (u.placesFor (commandsIn es.zipIdx)).flatten.filterMap Item.number? := by
      by_contra missing
      have unplaced : x ∈ u.unplacedOf (commandsIn es.zipIdx) :=
        List.mem_filter.mpr ⟨command, by simpa using missing⟩
      rw [heldBack_of_mem unplaced isCommand] at free
      cases free
    obtain ⟨b, hb, placed⟩ := (State.placed_iff command).mp found
    exact ⟨_, ⟨_, ⟨b, hb, rfl⟩, List.mem_filter.mpr ⟨placed, by simp [Item.goesOn, free]⟩⟩, rfl⟩

theorem State.backOf_eq : u.backOf (commandsIn es.zipIdx) =
    ((commandsIn es.zipIdx).filter (heldBack (u.unplacedOf (commandsIn es.zipIdx)))).map (fun x => x.1) := by
  refine congrArg (List.map _) (List.filter_congr fun x hx => ?_)
  rw [Bool.eq_iff_iff, Bool.not_eq_true', ← Bool.not_eq_true, List.contains_iff_mem, State.mem_numbersFor (commandsIn_sub hx)]
  simp [hx]

theorem State.sentOf_eq : u.sentOf es.zipIdx = (es.zipIdx.filter (fun x => !x.1.isCommand ||
    ((commandsIn es.zipIdx).contains x && !heldBack (u.unplacedOf (commandsIn es.zipIdx)) x))).map (fun x => x.1) := by
  refine congrArg (List.map _) (List.filter_congr fun x hx => ?_)
  congr 1
  rw [Bool.eq_iff_iff, List.contains_iff_mem, State.mem_numbersFor hx, Bool.and_eq_true, List.contains_iff_mem,
    Bool.not_eq_true']

end

/-! ### Where every entry finds a place -/

section
variable {es : List Entry} {u : State} (few : ∀ b, (u.offered (commandsIn es.zipIdx) b).length ≤ 24)
include few

theorem State.placed_of_few (b : Nat) : u.placed (commandsIn es.zipIdx) b = u.offered (commandsIn es.zipIdx) b :=
  List.take_of_length_le (few b)

variable (served : ∀ x ∈ commandsIn es.zipIdx, ∃ b ∈ allStations, u.stationFor x.1 = some b)
include served

theorem State.unplacedOf_nil : u.unplacedOf (commandsIn es.zipIdx) = [] := by
  refine List.filter_eq_nil_iff.mpr fun x hx => ?_
  obtain ⟨b, hb, station⟩ := served x hx
  have command := (mem_commandsIn.mp hx).2.1
  have offered : Item.entry x.2 x.1 ∈ u.offered (commandsIn es.zipIdx) b := by
    have item : ∀ kind, x.1.kind = kind → Item.entry x.2 x.1 ∈ u.windowItems (commandsIn es.zipIdx) b kind := fun kind hk =>
      List.mem_map.mpr ⟨x, List.mem_filter.mpr ⟨hx, by simp [hk, station]⟩, rfl⟩
    simp only [State.offered, List.mem_append]
    cases kind : x.1.kind with
    | off => exact .inl (.inl (.inl (.inr (item _ kind))))
    | attack => exact .inl (.inl (.inr (item _ kind)))
    | hold => exact .inl (.inr (item _ kind))
    | pedalSet => exact .inr (item _ kind)
    | marker | endOfReplay => simp [Entry.isCommand, kind] at command
  have found := (State.placed_iff hx).mpr ⟨b, hb, by rw [State.placed_of_few few]; exact offered⟩
  simpa using found

/-- Where all find a place, all are sent, and nothing is put back. -/
theorem State.fillSections_of_few {s : State} (left : List Entry) (hu : u = s.cleared (commandsIn es.zipIdx)) :
    s.fillSections left es.zipIdx =
      (((es.zipIdx.filter (fun x => !outdone es.zipIdx x)).map (fun x => x.1)).foldl State.sent
          ((allStations.flatMap (u.offered (commandsIn es.zipIdx))).foldl State.itemSent (u.setEntries left)),
        allStations.map (fun b => (u.offered (commandsIn es.zipIdx) b).map (Item.command s.windowStart))) := by
  have unplaced := State.unplacedOf_nil few served
  have items : u.itemsFor (commandsIn es.zipIdx) = allStations.map (u.offered (commandsIn es.zipIdx)) := by
    rw [State.itemsFor_eq, unplaced]
    refine List.map_congr_left fun b _ => ?_
    rw [State.placed_of_few few]
    exact List.filter_eq_self.mpr fun i _ => by cases i <;> rfl
  have back : u.backOf (commandsIn es.zipIdx) = [] := by
    rw [State.backOf_eq, unplaced]
    simp [heldBack]
  have sent : u.sentOf es.zipIdx = (es.zipIdx.filter (fun x => !outdone es.zipIdx x)).map (fun x => x.1) := by
    rw [State.sentOf_eq, unplaced]
    refine congrArg (List.map _) (List.filter_congr fun x hx => ?_)
    cases command : x.1.isCommand with
    | false => simp [outdone_of_free command]
    | true =>
      rw [Bool.eq_iff_iff]
      simp [heldBack, mem_commandsIn, hx, command]
  have postponed : u.postpones left (commandsIn es.zipIdx) = u.setEntries left := by
    rw [State.postpones, unplaced, back]
    exact State.moveEntries_zero _
  rw [s.fillSections_eq left es.zipIdx hu, sent, postponed, items, List.map_map, List.flatMap]
  rfl

end

/-! ### What a cycle start sends -/

/-- The frame of a cycle start, and the retry and the release behind it (R158, R77; log 3). -/
theorem exec_cycleStart_frame {s : State} (up : s.link.state ≠ .down) (left : s.time.linkLeft = .none)
    (waiting : s.time.waiting = []) : ∃ u v f, u = s.advanceCycle.takeCommands ∧ f.sections = u.2 ∧
      v = { u.1 with link := { u.1.link with
        frameOut := some f, expiry := some s.advanceCycle.time.linkCycle, echo := .idle } } ∧
      ((∃ c, s.calib.current = some c ∧ c.state = .pending) →
        exec (.cycleStart []) s = .next (State.captureRelease v.retryStrike)) ∧
      ((∀ c, s.calib.current = some c → c.state ≠ .pending) → exec (.cycleStart []) s = .next v.captureRelease) := by
  have built : s.advanceCycle.buildFrame = { s.advanceCycle.takeCommands.1 with link := { s.advanceCycle.takeCommands.1.link with
      frameOut := some
        { cycle := s.advanceCycle.time.linkCycle, state := s.advanceCycle.link.state, echo := s.advanceCycle.link.echo,
          slow := s.advanceCycle.slowByte, sections := s.advanceCycle.takeCommands.2 },
      expiry := some s.advanceCycle.time.linkCycle, echo := .idle } } := if_neg up
  have start := State.cycleStart_nil_of_quiet left waiting
  refine ⟨_, s.advanceCycle.buildFrame, _, rfl, rfl, built, fun pending => ?_, fun free => ?_⟩
  · refine congrArg Host.Outcome.next (start.trans ?_)
    rw [if_pos ((s.strikeWaits_iff).mpr pending)]
  · refine congrArg Host.Outcome.next (start.trans ?_)
    rw [if_neg (fun waits => by
      obtain ⟨c, hc, pending⟩ := (s.strikeWaits_iff).mp waits
      exact free c hc pending)]

/-! ### The places -/

/-- Settles O7: the moves, the window, the offers and the filling, each as its lemma says. -/
theorem placesAreFilledInOrder : Obligations.PlacesAreFilledInOrder := by
  refine ⟨fun shift k s hk => ⟨s.moveEntries_perm shift, s.ordered_moveEntries shift, s.driveOf_moveEntries shift hk,
    s.moveEntries_touches shift⟩, fun s => ⟨fun driving running => ⟨s.catchUp, rfl, State.takeCommands_of_dispatch driving running⟩,
    State.takeCommands_of_idle, State.takeCommands_of_silent, fun e _ free => s.catchUpBy_of_free free,
    fun before f behind e split others first => s.catchUpBy_of_first split others first,
    fun up left waiting => exec_cycleStart_frame up left waiting⟩,
    fun window b s => ⟨rfl, s.offered_eq window b, outdone_iff window⟩, ?_⟩
  rintro es left window commands unplaced s u v rfl rfl hu hun hv
  change u = s.cleared (commandsIn es.zipIdx) at hu
  have hun : unplaced = u.unplacedOf (commandsIn es.zipIdx) := hun.trans State.unplacedOf_eq.symm
  have hv : v = u.postpones left (commandsIn es.zipIdx) := by
    rw [hv, State.postpones, State.backOf_eq, hun]
    rfl
  refine ⟨fun room => ?_, fun items hitems => ?_, fun few served => State.fillSections_of_few few served left hu⟩
  · have count : ∀ w : State, Touches { sched := true } s w → w.count .postponed = s.count .postponed := fun w h => by
      rw [State.count, State.count, h.port rfl]
    have cleared : Touches { sched := true } s u := hu ▸ s.cleared_touches (commandsIn es.zipIdx)
    have moved := cleared.seq ((u.setEntries_touches (u.backOf (commandsIn es.zipIdx) ++ left)).seq
      (State.moveEntries_touches _
        (fun e => if (u.unplacedOf (commandsIn es.zipIdx)).any (fun y => e.sameTarget y.1) then 20 else 0)))
    rw [hv, State.postpones, hun, State.count_bumpTimes_self, count _ moved]
    rw [count _ moved, ← hun]
    exact room
  · have items' : items = u.itemsFor (commandsIn es.zipIdx) := by
      rw [hitems, State.itemsFor_eq, ← hun]
      refine List.map_congr_left fun b _ => List.filter_congr fun i _ => ?_
      cases i <;> rfl
    rw [s.fillSections_eq left es.zipIdx hu, State.sentOf_eq, ← hv, ← items', ← hun]
    rfl

end Sys2Proof.Machine
end

section
/-! PROOFS. After a dispatch every entry stands ahead of the window, and what was sent stood in it (O6). -/

namespace Sys2Proof.Machine

/-! ### Entries ahead of a tick -/

/-- Every entry of the schedule stands at a tick or behind it. -/
def State.Ahead (s : State) (tick : Nat) : Prop := ∀ e ∈ s.sched.entries, tick ≤ e.onset

theorem State.Ahead.congr {s t : State} {tick : Nat} (h : s.Ahead tick) (same : t.sched.entries = s.sched.entries) :
    t.Ahead tick := fun e he => h e (same ▸ he)

theorem State.sent_entries (s : State) (e : Entry) : (s.sent e).sched.entries = s.sched.entries := by
  cases kind : e.kind with
  | attack => rw [(s.sent_strike e (.inl kind)).1, (s.strikeSent_sched e).1]
  | hold => rw [(s.sent_strike e (.inr kind)).1, (s.strikeSent_sched e).1]
  | off =>
    rw [State.sent, kind]
    dsimp only
    rw [State.offSent, State.bumpIf_redecide]
    exact (congrArg DriveSchedule.entries ((State.bumpIf_touches _ _ _).sched rfl) :)
  | pedalSet =>
    rw [State.sent, kind]
    exact (congrArg DriveSchedule.entries ((State.markPlayed_touches _ _).sched rfl) :)
  | marker =>
    rw [State.sent, kind]
    exact congrArg DriveSchedule.entries ((State.report_touches _ _).sched rfl)
  | endOfReplay => rw [State.sent, kind]

section
variable {s : State} {tick : Nat} (h : s.Ahead tick)
include h

theorem State.Ahead.moveOff {k id off : Nat} {origin : OffOrigin} (later : tick ≤ off) :
    (s.moveOff k id off origin).Ahead tick := by
  intro e he
  rw [State.moveOff_entries] at he
  rcases List.mem_append.mp ((insertEntries_perm _ _).mem_iff.mp he) with moved | stays
  · obtain ⟨x, -, rfl⟩ := List.mem_map.mp moved
    exact later
  · exact h e (List.mem_filter.mp stays).1

/-- The spacing of a note moves an Off no earlier than to the earliest dispatchable tick (R128). -/
theorem State.Ahead.spaceNote (earliest : tick ≤ s.earliest) (k onset rearm : Nat) :
    (s.spaceNote k onset rearm).1.Ahead tick := by
  cases opened : (s.driveOf k).openNote with
  | none =>
    cases base : (s.driveOf k).rearmBase with
    | none => rw [State.spaceNote_of_free opened base]; exact h
    | some b =>
      rw [State.spaceNote_of_base opened base]
      split
      · exact h.congr rfl
      · exact h
  | some p =>
    rw [State.spaceNote_of_open opened]
    split
    · exact (h.moveOff (by omega)).congr rfl
    · next late =>
      split
      · exact h.moveOff (by omega)
      · exact h

theorem State.Ahead.makeNote {m : NewNote} (onset : tick ≤ m.onset) (off : tick ≤ m.off) (k : Nat) :
    (s.makeNote k m).Ahead tick := by
  obtain ⟨strike, release, -, hs, -, -, -, -, -, ho, -, -, entries⟩ := s.makeNote_entries k m
  intro e he
  rw [entries] at he
  rcases mem_insertEntry.mp he with rfl | he
  · rw [ho]; exact off
  rcases mem_insertEntry.mp he with rfl | he
  · rw [hs]; exact onset
  · exact h e (List.mem_filter.mp he).1

/-- A calibration strike asked again at a cycle start is admitted ahead of the window, or changes no entry (R134, R158). -/
theorem State.Ahead.retryStrike (earliest : tick ≤ s.earliest) : s.retryStrike.Ahead tick := by
  unfold State.retryStrike
  split
  · exact h
  · next c _ =>
    split
    · next pending =>
      have fails : ∀ (u : State) reason, u.sched.entries = s.sched.entries → (u.failJob c reason).Ahead tick := by
        intro u reason same
        rw [State.failJob_of_pending u pending]
        exact h.congr ((congrArg DriveSchedule.entries ((State.report_touches _ _).sched rfl)).trans same)
      rcases s.askStrike_cases c with ⟨-, e⟩ | ⟨-, ⟨counter, -, e⟩ | ⟨-, -, e⟩ | ⟨spaced, hs, -, -, e⟩⟩
      · rw [e]; exact fails s _ rfl
      · rw [e]; exact fails _ _ rfl
      · rw [e]; exact h.congr rfl
      · have ahead : spaced.1.Ahead tick := hs ▸ h.spaceNote earliest _ _ _
        rw [e]
        refine State.Ahead.congr (ahead.makeNote (m := calibrationNote _ _ _ _ _ _) ?_ ?_ _) rfl
        · exact earliest.trans ((Nat.le_max_right _ _).trans (Nat.le_add_right _ _))
        · exact earliest.trans ((Nat.le_max_right _ _).trans ((Nat.le_add_right _ _).trans (Nat.le_add_right _ _)))
    · exact h

end

/-! ### Entries risen to the window -/

/-- Entries that rise reach the window: the first of a target stands before the others (R124, R135). -/
theorem State.catchUp_ahead {s : State} (ordered : s.scheduleOrdered) : s.catchUp.Ahead s.windowStart := by
  intro x hx
  obtain ⟨e, he, rfl⟩ := List.mem_map.mp ((s.moveEntries_perm s.catchUpBy).mem_iff.mp hx)
  show s.windowStart ≤ e.onset + s.catchUpBy e
  by_cases command : e.isCommand = true
  · cases found : s.sched.entries.find? e.sameTarget with
    | none =>
      have self := List.find?_eq_none.mp found e he
      exact absurd (by simp [Entry.sameTarget, command]) self
    | some f =>
      obtain ⟨same, before, behind, split, others⟩ := List.find?_eq_some_iff_append.mp found
      rw [s.catchUpBy_of_first split (fun x hx => by simpa using others x hx) same]
      have first : f.onset ≤ e.onset := by
        have ordered : (before ++ f :: behind).Pairwise (fun a b => b.before a = false) := split ▸ ordered
        rw [split] at he
        rcases List.mem_append.mp he with early | late
        · have other := others e early
          simp [Entry.sameTarget, command] at other
        · rcases List.mem_cons.mp late with rfl | late
          · exact le_rfl
          · have := (Entry.not_before_iff e f).mp
              ((List.pairwise_cons.mp (List.pairwise_append.mp ordered).2.1).1 e late)
            omega
      omega
  · rw [s.catchUpBy_of_free (by simpa using command)]
    omega

/-- Two entries of one note are of one target. -/
def NotesNamed (l : List Entry) : Prop :=
  ∀ a ∈ l, ∀ b ∈ l, a.note.isSome = true → a.note = b.note → a.sameTarget b = true

theorem State.notesNamed.entries {s : State} (h : s.notesNamed) : NotesNamed s.sched.entries := by
  obtain ⟨owned, one, -⟩ := h
  intro a ha b hb some' same
  obtain ⟨id, hid⟩ := Option.isSome_iff_exists.mp some'
  have target := one a ha b hb some' same
  have key : ∀ e : Entry, e.ofKey e.target = true → e.isCommand = true ∧ e.targetRank = e.target := fun e h => by
    cases kind : e.kind <;>
      simp [Entry.ofKey, Entry.strikes, Entry.offOf, Entry.isCommand, Entry.targetRank, kind] at h ⊢
  obtain ⟨ca, ra⟩ := key a (owned a ha id hid).2
  obtain ⟨cb, rb⟩ := key b (owned b hb id (same ▸ hid)).2
  simp [Entry.sameTarget, ca, cb, ra, rb, target]

/-- Moved entries are of the notes and the targets they were of. -/
theorem NotesNamed.moved {l m : List Entry} (h : NotesNamed l) (shift : Entry → Nat)
    (perm : m.Perm (l.map (fun e => e.later (shift e)))) : NotesNamed m := by
  intro a ha b hb some' same
  obtain ⟨x, hx, rfl⟩ := List.mem_map.mp (perm.mem_iff.mp ha)
  obtain ⟨y, hy, rfl⟩ := List.mem_map.mp (perm.mem_iff.mp hb)
  exact h x hx y hy some' same

theorem Entry.sameTarget_symm {a b : Entry} (h : a.sameTarget b = true) : b.sameTarget a = true := by
  simp only [Entry.sameTarget, Bool.and_eq_true, beq_iff_eq] at h ⊢
  exact ⟨⟨h.1.2, h.1.1⟩, h.2.symm⟩

/-! ### The filling of a window -/

/-- What is put back stands 20 ticks behind its window, with the rest (R136; log 17). -/
theorem State.postpones_ahead {u : State} {left es : List Entry} {w : Nat} (window : ∀ e ∈ es, w ≤ e.onset)
    (rest : ∀ e ∈ left, w + 20 ≤ e.onset) (named : NotesNamed es) :
    (u.postpones left (commandsIn es.zipIdx)).Ahead (w + 20) := by
  have moved : (u.postpones left (commandsIn es.zipIdx)).sched.entries =
      ((u.setEntries (u.backOf (commandsIn es.zipIdx) ++ left)).moveEntries
        (fun e => if (u.unplacedOf (commandsIn es.zipIdx)).any (fun y => e.sameTarget y.1) then 20 else 0)).sched.entries :=
    congrArg DriveSchedule.entries ((State.bumpTimes_touches _ _ _).sched rfl)
  intro x hx
  rw [moved] at hx
  obtain ⟨e, he, rfl⟩ := List.mem_map.mp ((State.moveEntries_perm _ _).mem_iff.mp hx)
  show w + 20 ≤ e.onset + if (u.unplacedOf (commandsIn es.zipIdx)).any (fun y => e.sameTarget y.1) then 20 else 0
  have inside : ∀ y ∈ commandsIn es.zipIdx, y.1 ∈ es := fun y hy => by
    have := List.mem_map_of_mem (f := fun x => x.1) (commandsIn_sub hy)
    rwa [List.zipIdx_map_fst] at this
  rcases List.mem_append.mp he with back | back
  · rw [State.backOf_eq] at back
    obtain ⟨x, heldBack, rfl⟩ := List.mem_map.mp back
    obtain ⟨command, held⟩ := List.mem_filter.mp heldBack
    obtain ⟨y, hy, why⟩ := List.any_eq_true.mp held
    have yCommand := (List.mem_filter.mp hy).1
    have same : x.1.sameTarget y.1 = true := by
      rcases Bool.or_eq_true_iff.mp why with target | note
      · exact Entry.sameTarget_symm (Bool.and_eq_true_iff.mp target).1
      · obtain ⟨some', equal⟩ := Bool.and_eq_true_iff.mp note
        exact Entry.sameTarget_symm (named _ (inside y yCommand) _ (inside x command) some' (beq_iff_eq.mp equal))
    rw [if_pos (List.any_eq_true.mpr ⟨y, hy, same⟩)]
    exact Nat.add_le_add_right (window _ (inside x command)) 20
  · exact (rest e back).trans (Nat.le_add_right _ _)

theorem State.fillSections_entries (s : State) (left es : List Entry) : (s.fillSections left es.zipIdx).1.sched.entries =
    ((s.cleared (commandsIn es.zipIdx)).postpones left (commandsIn es.zipIdx)).sched.entries := by
  rw [s.fillSections_eq left es.zipIdx rfl, foldl_entries State.sent_entries, foldl_entries State.itemSent_entries]

/-- A dispatch leaves every entry at the first tick of the next window or behind it (R135, R136). -/
theorem State.takeCommands_ahead {s : State} (driving : s.link.state = .driving) (running : s.time.transport = .running)
    (ordered : s.scheduleOrdered) (named : s.notesNamed) : s.takeCommands.1.Ahead s.earliest := by
  have risen := State.catchUp_ahead ordered
  have names : NotesNamed s.catchUp.sched.entries := named.entries.moved s.catchUpBy (s.moveEntries_perm _)
  have next : s.earliest = s.windowStart + 20 := by
    rw [State.earliest, State.windowStart]; omega
  rw [State.takeCommands_of_dispatch driving running, next]
  refine State.Ahead.congr (State.postpones_ahead (u := s.catchUp.cleared _) (fun e he => ?_) (fun e he => ?_) ?_)
    (s.catchUp.fillSections_entries _ _)
  · exact risen e (List.mem_filter.mp he).1
  · have := of_decide_eq_true (List.mem_filter.mp he).2
    omega
  · exact fun a ha b hb => names a (List.mem_filter.mp ha).1 b (List.mem_filter.mp hb).1

/-- What a dispatch sends. -/
theorem State.mem_takeCommands {s : State} (driving : s.link.state = .driving) (running : s.time.transport = .running)
    (ordered : s.scheduleOrdered) {l : List Command} (hl : l ∈ s.takeCommands.2) {c : Command} (hc : c ∈ l) : c.fine < 20 ∧
      ((∃ k, c = Item.command s.windowStart (.offNow k)) ∨ (∃ q, c = Item.command s.windowStart (.rest q)) ∨
        ∃ e ∈ s.sched.entries, e.onset + s.catchUpBy e = s.windowStart + c.fine ∧
          c = Item.command s.windowStart (.entry 0 (e.later (s.catchUpBy e)))) := by
  have start : s.catchUp.windowStart = s.windowStart := by
    rw [State.windowStart, State.windowStart, State.takeCycle_congr (s.catchUp_touches.time rfl)]
  rw [State.takeCommands_of_dispatch driving running] at hl
  obtain ⟨i, b, rfl, offered⟩ := (State.mem_fillSections hl).2 c hc
  rw [start]
  rcases State.mem_offered offered with ⟨k, rfl⟩ | ⟨q, rfl, -⟩ | ⟨x, hx, rfl, -⟩
  · exact ⟨Nat.zero_lt_succ 19, .inl ⟨k, rfl⟩⟩
  · exact ⟨Nat.zero_lt_succ 19, .inr (.inl ⟨q, rfl⟩)⟩
  · have inside := List.mem_map_of_mem (f := fun x => x.1) (commandsIn_sub hx)
    rw [List.zipIdx_map_fst] at inside
    obtain ⟨member, late⟩ := List.mem_filter.mp inside
    have late := of_decide_eq_true late
    have risen := State.catchUp_ahead ordered x.1 member
    obtain ⟨e, he, same⟩ := List.mem_map.mp ((s.moveEntries_perm s.catchUpBy).mem_iff.mp member)
    have fine : (Item.command s.windowStart (.entry x.2 x.1)).fine = x.1.onset - s.windowStart := rfl
    have moved : x.1.onset = e.onset + s.catchUpBy e := by rw [← same]; rfl
    refine ⟨by omega, .inr (.inr ⟨e, he, by omega, ?_⟩)⟩
    rw [same]
    rfl

/-- Settles O6: the entries the dispatch leaves stand ahead of it, and so do those of a strike asked again behind the frame. -/
theorem theDispatchLeavesNothingBehind : Obligations.TheDispatchLeavesNothingBehind := by
  intro s t driving running left waiting ordered named ht
  have start : t = State.captureRelease
      (if s.strikeWaits then s.advanceCycle.buildFrame.retryStrike else s.advanceCycle.buildFrame) :=
    (Host.Outcome.next.inj ht).symm.trans (State.cycleStart_nil_of_quiet left waiting)
  have up : ¬s.advanceCycle.link.state = .down := by
    rw [show s.advanceCycle.link.state = s.link.state from rfl, driving]
    exact fun e => LinkState.noConfusion e
  have sched : s.advanceCycle.buildFrame.sched = s.advanceCycle.takeCommands.1.sched := by
    rw [State.buildFrame, if_neg up]
  obtain ⟨x, time⟩ := s.advanceCycle.buildFrame_time
  have earliest : s.advanceCycle.buildFrame.earliest = s.advanceCycle.earliest := by
    simp only [State.earliest, State.takeCycle, State.takeCycleOf, time]
  have built : s.advanceCycle.buildFrame.Ahead s.advanceCycle.earliest :=
    (State.takeCommands_ahead (s := s.advanceCycle) driving running ordered named).congr
      (congrArg DriveSchedule.entries sched)
  obtain ⟨v, hv⟩ : ∃ v, v = if s.strikeWaits then s.advanceCycle.buildFrame.retryStrike else s.advanceCycle.buildFrame :=
    ⟨_, rfl⟩
  rw [← hv] at start
  have acted : v.Ahead s.advanceCycle.earliest ∧ v.time = s.advanceCycle.buildFrame.time ∧
      v.link = s.advanceCycle.buildFrame.link := by
    rw [hv]
    split
    · exact ⟨built.retryStrike earliest.ge, (State.retryStrike_touches _).time rfl, (State.retryStrike_touches _).link rfl⟩
    · exact ⟨built, rfl, rfl⟩
  obtain ⟨ahead, vtime, vlink⟩ := acted
  have released := v.captureRelease_touches
  refine ⟨fun e he => ?_, fun f w hf hw l hl c hc => ?_⟩
  · have now : t.earliest = s.advanceCycle.earliest := by
      rw [start, State.earliest_congr (released.time rfl), State.earliest_congr vtime, earliest]
    rw [now]
    rw [start, released.sched rfl] at he
    exact ahead e he
  · rw [start, released.link rfl, vlink, State.buildFrame, if_neg up] at hf
    cases hf
    rw [hw]
    exact State.mem_takeCommands (s := s.advanceCycle) driving running ordered hl hc

end Sys2Proof.Machine
end
